-- ==== Sys2Proof/Word.lean ====
section
/-! DEFINITION. The two bit-vector types the manual counts in: bytes on the wire and in memory, and 64-bit words
(registers, command words, sync objects). -/

namespace Sys2Proof

/-- One byte (byte 0 first on the wire, spec/00_scope.md). -/
abbrev Byte := BitVec 8

/-- One 64-bit word: a register (R13), a command word (R78), a sync object (R144). -/
abbrev Word := BitVec 64

end Sys2Proof
end

