-- ==== Sys2Proof/Syntax.lean ====
section
/-! DEFINITION. The commands of the block: one constructor per row of spec/opcode_table.json. The table gives the rows
no operand fields; an operand here says what the row's event brings with it (the port it happens on, the words that
arrive), as the rule the row cites describes it. Port numbers are the port codes of R180 (0–11 edge, 12–17 torus). -/

namespace Sys2Proof

/-- A 64-byte command as eight 64-bit words (R78, R80). -/
structure Cmd where
  w0 : Word
  w1 : Word
  w2 : Word
  w3 : Word
  w4 : Word
  w5 : Word
  w6 : Word
  w7 : Word
  deriving DecidableEq, Repr, Inhabited

/-- A key port record: words 1 to 4, then word 0 (R509). -/
structure KeyRec where
  w0 : Word
  w1 : Word
  w2 : Word
  w3 : Word
  w4 : Word
  deriving DecidableEq, Repr, Inhabited

/-- How the memory controller marks the read data it returns (R30, R404). -/
inductive MemMark where
  /-- The data stands as it was written. -/
  | clean
  /-- Marked corrected: used as returned, one corrected event. -/
  | corrected
  /-- Marked uncorrectable: the whole tile is poisoned. -/
  | uncorrectable
  /-- Not marked, but the bytes no longer match the check word. -/
  | altered
  deriving DecidableEq, Repr, Inhabited

/-- A TRAIN control block (R272, TYPE 0x60). -/
structure TrainBlk where
  reach : BitVec 2
  role  : Bool
  ready : Bool
  mask  : BitVec 16
  node  : BitVec 12
  deriving DecidableEq, Repr, Inhabited

/-- A MARK control block as one lane of a port received it (R270, R271, R272 TYPE 0x40): the lane it came on, its two
fields, and its arrival in block positions after the earliest lane's. -/
structure MarkBlk where
  lane : Nat
  idx  : Nat
  mask : BitVec 16
  skew : Nat
  deriving DecidableEq, Repr, Inhabited

/-- What a lane did while a packet was arriving (R21, R266, R267): symbols corrected, an uncorrectable unit or
codeword, a dock overrun, or a PRBS checker error on a lane under test (R311); or, a level below, a 128-bit word that reached its
dock, its PRBS checker locked, or its pilot came or went (R300). -/
inductive LaneEvt where
  | word (lane : Nat) (w : BitVec 128)
  | prbsLock (lane : Nat)
  | pilot (lane : Nat) (on : Bool)
  | corrected (lane symbols : Nat)
  | uncorrectable (lane : Nat)
  | overrun (lane : Nat)
  | prbs (lane errors : Nat)
  deriving DecidableEq, Repr, Inhabited

/-- The two SEAL control blocks behind a record (R523): phase, RN, and the 96-bit tag. -/
structure SealTag where
  ph  : Bool
  rn  : BitVec 6
  tag : BitVec 96
  deriving DecidableEq, Repr, Inhabited

/-- Where a packet waits to be admitted: at the head of a receive-stage channel of a port (R316), or among the packets
that partition `n` built (R314, R386, R393). -/
inductive AdmitSrc where
  | recv (port chan : Nat)
  | built (n : Nat)
  deriving DecidableEq, Repr, Inhabited

/-- A bit that changes in a buffer of a partition (R125, R325, R574): of a tile of its output buffer, or of the payload of the
`k`-th packet that its units hold. -/
inductive Upset where
  | tile (t bit : Nat)
  | held (k bit : Nat)
  deriving DecidableEq, Repr, Inhabited

/-- An accumulation tile changes so that it no longer meets its check (R224): of chunk `chunk` of gallery `g`, in the set of
the current step or of the next; `core` last wrote it. -/
structure AccUpset where
  g     : Nat
  chunk : Nat
  next  : Bool
  core  : Nat
  deriving DecidableEq, Repr, Inhabited

/-- What made a port declare link loss (R302). -/
inductive LossCause where
  /-- 256 ns without a valid block on any active lane, receive direction not in announced idle. -/
  | silence
  /-- 256 ns without pilot on every active lane, receive direction in announced idle. -/
  | noPilot
  /-- RETRAIN has lasted 100 µs. -/
  | retrain
  /-- The agreed mask fell below the minimum width. -/
  | narrow
  deriving DecidableEq, Repr, Inhabited

/-- An engine with a progress counter (R474), by type and index within its partition. -/
inductive Engine where
  | core (j : Nat)
  | copyEngine (m : Nat)
  | atomicUnit
  | sequencer
  deriving DecidableEq, Repr, Inhabited

/-- What the governor measures every 1 µs: the estimated power (R432), and the supply of the block domain in mV, which decides
whether a partition domain may be enabled (R52, log entry 105). -/
structure PowerMeas where
  watts : BitVec 9
  mv    : BitVec 10
  deriving DecidableEq, Repr

/-- The commands: one constructor per row of the table, in the table's order. `badTile`: the tile of the head whose check
fails as it is read (R325). `badAcc`: the core that last wrote an accumulation tile whose check fails as the row reads it
(R224). -/
inductive Instr where
  | blockPowerUp
  | blockPowerOff
  | systemAreaInitDone
  | blockResetAssert
  | blockResetComplete
  | partitionResetAssert (n : Nat)
  | partitionResetLineTake (n : Nat)
  | partitionResetRelease (n : Nat)
  | windowEnableChange (on : Bool)
  | debugWindowAccess (write : Bool) (addr : BitVec 32) (data : Word)
  | keyPortLoad (r : KeyRec)
  | keyPortActivate (r : KeyRec)
  | keyPortErase (r : KeyRec)
  | keyPortConf (r : KeyRec)
  | keyPortBind (r : KeyRec)
  | keyPortGrant (r : KeyRec)
  | keyPortHold (r : KeyRec)
  | keyPortRelease (r : KeyRec)
  | keyPortWipe (r : KeyRec)
  | droopTrip (k : Nat)
  | droopClear (k : Nat)
  | droopHoldExpiry (n : Nat)
  | droopDescentStep (n : Nat)
  | droopStuck (k : Nat)
  | thermalReading (m : Nat) (reading : BitVec 16)
  | thermalStale (m : Nat)
  | thermalDemandStep (n : Nat)
  | thermalCritical (m : Nat)
  | trefLoss
  | trefReturn
  | powerEstimate (x : PowerMeas)
  | powerDemandLower
  | powerDemandHeld
  | wearTick
  | replicaMeasure (n : Nat) (ps : BitVec 16)
  | sdbGo
  | sdbAnswer (data : BitVec 32)
  | sdbTimeout
  | memoryReadReturn (id : Nat) (mark : MemMark)
  | memoryWriteAnswer (id : Nat)
  | memoryPortTimeout (id : Nat)
  | storeCacheInvalidate (tile : Nat)
  | mirrorUpdate
  | mgmtDoorbell (tail : BitVec 12)
  | mgmtCommandFetch (cmd : Cmd)
  | mgmtPortTimeout (id : Nat)
  | mqCfgWrite
  | commandPush
  | pushSlotFreed (port : Nat)
  | spilledContextFetch (qid : Nat) (mark : MemMark)
  | queueDrained (qid : Nat)
  | put (qid : Nat)
  | putInline (qid : Nat)
  | get (qid : Nat)
  | copy (qid : Nat)
  | atomicAddI32 (qid : Nat)
  | atomicAddI64 (qid : Nat)
  | atomicAddF32 (qid : Nat)
  | atomicAddBf16x2 (qid : Nat)
  | atomicMinI64 (qid : Nat)
  | atomicMaxI64 (qid : Nat)
  | atomicCas64 (qid : Nat)
  | atomicSwap64 (qid : Nat)
  | syncAdd (qid : Nat)
  | syncSet (qid : Nat)
  | syncWait (qid : Nat)
  | fence (qid : Nat)
  | galleryContrib (qid : Nat)
  | combineContrib (qid : Nat)
  | kvRotate (qid : Nat)
  | regRead
  | regWrite
  | tableWriteQueueContext
  | tableWriteRegion
  | tableWriteSequencer
  | tableWriteRouting
  | epochSwap
  | gallerySetup
  | galleryTeardown
  | sliceCreate
  | sliceTeardown
  | sliceTeardownDrain
  | scrub
  | scanCrc
  | dump
  | fwActivate
  | fwActivateResponse (refused : Bool)
  | fwActivateTimeout
  | faultAck
  | laneTestStop
  | laneTestPrbs31
  | laneTestPrbs13q
  | laneTestNearLoop
  | laneTestFarLoop
  | attestSpdm
  | attestManifest
  | attestMailboxPoll (word0 word1 : Word)
  | attestTimeout
  | mirrorHoldScan
  | mirrorHoldTimeout
  | dxCtlWrite
  | dxNodeWrite
  | dxRouteCtlWrite
  | dxStrictWrite
  | dxRsvWrite
  | dxPortCfgWrite
  | hwfenceClear
  | dxFltFenceWrite
  | dumpSlotRelease
  | dxQuarRelease
  | dxRstCtlReq
  | returnToService
  | restart
  | pstateStill
  | pstateRun
  | pstateDormant
  | dormantDrainEnd (n : Nat)
  | wakeDone (n : Nat)
  | dxFtNowWrite
  | dxFtCfgWrite
  | dxWearWrite
  | dxNoiseWrite
  | dxSyncValWrite
  | dxSyncOwnWrite
  | dxCcCfgWrite
  | dxTelFiltWrite
  | dxCrcChWrite
  | dxSmpRingWrite
  | dxSampleWrite
  | dxPoliceWrite
  | laneBlockLock (lane : Nat)
  | laneLockLoss (lane : Nat)
  | markReceive (port : Nat) (marks : List MarkBlk)
  | trainReceive (port : Nat) (t : TrainBlk)
  | startReceive (port : Nat) (lseq : BitVec 16)
  | creditReceive (port chan : Nat) (g : BitVec 16)
  | ackBlockReceive (port : Nat) (lseq : BitVec 16)
  | nakReceive (port : Nat) (lseq : BitVec 16)
  | idleEnterReceive (port : Nat) (off : Bool)
  | linkPacketReceive (port : Nat) (pkts : List (List Byte)) (sealTag : Option SealTag) (evts : List LaneEvt)
  | creditRefresh (port : Nat)
  | controlBlockForced (port : Nat)
  | replayTimeout (port : Nat)
  | mismatchTimer (port : Nat)
  | trainingTimeout (port : Nat)
  | retrainLockWait (port : Nat)
  | linkLoss (port : Nat) (cause : LossCause)
  | downTimer (port : Nat)
  | announcedIdleEntry (port : Nat)
  | fastExit (port : Nat)
  | packetAdmit (src : AdmitSrc)
  | admissionRetry (src : AdmitSrc)
  | outputSelect (n o : Nat) (upset : Option Upset)
  | heldCellExpiry
  | putCellRx
  | putFrameRx
  | getRx
  | copyRx
  | atomicRx
  | syncAddRx
  | syncSetRx
  | syncWaitRx
  | syncWaitDeadline
  | syncWaitIssuerTimeout (txn : Nat)
  | probeRx
  | probeAnswer
  | getDataRx
  | ackRx
  | failRx
  | copyRptRx
  | retransmitTimer (snd fidx : Nat)
  | transportTimeout (txn : Nat)
  | ackDelayTimer
  | receiveRecordExpiry
  | rdAnsRx
  | wrAnsRx
  | atAnsRx
  | edgeRequestTimeout (port etag : Nat)
  | etagReuseTimer (port etag : Nat)
  | galUpRx (upset : Option AccUpset)
  | galDownRx (upset : Option AccUpset)
  | galleryContribFrameRx (upset : Option AccUpset)
  | combineContribFrameRx (upset : Option AccUpset)
  | kvRotateFrameRx
  | galAbortRx
  | actionNop (g e : Nat)
  | actionReduce (g e j : Nat)
  | actionWait (g e j : Nat)
  | actionSendup (g e j : Nat) (upset : Option AccUpset)
  | actionMcast (g e j : Nat) (upset : Option AccUpset)
  | actionForward (g e j : Nat)
  | actionDispatch (g e j : Nat)
  | actionDswrite (g e j : Nat) (upset : Option AccUpset)
  | actionDsread (g e j : Nat)
  | actionSyncadd (g e : Nat)
  | actionAdvance (g e : Nat)
  | stepTimeout (g : Nat)
  | epochCtlPrepare
  | epochCtlSwitch
  | epochCtlPoll
  | epochCtlRetire
  | epochCtlReplyRx
  | epochCtlTimeout (node : Nat)
  | swapDrainLimit
  | rateIncrease (slice dst : Nat)
  | shaperRelease (slice dst : Nat)
  | gateRelease (n : Nat)
  | timeSyncTimer
  | timeSyncRequestRx
  | timeSyncResponseRx
  | syncHoldoverTimer
  | syncReacquireTimer
  | faultAckDeadline (u cls : Nat)
  | faultQuiet (u : Nat)
  | engineStall (n : Nat) (e : Engine)
  | heartbeat
  | heartbeatCheck
  | interpAutoRestart
  | dumpUnitRead
  | dumpReadTimeout (word : Nat)
  | dumpTimeLimit
  | dumpWaitEnd
  | partitionClear (n : Nat)
  | partitionReady (n : Nat)
  | resetWindowExpiry (n : Nat)
  | blockResetRelease
  | mgmtMemoryPortAnswer (id : Nat) (data : List Byte)
  deriving DecidableEq, Repr

end Sys2Proof
end

