-- ==== Sys2Proof/WellFormed.lean ====
section
/-! DEFINITION. Well-formed commands: every unit an operand names is one the block has (R1 and the counts of
spec/00_scope.md and spec/01_boundary.md). -/

namespace Sys2Proof

/-- The engine exists in its partition: 8 cores, 2 copy engines. -/
def Engine.wf : Engine → Bool
  | .core j => decide (j < 8)
  | .copyEngine m => decide (m < 2)
  | .atomicUnit => true
  | .sequencer => true

/-- The lane exists. -/
def LaneEvt.wf : LaneEvt → Bool
  | .word lane _ => decide (lane < 192)
  | .prbsLock lane => decide (lane < 192)
  | .pilot lane _ => decide (lane < 192)
  | .corrected lane _ => decide (lane < 192)
  | .uncorrectable lane => decide (lane < 192)
  | .overrun lane => decide (lane < 192)
  | .prbs lane _ => decide (lane < 192)

/-- The port, channel or partition exists. -/
def AdmitSrc.wf : AdmitSrc → Bool
  | .recv port chan => decide (port < 18 ∧ chan < 12)
  | .built n => decide (n < 6)

/-- The tile and the bit exist (R574). -/
def Upset.wf : Upset → Bool
  | .tile t bit => decide (t < 98304 ∧ bit < 2048)
  | .held _ _ => true

/-- The gallery, chunk and core exist. -/
def AccUpset.wf (u : AccUpset) : Bool := decide (u.g < 4096 ∧ u.chunk < 16777216 ∧ u.core < 8)

/-- Every unit an operand names exists. -/
def Instr.wf : Instr → Bool
  | .blockPowerUp => true
  | .blockPowerOff => true
  | .systemAreaInitDone => true
  | .blockResetAssert => true
  | .blockResetComplete => true
  | .partitionResetAssert n => decide (n < 6)
  | .partitionResetLineTake n => decide (n < 6)
  | .partitionResetRelease n => decide (n < 6)
  | .windowEnableChange _ => true
  | .debugWindowAccess _ _ _ => true
  | .keyPortLoad _ => true
  | .keyPortActivate _ => true
  | .keyPortErase _ => true
  | .keyPortConf _ => true
  | .keyPortBind _ => true
  | .keyPortGrant _ => true
  | .keyPortHold _ => true
  | .keyPortRelease _ => true
  | .keyPortWipe _ => true
  | .droopTrip k => decide (k < 24)
  | .droopClear k => decide (k < 24)
  | .droopHoldExpiry n => decide (n < 6)
  | .droopDescentStep n => decide (n < 6)
  | .droopStuck k => decide (k < 24)
  | .thermalReading m _ => decide (m < 12)
  | .thermalStale m => decide (m < 12)
  | .thermalDemandStep n => decide (n < 6)
  | .thermalCritical m => decide (m < 12)
  | .trefLoss => true
  | .trefReturn => true
  | .powerEstimate _ => true
  | .powerDemandLower => true
  | .powerDemandHeld => true
  | .wearTick => true
  | .replicaMeasure n _ => decide (n < 6)
  | .sdbGo => true
  | .sdbAnswer _ => true
  | .sdbTimeout => true
  | .memoryReadReturn _ _ => true
  | .memoryWriteAnswer _ => true
  | .memoryPortTimeout _ => true
  | .storeCacheInvalidate _ => true
  | .mirrorUpdate => true
  | .mgmtDoorbell _ => true
  | .mgmtCommandFetch _ => true
  | .mgmtPortTimeout _ => true
  | .mqCfgWrite => true
  | .commandPush => true
  | .pushSlotFreed port => decide (port < 12)
  | .spilledContextFetch qid _ => decide (qid < 1048576)
  | .queueDrained qid => decide (qid < 1048576)
  | .put qid => decide (qid < 1048576)
  | .putInline qid => decide (qid < 1048576)
  | .get qid => decide (qid < 1048576)
  | .copy qid => decide (qid < 1048576)
  | .atomicAddI32 qid => decide (qid < 1048576)
  | .atomicAddI64 qid => decide (qid < 1048576)
  | .atomicAddF32 qid => decide (qid < 1048576)
  | .atomicAddBf16x2 qid => decide (qid < 1048576)
  | .atomicMinI64 qid => decide (qid < 1048576)
  | .atomicMaxI64 qid => decide (qid < 1048576)
  | .atomicCas64 qid => decide (qid < 1048576)
  | .atomicSwap64 qid => decide (qid < 1048576)
  | .syncAdd qid => decide (qid < 1048576)
  | .syncSet qid => decide (qid < 1048576)
  | .syncWait qid => decide (qid < 1048576)
  | .fence qid => decide (qid < 1048576)
  | .galleryContrib qid => decide (qid < 1048576)
  | .combineContrib qid => decide (qid < 1048576)
  | .kvRotate qid => decide (qid < 1048576)
  | .regRead => true
  | .regWrite => true
  | .tableWriteQueueContext => true
  | .tableWriteRegion => true
  | .tableWriteSequencer => true
  | .tableWriteRouting => true
  | .epochSwap => true
  | .gallerySetup => true
  | .galleryTeardown => true
  | .sliceCreate => true
  | .sliceTeardown => true
  | .sliceTeardownDrain => true
  | .scrub => true
  | .scanCrc => true
  | .dump => true
  | .fwActivate => true
  | .fwActivateResponse _ => true
  | .fwActivateTimeout => true
  | .faultAck => true
  | .laneTestStop => true
  | .laneTestPrbs31 => true
  | .laneTestPrbs13q => true
  | .laneTestNearLoop => true
  | .laneTestFarLoop => true
  | .attestSpdm => true
  | .attestManifest => true
  | .attestMailboxPoll _ _ => true
  | .attestTimeout => true
  | .mirrorHoldScan => true
  | .mirrorHoldTimeout => true
  | .dxCtlWrite => true
  | .dxNodeWrite => true
  | .dxRouteCtlWrite => true
  | .dxStrictWrite => true
  | .dxRsvWrite => true
  | .dxPortCfgWrite => true
  | .hwfenceClear => true
  | .dxFltFenceWrite => true
  | .dumpSlotRelease => true
  | .dxQuarRelease => true
  | .dxRstCtlReq => true
  | .returnToService => true
  | .restart => true
  | .pstateStill => true
  | .pstateRun => true
  | .pstateDormant => true
  | .dormantDrainEnd n => decide (n < 6)
  | .wakeDone n => decide (n < 6)
  | .dxFtNowWrite => true
  | .dxFtCfgWrite => true
  | .dxWearWrite => true
  | .dxNoiseWrite => true
  | .dxSyncValWrite => true
  | .dxSyncOwnWrite => true
  | .dxCcCfgWrite => true
  | .dxTelFiltWrite => true
  | .dxCrcChWrite => true
  | .dxSmpRingWrite => true
  | .dxSampleWrite => true
  | .dxPoliceWrite => true
  | .laneBlockLock lane => decide (lane < 192)
  | .laneLockLoss lane => decide (lane < 192)
  | .markReceive port marks => decide (port < 18 ∧ (marks.all (fun b => decide (b.lane < if port < 12 then 8 else 16))) = true)
  | .trainReceive port _ => decide (port < 18)
  | .startReceive port _ => decide (port < 18)
  | .creditReceive port chan _ => decide (port < 18 ∧ chan < 16)
  | .ackBlockReceive port _ => decide (port < 18)
  | .nakReceive port _ => decide (port < 18)
  | .idleEnterReceive port _ => decide (port < 18)
  | .linkPacketReceive port _ _ evts => decide (port < 18 ∧ (evts.all LaneEvt.wf) = true)
  | .creditRefresh port => decide (port < 18)
  | .controlBlockForced port => decide (port < 18)
  | .replayTimeout port => decide (port < 18)
  | .mismatchTimer port => decide (port < 18)
  | .trainingTimeout port => decide (port < 18)
  | .retrainLockWait port => decide (port < 18)
  | .linkLoss port _ => decide (port < 18)
  | .downTimer port => decide (port < 18)
  | .announcedIdleEntry port => decide (port < 18)
  | .fastExit port => decide (port < 18)
  | .packetAdmit src => decide (src.wf = true)
  | .admissionRetry src => decide (src.wf = true)
  | .outputSelect n o upset => decide (n < 6 ∧ o < 5 ∧ (upset.all Upset.wf) = true)
  | .heldCellExpiry => true
  | .putCellRx => true
  | .putFrameRx => true
  | .getRx => true
  | .copyRx => true
  | .atomicRx => true
  | .syncAddRx => true
  | .syncSetRx => true
  | .syncWaitRx => true
  | .syncWaitDeadline => true
  | .syncWaitIssuerTimeout _ => true
  | .probeRx => true
  | .probeAnswer => true
  | .getDataRx => true
  | .ackRx => true
  | .failRx => true
  | .copyRptRx => true
  | .retransmitTimer _ fidx => decide (fidx < 128)
  | .transportTimeout _ => true
  | .ackDelayTimer => true
  | .receiveRecordExpiry => true
  | .rdAnsRx => true
  | .wrAnsRx => true
  | .atAnsRx => true
  | .edgeRequestTimeout port etag => decide (port < 12 ∧ etag < 256)
  | .etagReuseTimer port etag => decide (port < 12 ∧ etag < 256)
  | .galUpRx upset => decide ((upset.all AccUpset.wf) = true)
  | .galDownRx upset => decide ((upset.all AccUpset.wf) = true)
  | .galleryContribFrameRx upset => decide ((upset.all AccUpset.wf) = true)
  | .combineContribFrameRx upset => decide ((upset.all AccUpset.wf) = true)
  | .kvRotateFrameRx => true
  | .galAbortRx => true
  | .actionNop g e => decide (g < 4096 ∧ e < 16384)
  | .actionReduce g e j => decide (g < 4096 ∧ e < 16384 ∧ j < 16777216)
  | .actionWait g e j => decide (g < 4096 ∧ e < 16384 ∧ j < 16777216)
  | .actionSendup g e j upset => decide (g < 4096 ∧ e < 16384 ∧ j < 16777216 ∧ (upset.all AccUpset.wf) = true)
  | .actionMcast g e j upset => decide (g < 4096 ∧ e < 16384 ∧ j < 16777216 ∧ (upset.all AccUpset.wf) = true)
  | .actionForward g e j => decide (g < 4096 ∧ e < 16384 ∧ j < 16777216)
  | .actionDispatch g e j => decide (g < 4096 ∧ e < 16384 ∧ j < 16777216)
  | .actionDswrite g e j upset => decide (g < 4096 ∧ e < 16384 ∧ j < 16777216 ∧ (upset.all AccUpset.wf) = true)
  | .actionDsread g e j => decide (g < 4096 ∧ e < 16384 ∧ j < 16777216)
  | .actionSyncadd g e => decide (g < 4096 ∧ e < 16384)
  | .actionAdvance g e => decide (g < 4096 ∧ e < 16384)
  | .stepTimeout g => decide (g < 4096)
  | .epochCtlPrepare => true
  | .epochCtlSwitch => true
  | .epochCtlPoll => true
  | .epochCtlRetire => true
  | .epochCtlReplyRx => true
  | .epochCtlTimeout node => decide (node < 4096)
  | .swapDrainLimit => true
  | .rateIncrease slice dst => decide (slice < 64 ∧ dst < 65536)
  | .shaperRelease slice dst => decide (slice < 64 ∧ dst < 65536)
  | .gateRelease n => decide (n < 6)
  | .timeSyncTimer => true
  | .timeSyncRequestRx => true
  | .timeSyncResponseRx => true
  | .syncHoldoverTimer => true
  | .syncReacquireTimer => true
  | .faultAckDeadline u cls => decide (u < 7 ∧ 1 ≤ cls ∧ cls ≤ 3)
  | .faultQuiet u => decide (u < 7)
  | .engineStall n e => decide (n < 6 ∧ e.wf = true)
  | .heartbeat => true
  | .heartbeatCheck => true
  | .interpAutoRestart => true
  | .dumpUnitRead => true
  | .dumpReadTimeout _ => true
  | .dumpTimeLimit => true
  | .dumpWaitEnd => true
  | .partitionClear n => decide (n < 6)
  | .partitionReady n => decide (n < 6)
  | .resetWindowExpiry n => decide (n < 6)
  | .blockResetRelease => true
  | .mgmtMemoryPortAnswer _ _ => true

end Sys2Proof
end

