-- ==== Sys2Proof/Machine/Bits.lean ====
section
/-! DEFINITION. Bit fields of 64-bit words, little-endian byte strings, and small list helpers. -/

namespace Sys2Proof.Machine

/-- A field of a word: lowest bit and width. -/
structure Pos where
  lo : Nat
  w  : Nat
  deriving DecidableEq, Repr

/-- The value of field `p` of `r`. -/
def fget (r : Word) (p : Pos) : Nat := (r.toNat >>> p.lo) % 2 ^ p.w

/-- A mask of ones over field `p`. -/
def fmask (p : Pos) : Word := BitVec.ofNat 64 ((2 ^ p.w - 1) <<< p.lo)

/-- `r` with field `p` holding `v mod 2^w`. -/
def fset (r : Word) (p : Pos) (v : Nat) : Word :=
  (r &&& ~~~ (fmask p)) ||| BitVec.ofNat 64 ((v % 2 ^ p.w) <<< p.lo)

/-- Add `k` to field `p`, saturating at its maximum ("saturates" in the register maps). -/
def fsat (r : Word) (p : Pos) (k : Nat) : Word := fset r p (min (fget r p + k) (2 ^ p.w - 1))

/-- The lowest set bit of a word. -/
def lowBit (w : Word) : Nat := ((List.range 64).find? (fun i => w.getLsbD i)).getD 0

/-- Where the fields of a word that are named start and end: between them lie its reserved fields. -/
def cutsOf (l : List Pos) : List Nat := l.flatMap (fun p => [p.lo, p.lo + p.w])

/-- The byte, within its word, at which the field of `bad`'s lowest set bit starts, where fields start at the bits `cuts`. -/
def fieldByte (cuts : List Nat) (bad : Word) : Nat :=
  cuts.foldl (fun a k => if a ≤ k ∧ k ≤ lowBit bad then k else a) 0 / 8

/-- Bit `i` of a natural number. -/
def nbit (x i : Nat) : Bool := x.testBit i

/-- Bits `[lo + w - 1 : lo]` of a natural number. -/
def nfld (x lo w : Nat) : Nat := (x >>> lo) % 2 ^ w

/-- `n` bytes of `x`, byte 0 (the lowest) first. -/
def natBytes : Nat → Nat → List Byte
  | 0, _ => []
  | n + 1, x => BitVec.ofNat 8 x :: natBytes n (x / 256)

/-- The little-endian value of a byte string. -/
def bytesNat : List Byte → Nat
  | [] => 0
  | b :: t => b.toNat + 256 * bytesNat t

/-- `n` zero bytes. -/
def zeros (n : Nat) : List Byte := List.replicate n 0#8

/-- `l` cut or padded with zero bytes to `n` bytes. -/
def padTo (n : Nat) (l : List Byte) : List Byte := l.take n ++ zeros (n - l.length)

/-- Bytes `[off, off + len)` of `l`. -/
def slice (l : List Byte) (off len : Nat) : List Byte := (l.drop off).take len

/-- `l` with `d` written from offset `off`. -/
def splice (l : List Byte) (off : Nat) (d : List Byte) : List Byte :=
  let m := if l.length < off then l ++ zeros (off - l.length) else l
  m.take off ++ d ++ m.drop (off + d.length)

/-- Set bits of a mask below `n`, lowest first. -/
def bitsOf (m n : Nat) : List Nat := (List.range n).filter (fun i => m.testBit i)

/-- Number of set bits of a mask below `n`. -/
def popcount (m n : Nat) : Nat := (bitsOf m n).length

/-- Ceiling division. -/
def cdiv (a b : Nat) : Nat := (a + b - 1) / b

/-- Two's complement value of a `w`-bit field. -/
def sext (w x : Nat) : Int := if x % 2 ^ w ≥ 2 ^ (w - 1) then (x % 2 ^ w : Int) - 2 ^ w else (x % 2 ^ w : Int)

/-- The `w`-bit two's complement code of an integer. -/
def wrapInt (w : Nat) (i : Int) : Nat := (i % (2 ^ w : Int)).toNat

/-- Serial-number comparison mod 2^16 over a window of 32,768 (R290, R466): `a` is before `b`. -/
def serialBefore (a b : Nat) : Bool :=
  let d := (b + 65536 - a % 65536) % 65536
  decide (0 < d ∧ d < 32768)

/-- Replace the first element meeting `p` by its image. -/
def updFirst {α : Type} (p : α → Bool) (f : α → α) : List α → List α
  | [] => []
  | x :: t => if p x then f x :: t else x :: updFirst p f t

/-- Remove the first element meeting `p`. -/
def dropFirst {α : Type} (p : α → Bool) : List α → List α
  | [] => []
  | x :: t => if p x then t else x :: dropFirst p t

/-- Map the elements meeting `p`. -/
def updAll {α : Type} (p : α → Bool) (f : α → α) (l : List α) : List α := l.map (fun x => if p x then f x else x)

/-- Sum of a measure over a list. -/
def sumBy {α : Type} (f : α → Nat) (l : List α) : Nat := l.foldl (fun a x => a + f x) 0

end Sys2Proof.Machine
end

