-- ==== Sys2Proof/Machine/Aes.lean ====
section
/-! DEFINITION. AES-256-GCM, the cipher that link sealing and weight fan-out name (R523, R531); the algorithm itself is
the public standard the rules cite (FIPS 197, SP 800-38D). -/

namespace Sys2Proof.Machine

/-- Multiplication by x in GF(2^8). -/
def xtime (a : Nat) : Nat := let b := 2 * a; (if 256 ≤ b then b ^^^ 0x11B else b) % 256

/-- Product in GF(2^8), eight steps. -/
def gmulN : Nat → Nat → Nat → Nat → Nat
  | 0, _, _, acc => acc
  | n + 1, a, b, acc => gmulN n (xtime a) (b / 2) (if b % 2 = 1 then acc ^^^ a else acc)

def gmul (a b : Nat) : Nat := gmulN 8 a b 0

/-- a^254, the inverse (0 stays 0). -/
def ginv (a : Nat) : Nat :=
  let a2 := gmul a a
  let a3 := gmul a2 a
  let a12 := let x := gmul a3 a3; gmul x x
  let a15 := gmul a12 a3
  let a240 := let x := gmul a15 a15; let x := gmul x x; let x := gmul x x; gmul x x
  gmul (gmul a240 a12) a2

/-- The S-box. -/
def sbox (a : Nat) : Nat :=
  let b := ginv a
  let r (k : Nat) : Nat := ((b <<< k) ||| (b >>> (8 - k))) % 256
  b ^^^ r 1 ^^^ r 2 ^^^ r 3 ^^^ r 4 ^^^ 0x63

/-- Bytewise exclusive-or. -/
def xorL (a b : List Nat) : List Nat := List.zipWith (· ^^^ ·) a b

/-- Words of the key schedule, newest first, from `i` words made (AES-256: 60 words). -/
def keyWords : Nat → Nat → List (List Nat) → List (List Nat)
  | 0, _, ws => ws
  | n + 1, i, ws =>
    let prev := ws.headD []
    let back := ws.getD 7 []
    let t := if i % 8 = 0 then
        xorL ((prev.rotateLeft 1).map sbox) [2 ^ (i / 8 - 1), 0, 0, 0]
      else if i % 8 = 4 then prev.map sbox else prev
    keyWords n (i + 1) (xorL back t :: ws)

/-- The 15 round keys of a 32-byte key. -/
def roundKeys (k : List Nat) : List (List Nat) :=
  let w0 := ((List.range 8).map (fun i => (k.drop (4 * i)).take 4)).reverse
  let ws := (keyWords 52 8 w0).reverse
  (List.range 15).map (fun r => ((ws.drop (4 * r)).take 4).flatten)

/-- SubBytes and ShiftRows. -/
def subShift (s : List Nat) : List Nat :=
  (List.range 16).map (fun i => sbox (s.getD ((i + 4 * (i % 4)) % 16) 0))

/-- MixColumns. -/
def mixCols (s : List Nat) : List Nat :=
  (List.range 16).map (fun i =>
    let g (r : Nat) : Nat := s.getD (4 * (i / 4) + (i + r) % 4) 0
    gmul 2 (g 0) ^^^ gmul 3 (g 1) ^^^ g 2 ^^^ g 3)

/-- One block. -/
def aesBlock (ks : List (List Nat)) (b : List Nat) : List Nat :=
  let s0 := xorL b (ks.headD [])
  let s := ((ks.drop 1).take 13).foldl (fun s k => xorL (mixCols (subShift s)) k) s0
  xorL (subShift s) (ks.getD 14 [])

/-- Big-endian value of bytes. -/
def beNat (l : List Nat) : Nat := l.foldl (fun a b => 256 * a + b) 0
/-- `n` big-endian bytes. -/
def beBytes (n x : Nat) : List Nat := ((List.range n).map (fun i => (x >>> (8 * i)) % 256)).reverse

/-- GHASH product: `z`, `v`, and the bits of `y` from the top. -/
def ghashMul : Nat → Nat → Nat → Nat → Nat
  | 0, z, _, _ => z
  | n + 1, z, v, y =>
    ghashMul n (if y.testBit n then z ^^^ v else z)
      (if v % 2 = 1 then (v / 2) ^^^ (0xE1 <<< 120) else v / 2) y

/-- GHASH over 16-byte blocks. -/
def ghashRun (h : Nat) : Nat → Nat → List Nat → Nat
  | 0, y, _ => y
  | n + 1, y, l =>
    if l.isEmpty then y
    else
      let b := l.take 16 ++ List.replicate (16 - (l.take 16).length) 0
      ghashRun h n (ghashMul 128 0 (y ^^^ beNat b) h) (l.drop 16)

/-- Zeros that complete the last 16-byte block. -/
def pad16 (l : List Nat) : List Nat := l ++ List.replicate ((16 - l.length % 16) % 16) 0

/-- The key stream applied to `l`, counter from `c`. -/
def ctrRun (ks : List (List Nat)) (iv : List Nat) : Nat → Nat → List Nat → List Nat
  | 0, _, _ => []
  | n + 1, c, l =>
    if l.isEmpty then []
    else xorL (l.take 16) (aesBlock ks (iv ++ beBytes 4 c)) ++ ctrRun ks iv n (c + 1) (l.drop 16)

/-- The cipher stream and the tag of a ciphertext: key (256 bits), IV (96 bits), additional data, input, and whether
the input is plaintext. Answers the other text and the 128-bit tag. -/
def gcm (key : BitVec 256) (iv : BitVec 96) (aad inp : List Byte) (enc : Bool) : List Byte × BitVec 128 :=
  let ks := roundKeys ((natBytes 32 key.toNat).map (·.toNat))
  let ivb := beBytes 12 iv.toNat
  let x := inp.map (·.toNat)
  let y := ctrRun ks ivb (x.length / 16 + 1) 2 x
  let ct := if enc then y else x
  let a := aad.map (·.toNat)
  let h := beNat (aesBlock ks (List.replicate 16 0))
  let m := pad16 a ++ pad16 ct ++ beBytes 8 (8 * a.length) ++ beBytes 8 (8 * ct.length)
  let g := ghashRun h (m.length / 16 + 1) 0 m
  let t := xorL (beBytes 16 g) (aesBlock ks (ivb ++ beBytes 4 1))
  (y.map (BitVec.ofNat 8 ·), BitVec.ofNat 128 (beNat t))

end Sys2Proof.Machine
end

