-- ==== Sys2Proof/Machine/Num.lean ====
section
/-! DEFINITION. Number formats (spec/06_reduction_arithmetic.md): exact decoding, the accumulator fold, emission; and
the floating-point sums of the atomics (R109). -/

namespace Sys2Proof.Machine

/-- An exact value: NaN, an infinity, or `(-1)^neg * m * 2^e`. -/
inductive Val where
  | nan
  | inf (neg : Bool)
  | fin (neg : Bool) (m : Nat) (e : Int)
  deriving DecidableEq, Repr, Inhabited

/-- `m * 2^d` truncated toward zero. -/
def shiftInt (m : Nat) (d : Int) : Nat := if 0 ≤ d then m <<< d.toNat else m >>> (-d).toNat

/-- Exponent of the highest set bit of a non-zero magnitude. -/
def msbOf (m : Nat) (e : Int) : Int := (Nat.log2 m : Int) + e

/-- Parameters of a binary element format: width, significand bits with the hidden one, bias, smallest normal
exponent, largest finite value as `(m, e)` and its code, emax (R208, R225, R230). -/
structure Fmt where
  w    : Nat
  p    : Nat
  bias : Int
  emin : Int
  maxM : Nat
  maxE : Int
  maxC : Nat
  emax : Int
  deriving DecidableEq, Repr

/-- The floating-point formats of R208; FMT 10 (MXINT8) is a fixed-point code of LSB 2^-6. -/
def fmtOf (f : Nat) : Fmt :=
  match f with
  | 0 => ⟨32, 24, 127, -126, 2 ^ 24 - 1, 104, 0x7F7FFFFF, 127⟩
  | 1 => ⟨16, 11, 15, -14, 2 ^ 11 - 1, 5, 0x7BFF, 15⟩
  | 2 => ⟨16, 8, 127, -126, 255, 120, 0x7F7F, 127⟩
  | 5 => ⟨8, 4, 7, -6, 14, 5, 0x7E, 8⟩
  | 6 => ⟨8, 3, 15, -14, 7, 13, 0x7B, 15⟩
  | 7 => ⟨6, 3, 3, -2, 7, 2, 0x1F, 4⟩
  | 8 => ⟨6, 4, 1, 0, 15, -1, 0x1F, 2⟩
  | 9 => ⟨4, 2, 1, 0, 3, 1, 0x7, 2⟩
  | _ => ⟨8, 8, 0, 0, 127, -6, 0x7F, 0⟩

/-- MX formats are held in pecks (R208). -/
def isMX (f : Nat) : Bool := decide (5 ≤ f ∧ f ≤ 10)
/-- Integer formats. -/
def isInt (f : Nat) : Bool := decide (f = 3 ∨ f = 4)
/-- Element width in bits. -/
def elemBits (f : Nat) : Nat := if f = 3 then 32 else if f = 4 then 64 else (fmtOf f).w

/-- Decode an element code exactly (R208, R209); integers decode to their value. -/
def decodeElem (f c : Nat) : Val :=
  if f = 3 ∨ f = 4 ∨ f = 10 then
    let i := sext (elemBits f) c
    .fin (decide (i < 0)) i.natAbs (if f = 10 then -6 else 0)
  else
    let F := fmtOf f
    let fb := F.p - 1
    let eb := F.w - 1 - fb
    let sgn := nbit c (F.w - 1)
    let ex := nfld c fb eb
    let fr := nfld c 0 fb
    let top := decide (ex = 2 ^ eb - 1)
    if top && decide (f = 0 ∨ f = 1 ∨ f = 2 ∨ f = 6) then (if fr = 0 then .inf sgn else .nan)
    else if top && decide (f = 5) && decide (fr = 7) then .nan
    else if ex = 0 then .fin sgn fr (F.emin - fb)
    else .fin sgn (2 ^ fb + fr) ((ex : Int) - F.bias - fb)

/-- Scale a value by 2^k. -/
def Val.scale (v : Val) (k : Int) : Val :=
  match v with
  | .fin n m e => .fin n m (e + k)
  | v => v

/-- Exact product (R218). -/
def Val.mul (a b : Val) : Val :=
  match a, b with
  | .nan, _ => .nan
  | _, .nan => .nan
  | .inf x, .inf y => .inf (x ^^ y)
  | .inf x, .fin y m _ => if m = 0 then .nan else .inf (x ^^ y)
  | .fin x m _, .inf y => if m = 0 then .nan else .inf (x ^^ y)
  | .fin x m e, .fin y n g => .fin (x ^^ y) (m * n) (e + g)

/-- Exact signed sum of two finite values: zero keeps a common sign, otherwise +0 (R109, R216). -/
def addFin (x : Bool) (m : Nat) (e : Int) (y : Bool) (n : Nat) (g : Int) : Val :=
  let b := min e g
  let i : Int := (if x then -1 else 1) * (shiftInt m (e - b) : Int)
  let j : Int := (if y then -1 else 1) * (shiftInt n (g - b) : Int)
  let r := i + j
  if r = 0 then .fin (x && y && decide (m = 0 ∧ n = 0)) 0 0 else .fin (decide (r < 0)) r.natAbs b

/-- Sum with the special values of IEEE 754 (R109, R217). -/
def Val.add (a b : Val) : Val :=
  match a, b with
  | .nan, _ => .nan
  | _, .nan => .nan
  | .inf x, .inf y => if x = y then .inf x else .nan
  | .inf x, _ => .inf x
  | _, .inf y => .inf y
  | .fin x m e, .fin y n g => addFin x m e y n g

/-- Numerical order used by MIN and MAX: -0 below +0 (R220); NaN is handled by the caller. -/
def Val.lt (a b : Val) : Bool :=
  match a, b with
  | .nan, _ => false
  | _, .nan => false
  | .inf x, .inf y => x && !y
  | .inf x, .fin .. => x
  | .fin .., .inf y => !y
  | .fin x m e, .fin y n g =>
    let c := min e g
    let i := shiftInt m (e - c)
    let j := shiftInt n (g - c)
    if x ≠ y then x else if x then decide (j < i) else decide (i < j)

/-- Kept magnitude and rounding of `m * 2^e` at LSB `2^q` (R225): `(k, half, up)` with mode 0 RNE, 1 RTZ, 2 SR. -/
def roundAt (m : Nat) (e q : Int) (mode noise : Nat) : Nat × Bool :=
  let d := e - q
  if 0 ≤ d then (m <<< d.toNat, false)
  else
    let n := (-d).toNat
    let k := m >>> n
    let fr := m % 2 ^ n
    let tie := decide (2 * fr = 2 ^ n)
    let up := if mode = 0 then decide (2 ^ n < 2 * fr) || (tie && decide (k % 2 = 1))
              else if mode = 2 then decide (4096 ≤ fr * 4096 / 2 ^ n + noise % 4096)
              else false
    (if up then k + 1 else k, tie)

/-- The code of `k * 2^q` in a binary format, sign aside. -/
def packFin (F : Fmt) (k : Nat) (q : Int) : Nat :=
  if k = 0 then 0
  else
    let fb := F.p - 1
    let ev := msbOf k q
    if ev < F.emin then k
    else ((ev + F.bias).toNat <<< fb) + (shiftInt k (q - (ev - fb)) - 2 ^ fb)

/-- The result of emitting one element: code, counted in SAT, counted in UFL (R226 to R232). -/
structure Emit where
  code : Nat
  sat  : Bool
  ufl  : Bool
  deriving DecidableEq, Repr

/-- The code for a value beyond the largest (R227): `sat` where it is a largest-finite code. -/
def beyond (f : Nat) (neg ovf : Bool) (mode : Nat) : Emit :=
  let F := fmtOf f
  let s := if neg then 2 ^ (F.w - 1) else 0
  let big : Emit := ⟨if f = 10 then (if neg then 0x81 else 0x7F) else s + F.maxC, true, false⟩
  if !ovf || decide (mode = 1) then big
  else match f with
    | 0 => ⟨s + 0x7F800000, false, false⟩
    | 1 => ⟨s + 0x7C00, false, false⟩
    | 2 => ⟨s + 0x7F80, false, false⟩
    | 5 => ⟨s + 0x7F, false, false⟩
    | 6 => ⟨s + 0x7C, false, false⟩
    | _ => big

/-- Canonical NaN of a binary format (R228). -/
def canonNaN (f : Nat) : Nat := if f = 0 then 0x7FC00000 else if f = 1 then 0x7E00 else 0x7FC0

/-- Emit one value in format `f` against scale exponent `x` (R225 to R229). -/
def emitVal (f : Nat) (mode : Nat) (ovf : Bool) (x : Int) (noise : Nat) (v : Val) : Emit :=
  let F := fmtOf f
  let mx := isMX f
  match v with
  | .nan => ⟨if mx then 0 else canonNaN f, false, false⟩
  | .inf n => beyond f n ovf 0
  | .fin n m e =>
    let s := if n then 2 ^ (F.w - 1) else 0
    if m = 0 then ⟨if mx then 0 else s, false, false⟩
    else
      let e1 := e - x
      let q : Int := if f = 10 then -6 else max (msbOf m e1) F.emin - (F.p - 1)
      let (k, tie) := roundAt m e1 q mode noise
      let kt := shiftInt m (e1 - q)
      let b := min q F.maxE
      let r := shiftInt k (q - b)
      let big := shiftInt F.maxM (F.maxE - b)
      let past := decide (big < r) || (decide (mode = 0) && tie && decide (shiftInt kt (q - b) = big))
      if past then beyond f n ovf mode
      else if k = 0 then ⟨if mx then 0 else s, false, mx⟩
      else if f = 10 then ⟨if n then 256 - k else k, false, false⟩
      else ⟨s + packFin F k q, false, false⟩

/-! ### Atomics (R108, R109) -/

/-- Round to nearest even into binary32 (`f = 0`) or bfloat16 (`f = 2`): overflow gives an infinity (R109). -/
def roundIEEE (f : Nat) (v : Val) : Nat := (emitVal f 0 true 0 0 v).code

/-- Sum of two codes of a format (R109). -/
def fadd (f a b : Nat) : Nat := roundIEEE f ((decodeElem f a).add (decodeElem f b))

/-- The word an ATOMIC leaves (R108): memory word `m`, operand `a`, compare value `c`. -/
def atomicOp (op m a c : Nat) : Nat :=
  match op with
  | 0 => (m + a) % 2 ^ 32
  | 1 => (m + a) % 2 ^ 64
  | 2 => fadd 0 (m % 2 ^ 32) (a % 2 ^ 32)
  | 3 => fadd 2 (m % 2 ^ 16) (a % 2 ^ 16) + (fadd 2 (nfld m 16 16) (nfld a 16 16)) <<< 16
  | 4 => if sext 64 m ≤ sext 64 a then m % 2 ^ 64 else a % 2 ^ 64
  | 5 => if sext 64 m ≤ sext 64 a then a % 2 ^ 64 else m % 2 ^ 64
  | 6 => if m % 2 ^ 64 = c % 2 ^ 64 then a % 2 ^ 64 else m % 2 ^ 64
  | _ => a % 2 ^ 64

/-! ### The accumulator (R213 to R220) -/

/-- The value of a floating-point accumulator word; `none` is EMPTY. -/
def accVal (w : Nat) : Option Val :=
  let cls := nfld w 62 2
  let s := nbit w 61
  let e := nfld w 50 8
  let m := nfld w 0 27
  match cls with
  | 0 => none
  | 1 => some (.fin s m (if e = 0 then -152 else (e : Int) - 153))
  | 2 => some (.inf s)
  | _ => some .nan

/-- window(v) of a finite value as an accumulator word (R213, R215). DESIGN CHOICE (log entry 116): a product that lies wholly below the
window leaves a zero of the product's sign. -/
def windowWord (n : Bool) (m : Nat) (e : Int) : Nat :=
  let sb := if n then 2 ^ 61 else 0
  if m = 0 then 2 ^ 62 + sb
  else
    let l := max (msbOf m e) (-126)
    let k := shiftInt m (e - (l - 26))
    2 ^ 62 + sb + (if 2 ^ 26 ≤ k then (l + 127).toNat <<< 50 else 0) + k

/-- A value as an accumulator word. -/
def accWord (v : Val) : Nat :=
  match v with
  | .nan => 3 * 2 ^ 62
  | .inf n => 2 * 2 ^ 62 + (if n then 2 ^ 61 else 0)
  | .fin n m e => windowWord n m e

/-- A finite addend of magnitude 2^128 or more enters as INF (R217). -/
def enter (v : Val) : Val :=
  match v with
  | .fin n m e => if m ≠ 0 ∧ 128 ≤ msbOf m e then .inf n else v
  | v => v

/-- Truncate a finite magnitude below weight 2^lsb, toward zero. -/
def truncBelow (m : Nat) (e lsb : Int) : Nat × Int := if lsb ≤ e then (m, e) else (shiftInt m (e - lsb), lsb)

/-- Fold one addend into a floating-point accumulator by SUM or WSUM (R215 to R217). -/
def foldSum (w : Nat) (x0 : Val) : Nat :=
  let x := enter x0
  match accVal w with
  | none => accWord x
  | some a =>
    match a, x with
    | .fin n m e, .fin p k g =>
      if k = 0 then (if m = 0 then accWord (.fin (n && p) 0 0) else w)
      else if m = 0 then accWord x
      else
        let l := max (max (msbOf m e) (msbOf k g)) (-126)
        let (m1, e1) := truncBelow m e (l - 26)
        let (k1, g1) := truncBelow k g (l - 26)
        match addFin n m1 e1 p k1 g1 with
        | .fin s r b => if r = 0 then accWord (.fin false 0 0)
                        else if 127 < msbOf r b then accWord (.inf s) else windowWord s r b
        | v => accWord v
    | a, x => accWord (a.add x)

/-- Fold one addend by MIN or MAX (R220). -/
def foldMinMax (mx : Bool) (w : Nat) (x0 : Val) : Nat :=
  match accVal w with
  | none => accWord (enter x0)
  | some .nan => w
  | some a => if x0 = .nan then accWord .nan
              else if (if mx then a.lt x0 else x0.lt a) then accWord (enter x0) else w

/-- An integer accumulator as cleared for OP (R214): 0 for SUM, the format's extremes for MIN and MAX. -/
def intClear (f op : Nat) : Nat :=
  if op = 1 then 2 ^ (elemBits f - 1) - 1
  else if op = 2 then wrapInt 64 (-(2 ^ (elemBits f - 1) : Int)) else 0

/-- Fold an integer element (R219, R220): word and clamp flag. -/
def foldInt (f op : Nat) (ovf : Bool) (w : Nat) (c : Bool) (code : Nat) : Nat × Bool :=
  let a := sext 64 w
  let x := sext (elemBits f) code
  match op with
  | 1 => (wrapInt 64 (min a x), c)
  | 2 => (wrapInt 64 (max a x), c)
  | _ =>
    let r := a + x
    if f = 4 ∧ !ovf then
      if 2 ^ 63 - 1 < r then (2 ^ 63 - 1, true)
      else if r < -(2 ^ 63) then (2 ^ 63, true) else (wrapInt 64 r, c)
    else (wrapInt 64 r, c)

/-- Emit an integer accumulator (R227). -/
def emitInt (f : Nat) (ovf : Bool) (w : Nat) (c : Bool) : Emit :=
  if f = 4 then ⟨w % 2 ^ 64, !ovf && c, false⟩
  else
    let a := sext 64 w
    if ovf then ⟨w % 2 ^ 32, false, false⟩
    else if 2 ^ 31 - 1 < a then ⟨2 ^ 31 - 1, true, false⟩
    else if a < -(2 ^ 31) then ⟨2 ^ 31, true, false⟩ else ⟨wrapInt 32 a, false, false⟩

/-! ### Chunks and pecks (R210 to R212, R230) -/

/-- Elements per chunk (R212). -/
def chunkElems (f csz : Nat) : Nat :=
  (if f = 0 ∨ f = 3 then 64 else if f = 4 then 32 else 128) * 2 ^ csz
/-- Bytes of a peck record (R211). -/
def peckBytes (f : Nat) : Nat := 1 + 4 * elemBits f
/-- Footprint of a chunk (R212). -/
def footprint (f csz : Nat) : Nat := if isMX f then 4 * 2 ^ csz * peckBytes f else 256 * 2 ^ csz
/-- Bytes of a contribution that must come whole: an element, or a peck of an MX format (R193). -/
def grain (f : Nat) : Nat := if isMX f then peckBytes f else elemBits f / 8

/-- The 32 values of a peck record (R210, R211). -/
def decodePeck (f : Nat) (l : List Byte) : List Val :=
  let k := (l.headD 0).toNat
  let bits := bytesNat l.tail
  (List.range 32).map (fun i =>
    if k = 255 then .nan else (decodeElem f (nfld bits (elemBits f * i) (elemBits f))).scale ((k : Int) - 127))

/-- The values a frame's payload holds (R209, R211); `w`: the payload is binary32 (R190). -/
def decodeChunk (f : Nat) (w : Bool) (l : List Byte) : List Val :=
  let g := if w then 0 else f
  if isMX g then (List.range (l.length / peckBytes g)).flatMap (fun i => decodePeck g (slice l (i * peckBytes g) (peckBytes g)))
  else
    let n := elemBits g / 8
    (List.range (l.length / n)).map (fun i => decodeElem g (bytesNat (slice l (i * n) n)))

/-- Integer codes of a payload. -/
def decodeInts (f : Nat) (l : List Byte) : List Nat :=
  let n := elemBits f / 8
  (List.range (l.length / n)).map (fun i => bytesNat (slice l (i * n) n))

/-- The scale exponent of a peck, or `none` for a NaN peck, or the zero peck (R230). -/
inductive Scale where
  | nan | zero | x (e : Int)
  deriving DecidableEq, Repr

/-- peck_scale (R230). -/
def peckScale (f : Nat) (accs : List Nat) : Scale :=
  let vs := accs.map accVal
  if vs.any (fun v => v = some .nan) then .nan
  else if vs.any (fun v => match v with | some (.inf _) => true | _ => false) then .x 127
  else
    let ms : List Int := vs.filterMap (fun v => match v with
      | some (.fin _ m e) => if m = 0 then none else some (msbOf m e) | _ => none)
    match ms with
    | [] => .zero
    | a :: t => .x (min (max (t.foldl max a - (fmtOf f).emax) (-127)) 127)

/-- Emit an accumulator word: EMPTY gives +0 (R228). -/
def emitAcc (f mode : Nat) (ovf : Bool) (x : Int) (noise w : Nat) : Emit :=
  match accVal w with
  | none => ⟨0, false, false⟩
  | some v => emitVal f mode ovf x noise v

/-- Emit one peck: record bytes and counts of SAT and UFL (R230 to R232). -/
def emitPeck (f mode : Nat) (ovf : Bool) (noise : Nat → Nat) (accs : List Nat) : List Byte × Nat × Nat :=
  match peckScale f accs with
  | .nan => (natBytes 1 255 ++ zeros (peckBytes f - 1), 0, 0)
  | .zero => (zeros (peckBytes f), 0, 0)
  | .x e =>
    let es := accs.zipIdx.map (fun a => emitAcc f mode ovf e (noise a.2) a.1)
    let bits := es.zipIdx.foldl (fun n x => n + x.1.code <<< (elemBits f * x.2)) 0
    (natBytes 1 (e + 127).toNat ++ natBytes (peckBytes f - 1) bits, es.countP (·.sat), es.countP (·.ufl))

/-- Emit a chunk's accumulators in the gallery's format, or binary32 (`wide`): bytes, SAT and UFL counts. -/
def emitChunk (f : Nat) (wide : Bool) (mode : Nat) (ovf : Bool) (noise : Nat → Nat) (accs : List Nat)
    (clamp : List Bool) : List Byte × Nat × Nat :=
  if isInt f then
    let es := accs.zipIdx.map (fun a => emitInt f ovf a.1 (clamp.getD a.2 false))
    (es.flatMap (fun e => natBytes (elemBits f / 8) e.code), es.countP (·.sat), 0)
  else if isMX f then
    let ps := (List.range (accs.length / 32)).map (fun i =>
      emitPeck f mode ovf (fun k => noise (32 * i + k)) ((accs.drop (32 * i)).take 32))
    (ps.flatMap (·.1), sumBy (·.2.1) ps, sumBy (·.2.2) ps)
  else
    let g := if wide then 0 else f
    let es := accs.zipIdx.map (fun a => emitAcc g mode ovf 0 (noise a.2) a.1)
    (es.flatMap (fun e => natBytes (elemBits g / 8) e.code), es.countP (·.sat), 0)

end Sys2Proof.Machine
end

