-- ==== Sys2Proof/Config.lean ====
section
/-! DEFINITION. What an implementation fixes or the manual leaves open. -/

namespace Sys2Proof.Config

/-- The source of every free value: values the manual says exist but does not fix (the noise of R234, the fresh
uniform value of R335, the random sampling phase of R340, whether a cancelled write had reached its tile under R32).
It has no body: nothing can be proved of its values. Applied to the counter `State.free` (log entry 3). -/
opaque freeNat : Nat → Nat

/-- Contents of the registers and held items of an engine in a crash-dump record, which the manual names but does not
lay out (R485, R577): engine type, engine index, item number. Free, no body (log entry 3). -/
opaque engineWord : Nat → Nat → Nat → BitVec 64

/-- Pushes an edge port's push buffer holds (R73): the manual gives no size. No body (log entry 98). -/
opaque pushBuffer : Nat

end Sys2Proof.Config
end

