-- ==== Sys2Proof/Machine/Sparse.lean ====
section
/-! DEFINITION. Sparse tables in one canonical form: keys strictly rising, no entry equal to what an unlisted key
reads as. Registers, deep-store bytes and check words are held so. -/

namespace Sys2Proof.Machine

/-- Read key `k`; an unlisted key reads as `d`. -/
def sget {α : Type} (d : α) : List (Nat × α) → Nat → α
  | [], _ => d
  | (a, x) :: t, k => if a = k then x else sget d t k

/-- Insert `(k, v)` before the first larger key. -/
def sinsert {α : Type} (k : Nat) (v : α) : List (Nat × α) → List (Nat × α)
  | [] => [(k, v)]
  | (a, x) :: t => if k < a then (k, v) :: (a, x) :: t else (a, x) :: sinsert k v t

/-- Drop every entry of key `k`. -/
def serase {α : Type} (l : List (Nat × α)) (k : Nat) : List (Nat × α) := l.filter (fun e => e.1 != k)

/-- Write `v` at key `k`; `d` is what `k` reads as when unlisted, and writing it removes the entry. -/
def sput {α : Type} [DecidableEq α] (d : α) (l : List (Nat × α)) (k : Nat) (v : α) : List (Nat × α) :=
  if v = d then serase l k else sinsert k v (serase l k)

/-- Keys strictly rising. -/
def srising {α : Type} : List (Nat × α) → Bool
  | [] => true
  | [_] => true
  | (a, _) :: (b, y) :: t => decide (a < b) && srising ((b, y) :: t)

/-- The canonical form, with the default of each key. -/
def swf {α : Type} [DecidableEq α] (d : Nat → α) (l : List (Nat × α)) : Bool :=
  srising l && l.all (fun e => e.2 != d e.1)

end Sys2Proof.Machine
end

