-- ==== Sys2Proof/Machine/Regs.lean ====
section
/-! DEFINITION. The register map (spec/18_register_map.md R561 to R572): every register with its address, and for each
the field map of its home chapter: position, access code, reset value and kept-through letters (R14 to R17). -/

namespace Sys2Proof.Machine

/-- Access codes (spec/00_scope.md, table of access codes). -/
inductive Acc where
  | rw | ro | wo | w1c | w1s | rc
  deriving DecidableEq, Repr

/-- The four events a field may be kept through (R16): partition reset, firmware activation, dormancy, block reset. -/
structure Keep where
  p : Bool
  f : Bool
  d : Bool
  b : Bool
  deriving DecidableEq, Repr

abbrev kNone : Keep := ⟨false, false, false, false⟩
abbrev kF : Keep := ⟨false, true, false, false⟩
abbrev kFD : Keep := ⟨false, true, true, false⟩
abbrev kPD : Keep := ⟨true, false, true, false⟩
abbrev kPF : Keep := ⟨true, true, false, false⟩
abbrev kPFD : Keep := ⟨true, true, true, false⟩
abbrev kPFDB : Keep := ⟨true, true, true, true⟩

/-- One row of a field map. -/
structure FieldDef where
  lo   : Nat
  w    : Nat
  acc  : Acc
  rst  : Nat
  keep : Keep
  deriving DecidableEq, Repr

/-- Every register of the map; indices as R569, R571 and R572 name them. -/
inductive Reg where
  | sdbCmd
  | sdbData
  | xportCfg
  | smpRing
  | smpIdx
  | node
  | routeCtl
  | epochCnt
  | swapStat
  | routeStat
  | strict
  | ccCfg
  | ccStat
  | ccFilt
  | police (s : Nat)
  | squota (s : Nat)
  | mqCfg
  | mqCbase
  | mqRbase
  | mqTail
  | mqHead
  | fltThr (k : Nat)
  | fltStat (u : Nat)
  | fltCtl
  | fltFence (n : Nat)
  | hangCfg
  | hb
  | interpCtl
  | rstCtl
  | dumpStat
  | cairn (u i w : Nat)
  | paceCfg
  | pwrStat
  | paceStat (n : Nat)
  | therm (m : Nat)
  | wear (n : Nat)
  | ftCfg
  | ftNow
  | ftStat
  | secStat
  | slice (s : Nat)
  | attMbox
  | wfan (j : Nat)
  | crcCh (c : Nat)
  | crcVal (c : Nat)
  | dsStat
  | scStat
  | dsErr (p : Nat)
  | portCfg (n k : Nat)
  | portStat (n k : Nat)
  | portErr (n k : Nat)
  | laneErr (n i : Nat)
  | noise (n : Nat)
  | rsv (n o : Nat)
  | sumpCfg (n : Nat)
  | sumpStat (n : Nat)
  | swcErr (n : Nat)
  | sample (n : Nat)
  | red (n c : Nat)
  | mark (n : Nat)
  | throt (n : Nat)
  | telFilt (n : Nat)
  | telPort (n k r : Nat)
  | telQ (n o : Nat)
  | telInj (n : Nat)
  | rcvStat (n : Nat)
  | rcvCtl (n : Nat)
  | susp (n i : Nat)
  | quar (n i : Nat)
  | pstate (n : Nat)
  | id
  | cap
  | ctl
  | stat
  | rtab (e w : Nat)
  | galDesc (g w : Nat)
  | galStat (g : Nat)
  | galCnt (g : Nat)
  | seq (n e w : Nat)
  | syncVal (i : Nat)
  | syncOwn (i : Nat)
  | syncStat
  deriving DecidableEq, Repr

/-- The address of a register (R569, R571, R572). -/
def Reg.addr : Reg → Nat
  | .sdbCmd => 0x200
  | .sdbData => 0x208
  | .xportCfg => 0x300
  | .smpRing => 0x400
  | .smpIdx => 0x408
  | .node => 0x500
  | .routeCtl => 0x508
  | .epochCnt => 0x510
  | .swapStat => 0x518
  | .routeStat => 0x520
  | .strict => 0x528
  | .ccCfg => 0x600
  | .ccStat => 0x608
  | .ccFilt => 0x610
  | .police s => 0x1000 + 8 * s
  | .squota s => 0x1200 + 8 * s
  | .mqCfg => 0x10000
  | .mqCbase => 0x10008
  | .mqRbase => 0x10010
  | .mqTail => 0x10018
  | .mqHead => 0x10020
  | .fltThr k => 0x20000 + 8 * k
  | .fltStat u => 0x20200 + 8 * u
  | .fltCtl => 0x20240
  | .fltFence n => 0x20280 + 8 * n
  | .hangCfg => 0x20300
  | .hb => 0x20308
  | .interpCtl => 0x20310
  | .rstCtl => 0x20318
  | .dumpStat => 0x20320
  | .cairn u i w => 0x21000 + 0x400 * u + 32 * i + 8 * w
  | .paceCfg => 0x30000
  | .pwrStat => 0x30008
  | .paceStat n => 0x30100 + 8 * n
  | .therm m => 0x30200 + 8 * m
  | .wear n => 0x30300 + 8 * n
  | .ftCfg => 0x40000
  | .ftNow => 0x40008
  | .ftStat => 0x40010
  | .secStat => 0x50000
  | .slice s => 0x50100 + 8 * s
  | .attMbox => 0x50300
  | .wfan j => 0x50400 + 8 * j
  | .crcCh c => 0x60000 + 16 * c
  | .crcVal c => 0x60008 + 16 * c
  | .dsStat => 0x70000
  | .scStat => 0x70008
  | .dsErr p => 0x70100 + 8 * p
  | .portCfg n k => 0x100000 + n * 0x100000 + 0x1000 + 0x40 * k
  | .portStat n k => 0x100000 + n * 0x100000 + 0x1008 + 0x40 * k
  | .portErr n k => 0x100000 + n * 0x100000 + 0x1010 + 0x40 * k
  | .laneErr n i => 0x100000 + n * 0x100000 + 0x2000 + 8 * i
  | .noise n => 0x100000 + n * 0x100000 + 0x4000
  | .rsv n o => 0x100000 + n * 0x100000 + 0x5000 + 8 * o
  | .sumpCfg n => 0x100000 + n * 0x100000 + 0x5040
  | .sumpStat n => 0x100000 + n * 0x100000 + 0x5048
  | .swcErr n => 0x100000 + n * 0x100000 + 0x5050
  | .sample n => 0x100000 + n * 0x100000 + 0x5060
  | .red n c => 0x100000 + n * 0x100000 + 0x5080 + 8 * c
  | .mark n => 0x100000 + n * 0x100000 + 0x5100
  | .throt n => 0x100000 + n * 0x100000 + 0x5108
  | .telFilt n => 0x100000 + n * 0x100000 + 0x6000
  | .telPort n k r => 0x100000 + n * 0x100000 + 0x6100 + 0x40 * k + 8 * r
  | .telQ n o => 0x100000 + n * 0x100000 + 0x6200 + 8 * o
  | .telInj n => 0x100000 + n * 0x100000 + 0x6280
  | .rcvStat n => 0x100000 + n * 0x100000 + 0x7000
  | .rcvCtl n => 0x100000 + n * 0x100000 + 0x7008
  | .susp n i => 0x100000 + n * 0x100000 + 0x7100 + 8 * i
  | .quar n i => 0x100000 + n * 0x100000 + 0x7300 + 8 * i
  | .pstate n => 0x100000 + n * 0x100000 + 0x8000
  | .id => 0x00
  | .cap => 0x08
  | .ctl => 0x10
  | .stat => 0x18
  | .rtab e w => 0x1000000 + 0x800000 * e + 8 * w
  | .galDesc g w => 0x2000000 + 32 * g + 8 * w
  | .galStat g => 0x2080000 + 8 * g
  | .galCnt g => 0x2100000 + 8 * g
  | .seq n e w => 0x3000000 + n * 0x40000 + 16 * e + 8 * w
  | .syncVal i => 0x4000000 + 8 * i
  | .syncOwn i => 0x4080000 + 8 * i
  | .syncStat => 0x4100000

/-- N and W (µs) of each event code after reset (R460, R570): `(0, 0)` for a reserved code. -/
def thrReset (k : Nat) : Nat × Nat :=
  match k with
  | 0x01 => (64, 1000) | 0x02 => (64, 1000) | 0x03 => (8, 1000000) | 0x04 => (4, 60000000) | 0x05 => (16, 1000000)
  | 0x06 => (1, 1000) | 0x08 => (0, 1000) | 0x09 => (16, 1000) | 0x0A => (4, 100000) | 0x0B => (8, 1000)
  | 0x0C => (0, 1) | 0x0D => (0, 1000) | 0x10 => (2, 1000000) | 0x11 => (2, 1000000) | 0x12 => (0, 1000)
  | 0x13 => (0, 1000) | 0x14 => (0, 1000) | 0x15 => (1, 1000) | 0x18 => (0, 1000) | 0x19 => (1, 1000)
  | 0x1A => (1, 1000) | 0x1B => (16, 1000) | 0x1C => (0, 1000) | 0x1D => (0, 1000) | 0x20 => (8, 1000000)
  | 0x21 => (255, 1000) | 0x22 => (8, 1000000) | 0x23 => (4, 10000) | 0x28 => (1, 1000) | 0x29 => (1, 1000)
  | 0x2A => (1, 1000) | 0x2B => (1, 1) | 0x2C => (1, 1000) | 0x2D => (1, 1000) | 0x30 => (4, 1000000)
  | 0x31 => (1, 1000) | 0x32 => (1, 1000) | 0x33 => (1, 1000) | 0x34 => (1, 1000) | 0x38 => (1, 1) | 0x39 => (1, 1)
  | _ => (0, 0)

/-- PMAX, MAX and MIN of DX_RED after reset, by colour. -/
def redReset (c : Nat) : Nat × Nat × Nat :=
  match c with
  | 0 => (0x20, 0x8000, 0x4000)
  | 1 => (0x40, 0x2000, 0x0800)
  | _ => (0xFF, 0x0800, 0x0200)

/-- The field map of each register. -/
def Reg.fields : Reg → List FieldDef
  | .sdbCmd => [⟨63, 1, .w1s, 0, kPFD⟩, ⟨62, 1, .w1c, 0, kPFD⟩, ⟨61, 1, .rw, 0, kPFD⟩, ⟨48, 8, .rw, 0, kPFD⟩,
      ⟨32, 16, .rw, 0, kPFD⟩]
  | .sdbData => [⟨0, 32, .rw, 0, kPFD⟩]
  | .xportCfg => [⟨63, 1, .rw, 1, kPFD⟩, ⟨32, 14, .rw, 0x14, kPFD⟩, ⟨0, 10, .rw, 4, kPFD⟩]
  | .smpRing => [⟨12, 52, .rw, 0, kPFD⟩, ⟨0, 4, .rw, 4, kPFD⟩]
  | .smpIdx => [⟨48, 16, .rc, 0, kF⟩, ⟨16, 16, .ro, 0, kPFD⟩, ⟨0, 16, .rw, 0, kPFD⟩]
  | .node => [⟨24, 4, .rw, 0, kPFD⟩, ⟨20, 4, .rw, 0, kPFD⟩, ⟨16, 4, .rw, 0, kPFD⟩, ⟨0, 12, .rw, 0, kPFD⟩]
  | .routeCtl => [⟨63, 1, .rw, 0, kPFD⟩, ⟨20, 12, .ro, 0, kPFD⟩, ⟨4, 2, .ro, 0, kPFD⟩, ⟨2, 1, .ro, 0, kPFD⟩,
      ⟨1, 1, .rw, 0, kPFD⟩, ⟨0, 1, .rw, 0, kPFD⟩]
  | .epochCnt => [⟨63, 1, .rc, 0, kPFD⟩, ⟨0, 32, .ro, 0, kPFD⟩]
  | .swapStat => [⟨60, 4, .ro, 0, kPFD⟩, ⟨58, 2, .ro, 0, kPFD⟩, ⟨32, 12, .ro, 0, kPFD⟩, ⟨16, 16, .ro, 0, kPFD⟩,
      ⟨0, 16, .ro, 0, kPFD⟩]
  | .routeStat => [⟨58, 6, .ro, 0, kPFD⟩, ⟨32, 16, .rc, 0, kPFD⟩, ⟨16, 16, .rc, 0, kPFD⟩, ⟨0, 16, .rc, 0, kPFD⟩]
  | .strict => [⟨63, 1, .rw, 0, kPFD⟩, ⟨0, 1, .ro, 0, kPFD⟩]
  | .ccCfg => [⟨62, 2, .rw, 0, kPFD⟩, ⟨48, 8, .rw, 0x32, kPFD⟩, ⟨40, 8, .rw, 0x14, kPFD⟩, ⟨32, 4, .rw, 2, kPFD⟩,
      ⟨24, 8, .rw, 4, kPFD⟩, ⟨16, 8, .rw, 2, kPFD⟩, ⟨0, 9, .rw, 0x190, kPFD⟩]
  | .ccStat => [⟨48, 16, .rc, 0, kF⟩, ⟨32, 16, .rc, 0, kF⟩, ⟨16, 14, .rc, 0, kF⟩, ⟨0, 14, .ro, 0, kNone⟩]
  | .ccFilt => [⟨63, 1, .rw, 0, kPFD⟩, ⟨0, 6, .rw, 0, kPFD⟩]
  | .police _ => [⟨63, 1, .rw, 0, kPFD⟩, ⟨62, 1, .rw, 0, kPFD⟩, ⟨36, 16, .rw, 0x40, kPFD⟩, ⟨20, 16, .rw, 0x40, kPFD⟩,
      ⟨10, 10, .rw, 0xc8, kPFD⟩, ⟨0, 10, .rw, 0x64, kPFD⟩]
  | .squota _ => [⟨0, 17, .rw, 0x18000, kPFD⟩]
  | .mqCfg => [⟨63, 1, .rw, 0, kPFD⟩, ⟨8, 4, .rw, 4, kPFD⟩, ⟨0, 4, .rw, 4, kPFD⟩]
  | .mqCbase => [⟨12, 52, .rw, 0, kPFD⟩]
  | .mqRbase => [⟨12, 52, .rw, 0, kPFD⟩]
  | .mqTail => [⟨0, 12, .rw, 0, kPFD⟩]
  | .mqHead => [⟨49, 1, .ro, 0, kPFD⟩, ⟨48, 1, .ro, 1, kPFD⟩, ⟨32, 12, .ro, 0, kPFD⟩, ⟨0, 12, .ro, 0, kPFD⟩]
  | .fltThr k => [⟨16, 32, .rw, (thrReset k).2, kPFD⟩, ⟨0, 8, .rw, (thrReset k).1, kPFD⟩]
  | .fltStat _ => [⟨62, 2, .ro, 0, kPFD⟩, ⟨61, 1, .ro, 0, kPFD⟩, ⟨60, 1, .ro, 0, kPFD⟩, ⟨59, 1, .ro, 0, kPFD⟩,
      ⟨48, 8, .rc, 0, kPFD⟩, ⟨32, 16, .ro, 0, kPFD⟩, ⟨16, 16, .ro, 0, kPFD⟩, ⟨0, 16, .ro, 0, kPFDB⟩]
  | .fltCtl => [⟨32, 20, .rw, 0x3e8, kPFD⟩, ⟨16, 16, .rw, 0x64, kPFD⟩]
  | .fltFence _ => [⟨32, 17, .ro, 0, kPFD⟩, ⟨18, 3, .w1c, 0, kPFD⟩, ⟨12, 6, .w1c, 0, kPFD⟩, ⟨10, 2, .w1c, 0, kPFD⟩,
      ⟨0, 8, .w1c, 0, kPFD⟩]
  | .hangCfg => [⟨32, 16, .rw, 0xa, kPFD⟩, ⟨16, 8, .rw, 0x10, kPFD⟩, ⟨12, 4, .rw, 3, kPFD⟩, ⟨0, 12, .rw, 0x384, kPFD⟩]
  | .hb => [⟨32, 2, .ro, 0, kPD⟩, ⟨0, 32, .ro, 0, kPD⟩]
  | .interpCtl => [⟨63, 1, .wo, 0, kNone⟩, ⟨0, 8, .ro, 0, kPFD⟩]
  | .rstCtl => [⟨0, 6, .w1s, 0, kNone⟩]
  | .dumpStat => [⟨56, 8, .w1c, 0, kPFDB⟩, ⟨55, 1, .ro, 0, kPFD⟩, ⟨48, 3, .ro, 0, kPFDB⟩, ⟨40, 8, .rc, 0, kPFDB⟩]
  | .cairn _ _ _ => [⟨0, 64, .ro, 0, kPFDB⟩]
  | .paceCfg => [⟨54, 10, .rw, 0x294, kPFD⟩, ⟨48, 4, .rw, 2, kPFD⟩, ⟨40, 8, .rw, 0x14, kPFD⟩,
      ⟨32, 8, .rw, 0x69, kPFD⟩, ⟨24, 8, .rw, 0x73, kPFD⟩, ⟨15, 9, .rw, 0x14a, kPFD⟩, ⟨6, 9, .rw, 0x104, kPFD⟩]
  | .pwrStat => [⟨63, 1, .ro, 0, kPFD⟩, ⟨62, 1, .ro, 0, kPFD⟩, ⟨50, 9, .ro, 0, kPFD⟩, ⟨41, 9, .rc, 0, kPFD⟩,
      ⟨33, 8, .rc, 0, kPFD⟩, ⟨0, 20, .ro, 0, kPFD⟩]
  | .paceStat _ => [⟨60, 4, .ro, 0, kPF⟩, ⟨56, 4, .ro, 0, kPF⟩, ⟨52, 4, .ro, 0, kPF⟩, ⟨48, 4, .ro, 0, kPF⟩,
      ⟨44, 4, .ro, 0, kNone⟩, ⟨43, 1, .w1c, 0, kF⟩, ⟨16, 16, .rc, 0, kF⟩, ⟨0, 16, .ro, 0, kNone⟩]
  | .therm _ => [⟨63, 1, .ro, 0, kNone⟩, ⟨16, 16, .rc, 0, kF⟩, ⟨0, 16, .ro, 0, kNone⟩]
  | .wear _ => [⟨63, 1, .w1s, 0, kPFDB⟩, ⟨62, 1, .ro, 0, kPFDB⟩, ⟨61, 1, .ro, 0, kPFDB⟩, ⟨0, 32, .rw, 0, kPFDB⟩]
  | .ftCfg => [⟨63, 1, .rw, 0, kPFD⟩, ⟨40, 5, .rw, 0x1f, kPFD⟩, ⟨32, 5, .rw, 0x1f, kPFD⟩]
  | .ftNow => [⟨0, 64, .rw, 0, kPFD⟩]
  | .ftStat => [⟨62, 2, .ro, 0, kPFD⟩, ⟨48, 8, .ro, 0xff, kPFD⟩, ⟨32, 16, .ro, 0, kPFD⟩, ⟨24, 8, .rc, 0, kPFD⟩,
      ⟨16, 8, .rc, 0, kPFD⟩, ⟨0, 16, .ro, 0, kPFD⟩]
  | .secStat => [⟨48, 16, .rc, 0, kF⟩, ⟨32, 16, .rc, 0, kF⟩, ⟨24, 8, .rc, 0, kF⟩, ⟨18, 6, .ro, 0, kPFD⟩,
      ⟨0, 1, .ro, 0, kPFD⟩]
  | .slice s => [⟨62, 2, .ro, (if s = 0 then 1 else 0), kPFD⟩, ⟨61, 1, .ro, 0, kPFD⟩, ⟨60, 1, .ro, 0, kPFD⟩,
      ⟨0, 16, .ro, 0, kPFD⟩]
  | .attMbox => [⟨12, 52, .ro, 0x300, kPFDB⟩]
  | .wfan _ => [⟨63, 1, .ro, 0, kPFD⟩, ⟨40, 8, .rc, 0, kF⟩, ⟨32, 6, .ro, 0, kPFD⟩, ⟨0, 12, .ro, 0, kPFD⟩]
  | .crcCh _ => [⟨63, 1, .rw, 0, kPFD⟩, ⟨61, 2, .rw, 0, kPFD⟩, ⟨59, 2, .rw, 0, kPFD⟩, ⟨58, 1, .rw, 0, kPFD⟩,
      ⟨55, 3, .rw, 0, kPFD⟩, ⟨50, 5, .rw, 0, kPFD⟩, ⟨44, 6, .rw, 0, kPFD⟩, ⟨0, 20, .rw, 0, kPFD⟩]
  | .crcVal _ => [⟨0, 64, .rc, 0, kF⟩]
  | .dsStat => [⟨63, 1, .ro, 0, kPFDB⟩, ⟨62, 1, .ro, 0, kPFD⟩, ⟨61, 1, .ro, 0, kPFD⟩, ⟨0, 16, .ro, 0, kPFD⟩]
  | .scStat => [⟨32, 32, .rc, 0, kPFD⟩, ⟨0, 32, .rc, 0, kPFD⟩]
  | .dsErr _ => [⟨48, 16, .rc, 0, kPFD⟩, ⟨32, 16, .rc, 0, kPFD⟩, ⟨16, 16, .rc, 0, kPFD⟩, ⟨0, 16, .rc, 0, kPFD⟩]
  | .portCfg _ _ => [⟨63, 1, .rw, 1, kPFD⟩, ⟨48, 8, .rw, 0x14, kPFD⟩, ⟨32, 16, .rw, 0, kPFD⟩, ⟨16, 16, .rw, 0, kPFD⟩,
      ⟨0, 2, .rw, 2, kPFD⟩]
  | .portStat _ _ => [⟨60, 4, .ro, 0, kNone⟩, ⟨59, 1, .ro, 0, kNone⟩, ⟨58, 1, .ro, 0, kNone⟩,
      ⟨44, 12, .ro, 0, kNone⟩, ⟨32, 5, .ro, 0, kNone⟩, ⟨16, 16, .w1c, 0, kPFD⟩, ⟨0, 16, .ro, 0, kNone⟩]
  | .portErr _ _ => [⟨48, 16, .rc, 0, kF⟩, ⟨32, 16, .rc, 0, kF⟩, ⟨24, 8, .rc, 0, kF⟩, ⟨16, 8, .rc, 0, kF⟩,
      ⟨8, 8, .rc, 0, kF⟩, ⟨0, 8, .rc, 0, kF⟩]
  | .laneErr _ _ => [⟨40, 24, .rc, 0, kF⟩, ⟨32, 8, .rc, 0, kF⟩, ⟨24, 8, .rc, 0, kF⟩, ⟨16, 8, .rc, 0, kF⟩,
      ⟨0, 16, .rc, 0, kF⟩]
  | .noise _ => [⟨63, 1, .rw, 0, kF⟩, ⟨0, 12, .rw, 0, kF⟩]
  | .rsv _ _ => [⟨50, 10, .rw, 0x40, kPFD⟩, ⟨40, 10, .rw, 0x80, kPFD⟩, ⟨30, 10, .rw, 0x40, kPFD⟩,
      ⟨20, 10, .rw, 0x40, kPFD⟩, ⟨10, 10, .rw, 0x40, kPFD⟩, ⟨0, 10, .rw, 0x40, kPFD⟩]
  | .sumpCfg _ => [⟨0, 3, .rw, 4, kPFD⟩]
  | .sumpStat _ => [⟨34, 17, .rc, 0, kF⟩, ⟨17, 17, .ro, 0, kNone⟩, ⟨0, 17, .ro, 0x17880, kNone⟩]
  | .swcErr _ => [⟨48, 16, .rc, 0, kF⟩, ⟨32, 16, .rc, 0, kF⟩, ⟨16, 16, .rc, 0, kF⟩, ⟨0, 16, .rc, 0, kF⟩]
  | .sample _ => [⟨63, 1, .rw, 0, kPFD⟩, ⟨62, 1, .rw, 0, kPFD⟩, ⟨38, 5, .rw, 0x1f, kPFD⟩, ⟨32, 6, .rw, 0x3f, kPFD⟩,
      ⟨0, 20, .rw, 0x400, kPFD⟩]
  | .red _ c => [⟨56, 8, .rw, (redReset c).1, kPFD⟩, ⟨24, 17, .rw, (redReset c).2.1, kPFD⟩,
      ⟨0, 17, .rw, (redReset c).2.2, kPFD⟩]
  | .mark _ => [⟨32, 17, .rw, 0x800, kPFD⟩, ⟨0, 17, .rw, 0x100, kPFD⟩]
  | .throt _ => [⟨32, 17, .rw, 0x1000, kPFD⟩, ⟨0, 17, .rw, 0x800, kPFD⟩]
  | .telFilt _ => [⟨63, 1, .rw, 0, kPFD⟩, ⟨0, 6, .rw, 0, kPFD⟩]
  | .telPort _ _ _ => [⟨0, 64, .ro, 0, kF⟩]
  | .telQ _ _ => [⟨40, 24, .rc, 0, kF⟩, ⟨20, 17, .rc, 0, kF⟩, ⟨0, 17, .ro, 0, kNone⟩]
  | .telInj _ => [⟨0, 64, .ro, 0, kF⟩]
  | .rcvStat _ => [⟨60, 4, .ro, 0, kPFDB⟩, ⟨57, 3, .ro, 0, kPFD⟩, ⟨40, 8, .rc, 0, kPFDB⟩, ⟨36, 4, .ro, 0, kPFDB⟩,
      ⟨24, 8, .ro, 0, kPF⟩, ⟨16, 8, .ro, 0, kPFD⟩, ⟨8, 8, .ro, 0, kPFDB⟩]
  | .rcvCtl _ => [⟨63, 1, .w1s, 0, kNone⟩]
  | .susp _ _ => [⟨63, 1, .ro, 0, kPF⟩, ⟨48, 8, .ro, 0, kPF⟩, ⟨16, 20, .ro, 0, kPF⟩, ⟨0, 16, .ro, 0, kPF⟩]
  | .quar _ _ => [⟨63, 1, .w1c, 0, kPFD⟩, ⟨16, 20, .ro, 0, kPFD⟩, ⟨0, 16, .ro, 0, kPFD⟩]
  | .pstate _ => [⟨62, 2, .rw, 0, kFD⟩, ⟨59, 3, .ro, 0, kNone⟩, ⟨48, 8, .ro, 0, kFD⟩]
  | .id => [⟨48, 16, .ro, 0x5d0a, kPFDB⟩, ⟨32, 16, .ro, 0x96, kPFDB⟩, ⟨24, 8, .ro, 2, kPFDB⟩, ⟨16, 8, .ro, 1, kPFDB⟩,
      ⟨0, 8, .ro, 0, kPFDB⟩]
  | .cap => [⟨56, 8, .ro, 0xc, kPFDB⟩, ⟨48, 8, .ro, 6, kPFDB⟩, ⟨40, 8, .ro, 6, kPFDB⟩, ⟨32, 8, .ro, 8, kPFDB⟩,
      ⟨24, 8, .ro, 0x14, kPFDB⟩, ⟨16, 8, .ro, 0x10, kPFDB⟩, ⟨8, 8, .ro, 0xc, kPFDB⟩, ⟨0, 8, .ro, 6, kPFDB⟩]
  | .ctl => [⟨0, 18, .rw, 0, kPFD⟩]
  | .stat => [⟨16, 7, .ro, 0, kNone⟩, ⟨11, 1, .ro, 0, kNone⟩, ⟨10, 1, .ro, 0, kNone⟩, ⟨9, 1, .w1c, 0, kPFD⟩,
      ⟨8, 1, .ro, 0, kNone⟩, ⟨0, 6, .ro, 0, kNone⟩]
  | .rtab _ _ => [⟨0, 64, .rw, 0, kPFD⟩]
  | .galDesc _ _ => [⟨0, 64, .ro, 0, kPFD⟩]
  | .galStat _ => [⟨56, 8, .rc, 0, kPFD⟩, ⟨48, 4, .ro, 0, kPFD⟩, ⟨32, 14, .ro, 0, kPFD⟩, ⟨24, 8, .rc, 0, kPFD⟩,
      ⟨8, 8, .ro, 0, kPFD⟩, ⟨0, 2, .ro, 0, kPFD⟩]
  | .galCnt _ => [⟨32, 32, .rc, 0, kPFD⟩, ⟨0, 32, .rc, 0, kPFD⟩]
  | .seq _ _ _ => [⟨0, 64, .rw, 0, kPF⟩]
  | .syncVal _ => [⟨0, 64, .rw, 0, kPFD⟩]
  | .syncOwn _ => [⟨8, 6, .rw, 0, kPFD⟩, ⟨0, 1, .rw, 0, kPFD⟩]
  | .syncStat => [⟨56, 8, .rc, 0, kPFD⟩, ⟨32, 17, .rc, 0, kPFD⟩, ⟨0, 17, .ro, 0, kPFD⟩]

/-- Position `i` of an array at `base` with the given stride and count (R561: every index inside its range). -/
def regIdx (a base stride count : Nat) : Option Nat :=
  if base ≤ a ∧ a < base + stride * count ∧ (a - base) % stride = 0 then some ((a - base) / stride) else none

/-- The registers of partition `n` at offset `o` of its range (R571). -/
def Reg.ofPart (n o : Nat) : Option Reg :=
  if o < 0x2000 then
    (if (o - 0x1000) / 0x40 < 3 ∧ 0x1000 ≤ o then
      match (o - 0x1000) % 0x40 with
      | 0x00 => some (.portCfg n ((o - 0x1000) / 0x40))
      | 0x08 => some (.portStat n ((o - 0x1000) / 0x40))
      | 0x10 => some (.portErr n ((o - 0x1000) / 0x40))
      | _ => none
    else none)
  else if o < 0x6000 then
    (regIdx o 0x2000 8 32).map (Reg.laneErr n) <|> (regIdx o 0x4000 8 1).map (fun _ => .noise n)
    <|> (regIdx o 0x5000 8 5).map (Reg.rsv n) <|> (regIdx o 0x5040 8 1).map (fun _ => .sumpCfg n)
    <|> (regIdx o 0x5048 8 1).map (fun _ => .sumpStat n) <|> (regIdx o 0x5050 8 1).map (fun _ => .swcErr n)
    <|> (regIdx o 0x5060 8 1).map (fun _ => .sample n) <|> (regIdx o 0x5080 8 3).map (Reg.red n)
    <|> (regIdx o 0x5100 8 1).map (fun _ => .mark n) <|> (regIdx o 0x5108 8 1).map (fun _ => .throt n)
  else
    (regIdx o 0x6000 8 1).map (fun _ => .telFilt n) <|> (regIdx o 0x6100 8 6).map (Reg.telPort n 0)
    <|> (regIdx o 0x6140 8 6).map (Reg.telPort n 1) <|> (regIdx o 0x6180 8 6).map (Reg.telPort n 2)
    <|> (regIdx o 0x6200 8 5).map (Reg.telQ n) <|> (regIdx o 0x6280 8 1).map (fun _ => .telInj n)
    <|> (regIdx o 0x7000 8 1).map (fun _ => .rcvStat n) <|> (regIdx o 0x7008 8 1).map (fun _ => .rcvCtl n)
    <|> (regIdx o 0x7100 8 64).map (Reg.susp n) <|> (regIdx o 0x7300 8 64).map (Reg.quar n)
    <|> (regIdx o 0x8000 8 1).map (fun _ => .pstate n)

/-- A word of a routing table set, by its byte offset (R346, R572). -/
def rtabWord (o : Nat) : Bool :=
  decide (o < 0x8000) || decide (0x10000 ≤ o ∧ o ≤ 0x10200) || decide (0x40000 ≤ o ∧ o < 0xC0000)

/-- The registers below 0x0010_0000 (R569). -/
def Reg.ofBlock (a : Nat) : Option Reg :=
  if a < 0x10000 then
    match a with
    | 0x00 => some .id | 0x08 => some .cap | 0x10 => some .ctl | 0x18 => some .stat
    | 0x200 => some .sdbCmd | 0x208 => some .sdbData | 0x300 => some .xportCfg
    | 0x400 => some .smpRing | 0x408 => some .smpIdx
    | 0x500 => some .node | 0x508 => some .routeCtl | 0x510 => some .epochCnt | 0x518 => some .swapStat
    | 0x520 => some .routeStat | 0x528 => some .strict
    | 0x600 => some .ccCfg | 0x608 => some .ccStat | 0x610 => some .ccFilt
    | _ => (regIdx a 0x1000 8 64).map Reg.police <|> (regIdx a 0x1200 8 64).map Reg.squota
  else if a < 0x30000 then
    match a with
    | 0x10000 => some .mqCfg | 0x10008 => some .mqCbase | 0x10010 => some .mqRbase | 0x10018 => some .mqTail
    | 0x10020 => some .mqHead | 0x20240 => some .fltCtl | 0x20300 => some .hangCfg | 0x20308 => some .hb
    | 0x20310 => some .interpCtl | 0x20318 => some .rstCtl | 0x20320 => some .dumpStat
    | _ =>
      (regIdx a 0x20000 8 64).map Reg.fltThr <|> (regIdx a 0x20200 8 7).map Reg.fltStat
      <|> (regIdx a 0x20280 8 6).map Reg.fltFence
      <|> (regIdx a 0x21000 8 (7 * 128)).map (fun x => .cairn (x / 128) (x % 128 / 4) (x % 4))
  else
    match a with
    | 0x30000 => some .paceCfg | 0x30008 => some .pwrStat | 0x40000 => some .ftCfg | 0x40008 => some .ftNow
    | 0x40010 => some .ftStat | 0x50000 => some .secStat | 0x50300 => some .attMbox
    | 0x70000 => some .dsStat | 0x70008 => some .scStat
    | _ =>
      (regIdx a 0x30100 8 6).map Reg.paceStat <|> (regIdx a 0x30200 8 12).map Reg.therm
      <|> (regIdx a 0x30300 8 6).map Reg.wear <|> (regIdx a 0x50100 8 64).map Reg.slice
      <|> (regIdx a 0x50400 8 16).map Reg.wfan <|> (regIdx a 0x60000 16 24).map Reg.crcCh
      <|> (regIdx a 0x60008 16 24).map Reg.crcVal <|> (regIdx a 0x70100 8 16).map Reg.dsErr

/-- The register at an address; `none` where the map lists none (R13, R561). -/
def Reg.ofAddr (a : Nat) : Option Reg :=
  if a % 8 ≠ 0 then none
  else if a < 0x80000 then Reg.ofBlock a
  else if a < 0x100000 then none
  else if a < 0x700000 then Reg.ofPart ((a - 0x100000) / 0x100000) ((a - 0x100000) % 0x100000)
  else if a < 0x1000000 then none
  else if a < 0x2000000 then
    (if rtabWord (a % 0x800000) then some (.rtab ((a - 0x1000000) / 0x800000) (a % 0x800000 / 8)) else none)
  else if a < 0x3000000 then
    (regIdx a 0x2000000 8 16384).map (fun x => .galDesc (x / 4) (x % 4))
    <|> (regIdx a 0x2080000 8 4096).map Reg.galStat <|> (regIdx a 0x2100000 8 4096).map Reg.galCnt
  else if a < 0x4000000 then
    (regIdx a 0x3000000 8 (6 * 32768)).map (fun x => .seq (x / 32768) (x % 32768 / 2) (x % 2))
  else
    (regIdx a 0x4000000 8 65536).map Reg.syncVal <|> (regIdx a 0x4080000 8 65536).map Reg.syncOwn
    <|> (regIdx a 0x4100000 8 1).map (fun _ => .syncStat)

/-- The whole register as its reset value, reserved bits zero (R565). -/
def Reg.reset (r : Reg) : Word := BitVec.ofNat 64 (r.fields.foldl (fun a f => a + f.rst <<< f.lo) 0)

/-- What an unlisted address of the register store reads as: the reset value. -/
def addrReset (a : Nat) : Word :=
  match Reg.ofAddr a with
  | some r => r.reset
  | none => 0

/-- The bits of a register whose field meets `p`. -/
def Reg.maskOf (r : Reg) (p : FieldDef → Bool) : Word :=
  r.fields.foldl (fun a f => if p f then a ||| fmask ⟨f.lo, f.w⟩ else a) 0

/-- The bits with one access code. -/
def Reg.accMask (r : Reg) (a : Acc) : Word := r.maskOf (fun f => decide (f.acc = a))

/-- The word a write of `d` leaves, by access code alone (table of access codes): RW takes the written bits, W1C and
W1S clear and set, RO and RC keep, WO and reserved bits hold nothing. -/
def Reg.written (r : Reg) (old d : Word) : Word :=
  (r.accMask .rw &&& d) ||| (r.accMask .ro &&& old) ||| (r.accMask .rc &&& old)
    ||| (r.accMask .w1c &&& old &&& ~~~d) ||| (r.accMask .w1s &&& (old ||| d))

/-- The events of R16. -/
inductive KeepEvent where
  | partitionReset | fwActivation | dormant | blockReset
  deriving DecidableEq, Repr

/-- Is a field kept through the event? -/
def Keep.through (k : Keep) : KeepEvent → Bool
  | .partitionReset => k.p
  | .fwActivation => k.f
  | .dormant => k.d
  | .blockReset => k.b

/-- The bits of a register that an event leaves as they are (R16). -/
def Reg.kept (r : Reg) (e : KeepEvent) : Word := r.maskOf (fun f => f.keep.through e)

/-- The word an event leaves: kept fields as they were, the others at reset (R16). -/
def Reg.after (r : Reg) (e : KeepEvent) (v : Word) : Word := (r.kept e &&& v) ||| (~~~(r.kept e) &&& r.reset)

/-- The partition a register belongs to for the letters P and D (R569, R571, R572). -/
def Reg.owner : Reg → Option Nat
  | .portCfg n _ | .portStat n _ | .portErr n _ | .laneErr n _ | .noise n | .rsv n _ | .sumpCfg n | .sumpStat n
  | .swcErr n | .sample n | .red n _ | .mark n | .throt n | .telFilt n | .telPort n _ _ | .telQ n _ | .telInj n
  | .rcvStat n | .rcvCtl n | .susp n _ | .quar n _ | .pstate n | .paceStat n | .wear n | .seq n _ _ => some n
  | .therm m => some (m / 2)
  | _ => none

/-! Field positions, named as the field maps name them. -/

abbrev sdbCmd_GO : Pos := ⟨63, 1⟩
abbrev sdbCmd_ERR : Pos := ⟨62, 1⟩
abbrev sdbCmd_WR : Pos := ⟨61, 1⟩
abbrev sdbCmd_LANE : Pos := ⟨48, 8⟩
abbrev sdbCmd_ADDR : Pos := ⟨32, 16⟩
abbrev sdbData_DATA : Pos := ⟨0, 32⟩
abbrev xportCfg_CMBEN : Pos := ⟨63, 1⟩
abbrev xportCfg_TTO : Pos := ⟨32, 14⟩
abbrev xportCfg_RTI : Pos := ⟨0, 10⟩
abbrev smpRing_BASE : Pos := ⟨12, 52⟩
abbrev smpRing_LOG2 : Pos := ⟨0, 4⟩
abbrev smpIdx_LOST : Pos := ⟨48, 16⟩
abbrev smpIdx_WIDX : Pos := ⟨16, 16⟩
abbrev smpIdx_RIDX : Pos := ⟨0, 16⟩
abbrev node_NZM1 : Pos := ⟨24, 4⟩
abbrev node_NYM1 : Pos := ⟨20, 4⟩
abbrev node_NXM1 : Pos := ⟨16, 4⟩
abbrev node_NODE : Pos := ⟨0, 12⟩
abbrev routeCtl_EN : Pos := ⟨63, 1⟩
abbrev routeCtl_COORD : Pos := ⟨20, 12⟩
abbrev routeCtl_PHASE : Pos := ⟨4, 2⟩
abbrev routeCtl_OLDLIVE : Pos := ⟨2, 1⟩
abbrev routeCtl_LOADED : Pos := ⟨1, 1⟩
abbrev routeCtl_ACTIVE : Pos := ⟨0, 1⟩
abbrev epochCnt_SEEN : Pos := ⟨63, 1⟩
abbrev epochCnt_OLD : Pos := ⟨0, 32⟩
abbrev swapStat_OUTCOME : Pos := ⟨60, 4⟩
abbrev swapStat_REACHED : Pos := ⟨58, 2⟩
abbrev swapStat_FAILNODE : Pos := ⟨32, 12⟩
abbrev swapStat_ROUNDS : Pos := ⟨16, 16⟩
abbrev swapStat_LASTOLD : Pos := ⟨0, 16⟩
abbrev routeStat_PEERBAD : Pos := ⟨58, 6⟩
abbrev routeStat_NOROUTE : Pos := ⟨32, 16⟩
abbrev routeStat_EPBAD : Pos := ⟨16, 16⟩
abbrev routeStat_HOPX : Pos := ⟨0, 16⟩
abbrev strict_EN : Pos := ⟨63, 1⟩
abbrev strict_PEND : Pos := ⟨0, 1⟩
abbrev ccCfg_MODE : Pos := ⟨62, 2⟩
abbrev ccCfg_TD : Pos := ⟨48, 8⟩
abbrev ccCfg_TI : Pos := ⟨40, 8⟩
abbrev ccCfg_MDS : Pos := ⟨32, 4⟩
abbrev ccCfg_AI : Pos := ⟨24, 8⟩
abbrev ccCfg_RMIN : Pos := ⟨16, 8⟩
abbrev ccCfg_RMAX : Pos := ⟨0, 9⟩
abbrev ccStat_FULL : Pos := ⟨48, 16⟩
abbrev ccStat_DECS : Pos := ⟨32, 16⟩
abbrev ccStat_HWM : Pos := ⟨16, 14⟩
abbrev ccStat_ENTRIES : Pos := ⟨0, 14⟩
abbrev police_EN : Pos := ⟨63, 1⟩
abbrev police_TRANSIT : Pos := ⟨62, 1⟩
abbrev police_PBS : Pos := ⟨36, 16⟩
abbrev police_CBS : Pos := ⟨20, 16⟩
abbrev police_PIR : Pos := ⟨10, 10⟩
abbrev police_CIR : Pos := ⟨0, 10⟩
abbrev squota_QUOTA : Pos := ⟨0, 17⟩
abbrev mqCfg_EN : Pos := ⟨63, 1⟩
abbrev mqCfg_CLOG2 : Pos := ⟨8, 4⟩
abbrev mqCfg_RLOG2 : Pos := ⟨0, 4⟩
abbrev mqCbase_BASE : Pos := ⟨12, 52⟩
abbrev mqRbase_BASE : Pos := ⟨12, 52⟩
abbrev mqTail_TAIL : Pos := ⟨0, 12⟩
abbrev mqHead_PEND : Pos := ⟨49, 1⟩
abbrev mqHead_PH : Pos := ⟨48, 1⟩
abbrev mqHead_WIDX : Pos := ⟨32, 12⟩
abbrev mqHead_FETCH : Pos := ⟨0, 12⟩
abbrev fltThr_W : Pos := ⟨16, 32⟩
abbrev fltThr_N : Pos := ⟨0, 8⟩
abbrev fltStat_STATE : Pos := ⟨62, 2⟩
abbrev fltStat_PFATAL : Pos := ⟨61, 1⟩
abbrev fltStat_PCONT : Pos := ⟨60, 1⟩
abbrev fltStat_PCORR : Pos := ⟨59, 1⟩
abbrev fltStat_FWMISS : Pos := ⟨48, 8⟩
abbrev fltStat_RECOV : Pos := ⟨32, 16⟩
abbrev fltStat_ACKSEQ : Pos := ⟨16, 16⟩
abbrev fltStat_NEXTSEQ : Pos := ⟨0, 16⟩
abbrev fltCtl_ATO : Pos := ⟨32, 20⟩
abbrev fltCtl_QUIET : Pos := ⟨16, 16⟩
abbrev fltFence_TILES : Pos := ⟨32, 17⟩
abbrev fltFence_PORTS : Pos := ⟨18, 3⟩
abbrev fltFence_BANKS : Pos := ⟨12, 6⟩
abbrev fltFence_CPE : Pos := ⟨10, 2⟩
abbrev fltFence_CORES : Pos := ⟨0, 8⟩
abbrev hangCfg_PTO : Pos := ⟨32, 16⟩
abbrev hangCfg_PROBN : Pos := ⟨16, 8⟩
abbrev hangCfg_ESCN : Pos := ⟨12, 4⟩
abbrev hangCfg_ESCW : Pos := ⟨0, 12⟩
abbrev hb_MISS : Pos := ⟨32, 2⟩
abbrev hb_COUNT : Pos := ⟨0, 32⟩
abbrev interpCtl_RESTART : Pos := ⟨63, 1⟩
abbrev interpCtl_RESTARTS : Pos := ⟨0, 8⟩
abbrev rstCtl_REQ : Pos := ⟨0, 6⟩
abbrev dumpStat_VALID : Pos := ⟨56, 8⟩
abbrev dumpStat_BUSY : Pos := ⟨55, 1⟩
abbrev dumpStat_LAST : Pos := ⟨48, 3⟩
abbrev dumpStat_OVW : Pos := ⟨40, 8⟩
abbrev paceCfg_DTRIP : Pos := ⟨54, 10⟩
abbrev paceCfg_DSTEP : Pos := ⟨48, 4⟩
abbrev paceCfg_DHOLD : Pos := ⟨40, 8⟩
abbrev paceCfg_TWARN : Pos := ⟨32, 8⟩
abbrev paceCfg_TCRIT : Pos := ⟨24, 8⟩
abbrev paceCfg_PSUR : Pos := ⟨15, 9⟩
abbrev paceCfg_PSUS : Pos := ⟨6, 9⟩
abbrev pwrStat_CAPPED : Pos := ⟨63, 1⟩
abbrev pwrStat_LIMIT : Pos := ⟨62, 1⟩
abbrev pwrStat_EST : Pos := ⟨50, 9⟩
abbrev pwrStat_PEAK : Pos := ⟨41, 9⟩
abbrev pwrStat_CAPS : Pos := ⟨33, 8⟩
abbrev pwrStat_SURGE : Pos := ⟨0, 20⟩
abbrev paceStat_S : Pos := ⟨60, 4⟩
abbrev paceStat_SDROOP : Pos := ⟨56, 4⟩
abbrev paceStat_SPWR : Pos := ⟨52, 4⟩
abbrev paceStat_STHERM : Pos := ⟨48, 4⟩
abbrev paceStat_DTRIPS : Pos := ⟨44, 4⟩
abbrev paceStat_PSLOW : Pos := ⟨43, 1⟩
abbrev paceStat_DROOPS : Pos := ⟨16, 16⟩
abbrev paceStat_MEAS : Pos := ⟨0, 16⟩
abbrev therm_STALE : Pos := ⟨63, 1⟩
abbrev therm_MAX : Pos := ⟨16, 16⟩
abbrev therm_TEMP : Pos := ⟨0, 16⟩
abbrev wear_LOCK : Pos := ⟨63, 1⟩
abbrev wear_EOL : Pos := ⟨62, 1⟩
abbrev wear_WARN : Pos := ⟨61, 1⟩
abbrev wear_EQS : Pos := ⟨0, 32⟩
abbrev ftCfg_EN : Pos := ⟨63, 1⟩
abbrev ftCfg_ALT : Pos := ⟨40, 5⟩
abbrev ftCfg_PARENT : Pos := ⟨32, 5⟩
abbrev ftNow_TIME : Pos := ⟨0, 64⟩
abbrev ftStat_STATE : Pos := ⟨62, 2⟩
abbrev ftStat_STRATUM : Pos := ⟨48, 8⟩
abbrev ftStat_OFFS : Pos := ⟨32, 16⟩
abbrev ftStat_STEPS : Pos := ⟨24, 8⟩
abbrev ftStat_MISS : Pos := ⟨16, 8⟩
abbrev ftStat_DELAY : Pos := ⟨0, 16⟩
abbrev secStat_SEALF : Pos := ⟨48, 16⟩
abbrev secStat_UNSEAL : Pos := ⟨32, 16⟩
abbrev secStat_KPBAD : Pos := ⟨24, 8⟩
abbrev secStat_GRANT : Pos := ⟨18, 6⟩
abbrev secStat_HOLD : Pos := ⟨0, 1⟩
abbrev slice_STATE : Pos := ⟨62, 2⟩
abbrev slice_CONF : Pos := ⟨61, 1⟩
abbrev slice_QUAR : Pos := ⟨60, 1⟩
abbrev slice_KEYS : Pos := ⟨0, 16⟩
abbrev attMbox_BASE : Pos := ⟨12, 52⟩
abbrev wfan_V : Pos := ⟨63, 1⟩
abbrev wfan_TFAIL : Pos := ⟨40, 8⟩
abbrev wfan_SLICE : Pos := ⟨32, 6⟩
abbrev wfan_GAL : Pos := ⟨0, 12⟩
abbrev crcCh_EN : Pos := ⟨63, 1⟩
abbrev crcCh_MODE : Pos := ⟨61, 2⟩
abbrev crcCh_POLY : Pos := ⟨59, 2⟩
abbrev crcCh_SLEN : Pos := ⟨58, 1⟩
abbrev crcCh_STYPE : Pos := ⟨55, 3⟩
abbrev crcCh_SIDX : Pos := ⟨50, 5⟩
abbrev crcCh_SLICE : Pos := ⟨44, 6⟩
abbrev crcCh_QID : Pos := ⟨0, 20⟩
abbrev crcVal_VALUE : Pos := ⟨0, 64⟩
abbrev dsStat_SYSRDY : Pos := ⟨63, 1⟩
abbrev dsStat_SCRUB : Pos := ⟨62, 1⟩
abbrev dsStat_MSYNC : Pos := ⟨61, 1⟩
abbrev dsStat_PFENCE : Pos := ⟨0, 16⟩
abbrev scStat_HITS : Pos := ⟨32, 32⟩
abbrev scStat_MISSES : Pos := ⟨0, 32⟩
abbrev dsErr_TCRC : Pos := ⟨48, 16⟩
abbrev dsErr_POISON : Pos := ⟨32, 16⟩
abbrev dsErr_CORR : Pos := ⟨16, 16⟩
abbrev dsErr_PTO : Pos := ⟨0, 16⟩
abbrev portCfg_FASTIDLE : Pos := ⟨63, 1⟩
abbrev portCfg_IDLEDLY : Pos := ⟨48, 8⟩
abbrev portCfg_FENCE : Pos := ⟨32, 16⟩
abbrev portCfg_FIBRE : Pos := ⟨16, 16⟩
abbrev portCfg_REACH : Pos := ⟨0, 2⟩
abbrev portStat_STATE : Pos := ⟨60, 4⟩
abbrev portStat_TXIDLE : Pos := ⟨59, 1⟩
abbrev portStat_RXIDLE : Pos := ⟨58, 1⟩
abbrev portStat_PEER : Pos := ⟨44, 12⟩
abbrev portStat_WIDTH : Pos := ⟨32, 5⟩
abbrev portStat_HWFENCE : Pos := ⟨16, 16⟩
abbrev portStat_ACTIVE : Pos := ⟨0, 16⟩
abbrev portErr_LCRC : Pos := ⟨48, 16⟩
abbrev portErr_REPLAY : Pos := ⟨32, 16⟩
abbrev portErr_RETRAIN : Pos := ⟨24, 8⟩
abbrev portErr_LOSS : Pos := ⟨16, 8⟩
abbrev portErr_MISMATCH : Pos := ⟨8, 8⟩
abbrev portErr_TRTO : Pos := ⟨0, 8⟩
abbrev laneErr_CORR : Pos := ⟨40, 24⟩
abbrev laneErr_UNCOR : Pos := ⟨32, 8⟩
abbrev laneErr_LOCKLOSS : Pos := ⟨24, 8⟩
abbrev laneErr_OVR : Pos := ⟨16, 8⟩
abbrev laneErr_PRBS : Pos := ⟨0, 16⟩
abbrev noise_FIX : Pos := ⟨63, 1⟩
abbrev noise_NFIX : Pos := ⟨0, 12⟩
abbrev rsv_MGT : Pos := ⟨50, 10⟩
abbrev rsv_BLK : Pos := ⟨40, 10⟩
abbrev rsv_RDN : Pos := ⟨30, 10⟩
abbrev rsv_RUP : Pos := ⟨20, 10⟩
abbrev rsv_RSP : Pos := ⟨10, 10⟩
abbrev rsv_REQ : Pos := ⟨0, 10⟩
abbrev sumpCfg_ALPHA : Pos := ⟨0, 3⟩
abbrev sumpStat_HWM : Pos := ⟨34, 17⟩
abbrev sumpStat_USED : Pos := ⟨17, 17⟩
abbrev sumpStat_SIZE : Pos := ⟨0, 17⟩
abbrev swcErr_TCRC : Pos := ⟨48, 16⟩
abbrev swcErr_AGEC : Pos := ⟨32, 16⟩
abbrev swcErr_AGEF : Pos := ⟨16, 16⟩
abbrev swcErr_REDDROP : Pos := ⟨0, 16⟩
abbrev sample_EN : Pos := ⟨63, 1⟩
abbrev sample_PAYLOAD : Pos := ⟨62, 1⟩
abbrev sample_OMASK : Pos := ⟨38, 5⟩
abbrev sample_CMASK : Pos := ⟨32, 6⟩
abbrev sample_N : Pos := ⟨0, 20⟩
abbrev red_PMAX : Pos := ⟨56, 8⟩
abbrev red_MAX : Pos := ⟨24, 17⟩
abbrev red_MIN : Pos := ⟨0, 17⟩
abbrev mark_KBLK : Pos := ⟨32, 17⟩
abbrev mark_KREQ : Pos := ⟨0, 17⟩
abbrev throt_THI : Pos := ⟨32, 17⟩
abbrev throt_TLO : Pos := ⟨0, 17⟩
abbrev telFilt_EN : Pos := ⟨63, 1⟩
abbrev telFilt_SLICE : Pos := ⟨0, 6⟩
abbrev telPort_COUNT : Pos := ⟨0, 64⟩
abbrev telQ_MARKED : Pos := ⟨40, 24⟩
abbrev telQ_HWM : Pos := ⟨20, 17⟩
abbrev telQ_DEPTH : Pos := ⟨0, 17⟩
abbrev telInj_IHOLD : Pos := ⟨0, 64⟩
abbrev rcvStat_GEN : Pos := ⟨60, 4⟩
abbrev rcvStat_PSTATE : Pos := ⟨57, 3⟩
abbrev rcvStat_RESETS : Pos := ⟨40, 8⟩
abbrev rcvStat_RWIN : Pos := ⟨36, 4⟩
abbrev rcvStat_SUSP : Pos := ⟨24, 8⟩
abbrev rcvStat_QUAR : Pos := ⟨16, 8⟩
abbrev rcvStat_LASTCODE : Pos := ⟨8, 8⟩
abbrev rcvCtl_RETURN : Pos := ⟨63, 1⟩
abbrev susp_V : Pos := ⟨63, 1⟩
abbrev susp_LEFT : Pos := ⟨48, 8⟩
abbrev susp_QID : Pos := ⟨16, 20⟩
abbrev susp_SRC : Pos := ⟨0, 16⟩
abbrev quar_V : Pos := ⟨63, 1⟩
abbrev quar_QID : Pos := ⟨16, 20⟩
abbrev quar_SRC : Pos := ⟨0, 16⟩
abbrev pstate_REQ : Pos := ⟨62, 2⟩
abbrev pstate_STATE : Pos := ⟨59, 3⟩
abbrev pstate_REFUSE : Pos := ⟨48, 8⟩
abbrev id_VENDOR : Pos := ⟨48, 16⟩
abbrev id_DEVICE : Pos := ⟨32, 16⟩
abbrev id_MEMBER : Pos := ⟨24, 8⟩
abbrev id_ARCH : Pos := ⟨16, 8⟩
abbrev id_STEP : Pos := ⟨0, 8⟩
abbrev cap_EDGE : Pos := ⟨56, 8⟩
abbrev cap_TORUS : Pos := ⟨48, 8⟩
abbrev cap_PARTS : Pos := ⟨40, 8⟩
abbrev cap_CORES : Pos := ⟨32, 8⟩
abbrev cap_QBITS : Pos := ⟨24, 8⟩
abbrev cap_SYNCBITS : Pos := ⟨16, 8⟩
abbrev cap_GALBITS : Pos := ⟨8, 8⟩
abbrev cap_SLICEBITS : Pos := ⟨0, 8⟩
abbrev ctl_PORTEN : Pos := ⟨0, 18⟩
abbrev stat_FLT : Pos := ⟨16, 7⟩
abbrev stat_HUNG : Pos := ⟨11, 1⟩
abbrev stat_WINEN : Pos := ⟨10, 1⟩
abbrev stat_MGMTPORTERR : Pos := ⟨9, 1⟩
abbrev stat_TREFLOSS : Pos := ⟨8, 1⟩
abbrev stat_PARTREADY : Pos := ⟨0, 6⟩
abbrev galStat_ABORTS : Pos := ⟨56, 8⟩
abbrev galStat_LASTRSN : Pos := ⟨48, 4⟩
abbrev galStat_PC : Pos := ⟨32, 14⟩
abbrev galStat_STALE : Pos := ⟨24, 8⟩
abbrev galStat_SGEN : Pos := ⟨8, 8⟩
abbrev galStat_STATE : Pos := ⟨0, 2⟩
abbrev galCnt_SAT : Pos := ⟨32, 32⟩
abbrev galCnt_UFL : Pos := ⟨0, 32⟩
abbrev syncVal_VALUE : Pos := ⟨0, 64⟩
abbrev syncOwn_SLICE : Pos := ⟨8, 6⟩
abbrev syncOwn_V : Pos := ⟨0, 1⟩
abbrev syncStat_EXHAUST : Pos := ⟨56, 8⟩
abbrev syncStat_WAITHWM : Pos := ⟨32, 17⟩
abbrev syncStat_WAITS : Pos := ⟨0, 17⟩

end Sys2Proof.Machine
end

