-- ==== Sys2Proof/Machine/Crc.lean ====
section
/-! DEFINITION. The check polynomials of R418; POLY 0 is the CRC-32C of R260, which covers links, frames and tiles. -/

namespace Sys2Proof.Machine

/-- Eight steps of a reflected CRC register. -/
def crcReflStep (poly : Nat) : Nat → Nat → Nat
  | 0, c => c
  | n + 1, c => crcReflStep poly n (if c % 2 = 1 then (c >>> 1) ^^^ poly else c >>> 1)

/-- Steps of a CRC register that shifts toward its top bit, `w` bits wide. -/
def crcNormStep (w poly : Nat) : Nat → Nat → Nat
  | 0, c => c
  | n + 1, c =>
    crcNormStep w poly n (if c.testBit (w - 1) then ((c <<< 1) ^^^ poly) % 2 ^ w else (c <<< 1) % 2 ^ w)

/-- Width in bytes of each polynomial code (R418). -/
def polyWidth (p : Nat) : Nat := if p = 2 then 8 else if p = 3 then 2 else 4

/-- Initial register value (R418). -/
def polyInit (p : Nat) : Nat := if p = 2 then 0 else if p = 3 then 0xFFFF else 0xFFFFFFFF

/-- Final exclusive-or (R418). -/
def polyXor (p : Nat) : Nat := if p = 2 ∨ p = 3 then 0 else 0xFFFFFFFF

/-- The register after one byte (R418): POLY 0 and 1 reflected, 2 and 3 not. -/
def crcByte (p c : Nat) (b : Byte) : Nat :=
  match p with
  | 0 => crcReflStep 0x82F63B78 8 (c ^^^ b.toNat)
  | 1 => crcReflStep 0xEDB88320 8 (c ^^^ b.toNat)
  | 2 => crcNormStep 64 0x42F0E1EBA9EA3693 8 (c ^^^ (b.toNat <<< 56))
  | _ => crcNormStep 16 0x1021 8 (c ^^^ (b.toNat <<< 8))

/-- The register after a byte string. -/
def crcRun (p c : Nat) (l : List Byte) : Nat := l.foldl (crcByte p) c

/-- The CRC of a byte string under polynomial code `p`. -/
def crcOf (p : Nat) (l : List Byte) : Nat := crcRun p (polyInit p) l ^^^ polyXor p

/-- CRC-32C (R260). -/
def crc32c (l : List Byte) : BitVec 32 := BitVec.ofNat 32 (crcOf 0 l)

/-- The CRC-32C of a tile of 4,096 zero bytes: the check word that clearing writes (R403, R413, R415). -/
def zeroTileCrc : BitVec 32 := 0x98F94189#32

end Sys2Proof.Machine
end

