-- ==== Sys2Proof/Machine/Wire.lean ====
section
/-! DEFINITION. Cells and frames on the wire (spec/07_wire_formats.md): base header, transport descriptor, gallery
extension, and the byte string of a packet with its two CRCs. -/

namespace Sys2Proof.Machine

/-- The base header (R237), fields from bit 0 up. -/
structure Hdr where
  dst   : BitVec 16
  src   : BitVec 16
  slice : BitVec 6
  cls   : BitVec 3
  dl    : BitVec 1
  gen   : BitVec 4
  ep    : BitVec 1
  col   : BitVec 2
  ecn   : BitVec 2
  opc   : BitVec 8
  tag   : BitVec 16
  len   : BitVec 6
  hop   : BitVec 5
  flags : BitVec 10
  deriving DecidableEq, Repr, Inhabited

/-- The 96 bits of a header (R237). -/
def Hdr.bits (h : Hdr) : BitVec 96 :=
  h.flags ++ (h.hop ++ (h.len ++ (h.tag ++ (h.opc ++ (h.ecn ++ (h.col ++ (h.ep ++ (h.gen ++ (h.dl ++ (h.cls
    ++ (h.slice ++ (h.src ++ h.dst))))))))))))

/-- The header that 96 bits spell (R237). -/
def Hdr.ofBits (b : BitVec 96) : Hdr :=
  { dst := b.extractLsb' 0 16, src := b.extractLsb' 16 16, slice := b.extractLsb' 32 6, cls := b.extractLsb' 38 3,
    dl := b.extractLsb' 41 1, gen := b.extractLsb' 42 4, ep := b.extractLsb' 46 1, col := b.extractLsb' 47 2,
    ecn := b.extractLsb' 49 2, opc := b.extractLsb' 51 8, tag := b.extractLsb' 59 16, len := b.extractLsb' 75 6,
    hop := b.extractLsb' 81 5, flags := b.extractLsb' 86 10 }

/-- A packet: header, frame extension (zero for a cell), payload bytes (48 of a cell, n of a frame), end-to-end CRC. -/
structure Pkt where
  h   : Hdr
  ext : BitVec 160
  pay : List Byte
  e2e : BitVec 32
  deriving DecidableEq, Repr, Inhabited

/-! Wire opcodes (R243). -/
abbrev opPUT : Nat := 0x01
abbrev opPUTI : Nat := 0x02
abbrev opGET : Nat := 0x03
abbrev opCOPY : Nat := 0x04
abbrev opATOMIC : Nat := 0x08
abbrev opSYNCADD : Nat := 0x10
abbrev opSYNCWAIT : Nat := 0x11
abbrev opSYNCSET : Nat := 0x12
abbrev opFENCE : Nat := 0x18
abbrev opGALC : Nat := 0x20
abbrev opCOMB : Nat := 0x22
abbrev opKVR : Nat := 0x28
abbrev opACK : Nat := 0x40
abbrev opGETDATA : Nat := 0x41
abbrev opFAIL : Nat := 0x42
abbrev opPROBE : Nat := 0x43
abbrev opCOPYRPT : Nat := 0x44
abbrev opGALUP : Nat := 0x48
abbrev opGALDOWN : Nat := 0x49
abbrev opGALABORT : Nat := 0x4A
abbrev opPUSH : Nat := 0x50
abbrev opEDGERD : Nat := 0x58
abbrev opEDGEWR : Nat := 0x59
abbrev opEDGEAT : Nat := 0x5A
abbrev opRDANS : Nat := 0x5C
abbrev opWRANS : Nat := 0x5D
abbrev opATANS : Nat := 0x5E
abbrev opTIMESYNC : Nat := 0x70
abbrev opEPOCHCTL : Nat := 0x71

/-! Traffic classes (R239). -/
abbrev clREQ : Nat := 0
abbrev clRSP : Nat := 1
abbrev clRUP : Nat := 2
abbrev clRDN : Nat := 3
abbrev clBLK : Nat := 4
abbrev clMGT : Nat := 5

/-! Flag bits of commands and packets (R79, R242). -/
abbrev fORDERED : Nat := 0
abbrev fRELEASE : Nat := 1
abbrev fACQUIRE : Nat := 2
abbrev fCOMPLETE : Nat := 3
abbrev fNOCOMBINE : Nat := 4
abbrev fE2ECRC : Nat := 5
abbrev fCNT : Nat := 6
abbrev fMRG : Nat := 7
abbrev fMC : Nat := 8

/-- Is this a frame (R238)? -/
def Hdr.isFrame (h : Hdr) : Bool := h.len = 0x3F

/-- Packet opcode as a number. -/
def Pkt.opc (p : Pkt) : Nat := p.h.opc.toNat
/-- Packet class as a number. -/
def Pkt.cls (p : Pkt) : Nat := p.h.cls.toNat
/-- Is this packet a frame? -/
def Pkt.isFrame (p : Pkt) : Bool := p.h.isFrame
/-- A flag bit of the packet. -/
def Pkt.flag (p : Pkt) (b : Nat) : Bool := nbit p.h.flags.toNat b
/-- The virtual channel (R239). -/
def Pkt.chan (p : Pkt) : Nat := 2 * p.cls + p.h.dl.toNat

/-- Does a packet carry a transport descriptor: a frame, and a cell but the later ones of a PUT or PUT_INLINE (R246, R248)? -/
def Pkt.hasDesc (p : Pkt) : Bool :=
  p.isFrame || decide (p.h.opc.toNat ∉ [opPUT, opPUTI]) || decide (p.h.tag.toNat % 8 = 0)
/-- The transport descriptor of a packet (R246): the extension of a frame, payload bytes 0 to 19 of a cell. -/
def Pkt.desc (p : Pkt) : Nat := if p.isFrame then p.ext.toNat else bytesNat (p.pay.take 20)

/-- The descriptor's fields (R246). -/
structure Desc where
  rreg : Nat
  roff : Nat
  key  : Nat
  sync : Nat
  qid  : Nat
  seq  : Nat
  tlen : Nat
  fidx : Nat
  deriving DecidableEq, Repr, Inhabited

/-- Read a descriptor (R246). -/
def Desc.ofNat (d : Nat) : Desc :=
  { rreg := nfld d 0 20, roff := nfld d 20 44, key := nfld d 64 16, sync := nfld d 80 16, qid := nfld d 96 20,
    seq := nfld d 116 16, tlen := nfld d 132 21, fidx := nfld d 153 7 }

/-- Write a descriptor (R246). -/
def Desc.toNat (d : Desc) : Nat :=
  d.rreg % 2 ^ 20 + (d.roff % 2 ^ 44) <<< 20 + (d.key % 2 ^ 16) <<< 64 + (d.sync % 2 ^ 16) <<< 80
    + (d.qid % 2 ^ 20) <<< 96 + (d.seq % 2 ^ 16) <<< 116 + (d.tlen % 2 ^ 21) <<< 132 + (d.fidx % 2 ^ 7) <<< 153

/-- The gallery extension (R254). -/
structure GExt where
  gal    : Nat
  sgen   : Nat
  chunk  : Nat
  flen   : Nat
  w      : Bool
  satf   : Bool
  uflf   : Bool
  srf    : Bool
  half   : Bool
  token  : Nat
  weight : Nat
  deriving DecidableEq, Repr, Inhabited

/-- Read a gallery extension (R254). -/
def GExt.ofNat (d : Nat) : GExt :=
  { gal := nfld d 0 12, sgen := nfld d 12 8, chunk := nfld d 20 24, flen := nfld d 44 14, w := nbit d 58,
    satf := nbit d 59, uflf := nbit d 60, srf := nbit d 61, half := nbit d 62, token := nfld d 64 24,
    weight := nfld d 88 32 }

/-- Write a gallery extension (R254). -/
def GExt.toNat (x : GExt) : Nat :=
  x.gal % 2 ^ 12 + (x.sgen % 2 ^ 8) <<< 12 + (x.chunk % 2 ^ 24) <<< 20 + (x.flen % 2 ^ 14) <<< 44
    + x.w.toNat <<< 58 + x.satf.toNat <<< 59 + x.uflf.toNat <<< 60 + x.srf.toNat <<< 61 + x.half.toNat <<< 62
    + (x.token % 2 ^ 24) <<< 64 + (x.weight % 2 ^ 32) <<< 88

/-- Payload length of a frame by its opcode and extension (R252, R253); `none` where no length can be derived (R289). -/
def frameLen (opc ext : Nat) : Option Nat :=
  let d := Desc.ofNat ext
  let n : Option Nat :=
    if opc = opPUT ∨ opc = opGETDATA then some (min 8192 (d.tlen - 8192 * d.fidx))
    else if opc = opGALC ∨ opc = opCOMB ∨ opc = opKVR ∨ opc = opGALUP ∨ opc = opGALDOWN then some (nfld ext 44 14)
    else if opc = opPUSH then some 64
    else if opc = opEDGEWR then some (nfld ext 64 13)
    else if opc = opRDANS then some (if nfld ext 0 4 = 0 then nfld ext 4 13 else 0)
    else none
  n.bind (fun k => if k ≤ 8192 then some k else none)

/-- The end-to-end CRC of a frame (R262): bytes 0 to 31 with DL, COL, ECN and HOP read as zero, then the payload. -/
def Pkt.e2eOf (p : Pkt) : BitVec 32 :=
  let h0 := { p.h with dl := 0, col := 0, ecn := 0, hop := 0 }
  crc32c (natBytes 12 h0.bits.toNat ++ natBytes 20 p.ext.toNat ++ p.pay)

/-- The bytes of a packet before its link CRC (R247, R252). -/
def Pkt.body (p : Pkt) : List Byte :=
  if p.isFrame then natBytes 12 p.h.bits.toNat ++ natBytes 20 p.ext.toNat ++ p.pay ++ natBytes 4 p.e2e.toNat
  else natBytes 12 p.h.bits.toNat ++ padTo 48 p.pay

/-- The bytes of a packet on the link, link CRC last (R261). -/
def Pkt.bytes (p : Pkt) : List Byte := p.body ++ natBytes 4 (crc32c p.body).toNat

/-- The length of a packet on the link: 64 for a cell, 40 + n for a frame (R247, R252). -/
def Pkt.size (p : Pkt) : Nat := if p.isFrame then 40 + p.pay.length else 64

/-- Tiles a packet takes at an output ("Reserves and the sump"). -/
def Pkt.tiles (p : Pkt) : Nat := cdiv p.size 256

/-- Padded length on the link (R283, R288): up to the next multiple of 8 bytes. -/
abbrev padded (n : Nat) : Nat := 8 * cdiv n 8

/-- Receive-stage units a packet takes (R283). -/
def Pkt.units (p : Pkt) : Nat := cdiv (padded p.size) 64

/-- The packet that arriving bytes spell, with whether its link CRC holds; `none` where no length can be derived from the header
(R289) or a cell is not 64 bytes long. Payload bytes of a cell beyond LEN are read as zero (R247). Padding up to the next
multiple of 8 bytes is ignored (R288). A frame delimited at another length than 40 + n has its link CRC at its end, as delimited;
it is malformed (R252, `Pkt.wellFormed`). -/
def Pkt.parse (l : List Byte) : Option (Pkt × Bool) :=
  let h := Hdr.ofBits (BitVec.ofNat 96 (bytesNat (l.take 12)))
  let crc (k : Nat) : Bool := decide (bytesNat (slice l k 4) = (crc32c (l.take k)).toNat)
  if h.isFrame then
    let x := bytesNat (slice l 12 20)
    match frameLen h.opc.toNat x with
    | none => none
    | some n =>
      let m := if 40 + n ≤ l.length ∧ l.length ≤ padded (40 + n) then n else l.length - 40
      some ({ h, ext := BitVec.ofNat 160 x, pay := slice l 32 m,
              e2e := BitVec.ofNat 32 (bytesNat (slice l (32 + m) 4)) }, crc (36 + m))
  else if h.len.toNat ≤ 48 ∧ l.length = 64 then
    some ({ h, ext := 0, pay := padTo 48 (slice l 12 h.len.toNat), e2e := 0 }, crc 60)
  else none

/-- The classes a wire opcode may travel in, by form: `true` for frames (R243). -/
def opcClass (opc : Nat) (frame : Bool) : List Nat :=
  match opc, frame with
  | 0x01, false | 0x02, false | 0x03, false | 0x04, false | 0x08, false | 0x10, false | 0x11, false | 0x12, false => [clREQ]
  | 0x43, false | 0x50, true | 0x58, false | 0x59, true | 0x5A, false => [clREQ]
  | 0x01, true | 0x41, true => [clBLK]
  | 0x20, true | 0x22, true | 0x48, true => [clRUP]
  | 0x28, true | 0x49, true => [clRDN]
  | 0x40, false | 0x41, false | 0x42, false | 0x44, false | 0x5C, true | 0x5D, false | 0x5E, false => [clRSP]
  | 0x4A, false => [clRUP, clRDN]
  | 0x70, false | 0x71, false => [clMGT]
  | _, _ => []

/-- Are bytes `[a, a + n)` of a payload zero? -/
def zeroAt (pay : List Byte) (a n : Nat) : Bool := (slice pay a n).all (fun b => decide (b = 0))

/-- Is a descriptor consistent (R246): TLEN in its range, and a frame index that lies in the transfer, zero in a cell? -/
def Desc.consistent (d : Desc) (frame : Bool) : Bool :=
  decide (d.tlen ≤ 1048576) && (if frame then decide (8192 * d.fidx < d.tlen) else decide (d.fidx = 0))

/-- The field checks inside a cell (R263 check 2): the descriptor, and every bit its layout gives as zero (R250, R251, R259, R365,
R448). Bytes beyond LEN are not looked at: they read as zero (R247). Log entry 122. -/
def Pkt.cellFields (p : Pkt) : Bool :=
  let z := zeroAt p.pay
  let d := (Desc.ofNat p.desc).consistent false
  let w (a n : Nat) : Nat := bytesNat (slice p.pay a n)
  match p.opc with
  | 0x01 | 0x02 => !p.hasDesc || d
  | 0x03 | 0x43 => d && z 20 28
  | 0x04 => d && z 20 4 && z 36 12
  | 0x08 => d && z 22 2 && z 40 8
  | 0x10 => d && z 20 1 && z 22 2 && z 32 16
  | 0x11 => d && z 21 3 && z 40 8
  | 0x12 => d && z 20 4 && z 32 16
  | 0x40 | 0x42 | 0x44 => z 2 2 && z 12 4 && z 40 8 && decide (w 4 4 < 2 ^ 20)
  | 0x58 => decide (1 ≤ w 8 8 ∧ w 8 8 ≤ 4096) && z 16 32
  | 0x5A => z 9 7 && z 32 16
  | 0x5D => decide (w 0 8 < 16) && z 8 40
  | 0x5E => decide (w 0 8 < 16) && z 16 32
  | 0x70 => z 3 5 && z 32 16
  | 0x71 => decide (w 10 2 < 2 ^ 12) && z 12 36
  | _ => true

/-- The field checks of a frame's extension (R263 check 2, R253, R254), and its length under R252. -/
def Pkt.frameFields (p : Pkt) : Bool :=
  let x := p.ext.toNat
  decide (frameLen p.opc x = some p.pay.length)
  && (if p.opc = opPUT ∨ p.opc = opGETDATA then (Desc.ofNat x).consistent true
      else if p.opc = opPUSH then decide (x < 2 ^ 20)
      else if p.opc = opEDGEWR then decide (1 ≤ nfld x 64 13 ∧ nfld x 64 13 ≤ 4096 ∧ x < 2 ^ 77)
      else if p.opc = opRDANS then decide (x < 2 ^ 17)
      else !(nbit x 63) && decide (x < 2 ^ 120))

/-- Form and field checks of a packet (R263 check 2): LEN, CLASS, OPC in its form and class, reserved fields zero, frame length,
descriptor TLEN and FIDX consistent. COL is looked at in BLK frames only (R241). -/
def Pkt.wellFormed (p : Pkt) : Bool :=
  decide (p.cls ∈ opcClass p.opc p.isFrame)
  && decide (p.h.len.toNat ≤ 48 ∨ p.isFrame) && !(nbit p.h.flags.toNat 9)
  && decide (p.cls = clBLK → p.h.col.toNat ≠ 3)
  && (if p.isFrame then p.frameFields else p.cellFields)

end Sys2Proof.Machine
end

