-- ==== Sys2Proof/Machine/State.lean ====
section
/-! DEFINITION. The machine's state: every register, buffer, queue, timer and mode the spec gives the block, as plain
data, and the state right after reset. Times: `now` counts 0.25 ns units of the model's own clock (log entry 2), and a
time field holds the value of `now` at its event; `arr` fields and deadlines named so hold fabric time. -/

namespace Sys2Proof.Machine

/-- Why the block stops on a fault. -/
inductive Fault where
  /-- Raised by every meaning whose operand names a port, partition, lane, sensor, unit or index that the block does
  not have. Safe: no such event can happen at the block's boundary. -/
  | noSuchUnit
  deriving DecidableEq, Repr

/-- Why the model refuses a command. -/
inductive Refusal where
  /-- Raised by an arm of `exec` whose command has no meaning yet. Safe. -/
  | notModelled (mnemonic : String)
  deriving DecidableEq, Repr

/-- A source of fault events: STYPE and SIDX of the cairn entry (R455, R470). -/
structure Src where
  st  : Nat
  idx : Nat
  deriving DecidableEq, Repr, Inhabited

/-- An event on its way to a fault unit (R456), with the slice of its packet where it has one (SLV, R470). -/
structure Ev where
  unit  : Nat
  code  : Nat
  src   : Src
  slice : Option Nat
  deriving DecidableEq, Repr

/-- An entry of a source table (R457). -/
structure FEnt where
  src   : Src
  code  : Nat
  count : Nat
  start : Nat
  deriving DecidableEq, Repr

/-- A pending class of a fault unit: sequence number, deadline, and the source and code to escalate (R461, R467). -/
structure FPend where
  seq      : Nat
  deadline : Nat
  src      : Src
  code     : Nat
  count    : Nat
  slice    : Option Nat
  deriving DecidableEq, Repr

/-- A fault unit beside its registers (R457 to R469). -/
structure FUnit where
  tab    : List FEnt
  ded    : List FEnt
  pend   : List (Nat × FPend)
  lastAt : Nat
  deriving DecidableEq, Repr

/-- A fence asked for while its partition's reset runs; made when PART_READY is set (R465). -/
structure Defer where
  src : Src
  enclosing : Bool
  deriving DecidableEq, Repr

/-- The progress counter of an engine (R474): its unit as STYPE and SIDX, its value, and when it last advanced. -/
structure Prog where
  st  : Nat
  idx : Nat
  n   : Nat
  at' : Nat
  deriving DecidableEq, Repr

/-- A partition beside its registers. -/
structure Part where
  /-- Progress counters of the engines that have advanced since the partition's last clearing (R474). -/
  prog      : List Prog := []
  lineOn    : Bool
  lineAt    : Nat
  lineTaken : Bool
  /-- Asserted during a block reset: without effect until it is released (R46). -/
  lineVoid  : Bool
  /-- The partition's power domain is not enabled (R52). -/
  dark      : Bool
  /-- A reset is running, from its take to its release. -/
  rst       : Bool
  /-- Step 3 has advanced GEN in this reset (R505 table, HELD and CLEARING). -/
  gened     : Bool
  /-- Event code of the running reset's cause (LASTCODE). -/
  cause     : Nat
  /-- Sequence number of the fault that caused it. -/
  causeSeq  : Nat
  stalled   : Option (Nat × Nat)
  suspects  : List (Nat × Nat)
  /-- Events counted for a suspect key that DX_QUAR had no room for (R499). -/
  quarN     : Nat
  /-- What each engine held when step 1 froze it (R485, R490): unit as STYPE and SIDX; SRC, QID, SEQ, OPC, TAG. -/
  frozen    : List ((Nat × Nat) × (Nat × Nat × Nat × Nat × Nat))
  /-- A thermal-critical fault came during the reset (R502). -/
  thermOos  : Bool
  /-- The reset was taken while out of service (R503). -/
  wasOos    : Bool
  /-- Step 3 is done; step 5 waits (R490, R495). -/
  cleared   : Bool
  /-- GEN values no longer current and the time each ceased (R495). -/
  genEnd    : List (Nat × Nat)
  resetAt   : List Nat
  defer     : List Defer
  /-- Take times of the four droop trips in force; stuck already counted (R48). -/
  trips     : List (Nat × Nat)
  stuck     : List Nat
  dClearAt  : Nat
  dStepAt   : Nat
  thermAt   : Nat
  wearAt    : Nat
  measAt    : Nat
  fenced    : List Nat
  /-- Tiles that an increased reserve has not taken from the sump yet (R322): output, queue, tiles. -/
  short     : List (Nat × Nat × Nat)
  gate      : Bool
  enterAt   : Nat
  deriving DecidableEq, Repr

/-- A thermal sensor: last delivery, first reading at or above TCRIT in a row, stale counted. -/
structure Therm where
  lastAt : Nat
  hotAt  : Option Nat
  deriving DecidableEq, Repr

/-- A port's link layer beside DX_PORT_STAT (R268 to R303). -/
structure Link where
  since   : Nat
  lockAt  : Nat
  partner : Option (BitVec 16)
  pready  : Bool
  prev    : BitVec 16
  next    : Nat
  eseq    : Nat
  cur     : Nat
  resync  : Bool
  granted : List Nat
  grantG  : List Nat
  /-- Units received on each channel since UP. -/
  arrU    : List Nat
  usedU   : List Nat
  ctl     : List (BitVec 64 × Nat)
  ackAt   : Nat
  repSeq  : Nat
  repN    : Nat
  lastTx  : Nat
  refAt   : Nat
  marked  : BitVec 16
  /-- The transmitters stay silent until then (R303, R304). -/
  mute    : Nat := 0
  /-- When the block stream sent began, and its positions used since, MARKs apart (R270, R298). -/
  txAt    : Nat := 0
  txN     : Nat := 0
  /-- When the burst that ends announced idle began to arrive (R298, R299). -/
  burst   : Option Nat := none
  /-- Arrival of the MARKs of the current round, earliest and latest, in block positions, and the lanes they came on (R271). -/
  mkLo    : Nat := 0
  mkHi    : Nat := 0
  mkLanes : BitVec 16 := 0
  /-- Rounds in which some lanes had reached a MARK and others not (R271). -/
  late    : Nat := 0
  /-- The bytes of the packet that is arriving, the packets of the seal record that is, and its first SEAL block (R288, R523). -/
  rxPart  : List Byte := []
  rxRec   : List (List Byte) := []
  rxSeal  : Option (BitVec 64) := none
  deriving DecidableEq, Repr

/-- A block of a lane (section "Blocks and lane units"): a data block, a control block, or one no byte of which is used (an invalid
header, R268, R272; an errored block, R266, R267). -/
inductive Blk where
  | data (d : BitVec 64)
  | ctl (p : BitVec 64)
  | bad
  deriving DecidableEq, Repr

/-- A lane (R268, R308, R310), its receive dock (R21), the bits and blocks its receiver holds, and its pilot (R300). -/
structure Lane where
  locked  : Bool
  aligned : Bool
  mode    : Nat
  inj     : Nat
  /-- The PRBS checker has locked to the pattern (R311). -/
  plock   : Bool := false
  /-- Words in the receive dock, oldest first; `none` stands where a word was lost to an overrun (R21, R267). -/
  dock    : List (Option (BitVec 128)) := []
  /-- Bits taken from the dock and not yet decoded, oldest first. -/
  buf     : List (Option Bool) := []
  /-- Consecutive valid headers while hunting (R268). -/
  good    : Nat := 0
  /-- Validity of the last headers, newest first, at most 1,023 of them (R268). -/
  hist    : List Bool := []
  /-- Blocks not yet taken by the port, oldest first, with their arrival in block positions (R270, R271). -/
  blks    : List (Nat × Blk) := []
  /-- The partner's block stream has begun on this lane since the port's entry to UP or the end of announced idle. -/
  strm    : Bool := false
  /-- Since when the lane lacks the pilot (R300, R302). -/
  dark    : Option Nat := none
  /-- The lane has lacked the pilot since the receive direction entered announced idle (R300). -/
  lostP   : Bool := false
  deriving DecidableEq, Repr

/-- What a port or a boundary interface has sent, oldest first: a packet, a control block, an idle or silence mark, a
SerDes bus cycle. The model's own record of the block's outputs. -/
inductive Out where
  | pkt (port lseq : Nat) (bytes : List Byte)
  /-- Idle blocks in `n` positions of the stream that had nothing else to carry (R21, R272). -/
  | idle (port n : Nat)
  /-- `rounds` rounds of MARKs, the first of them the one numbered `first` since the stream began (R270). -/
  | mark (port first rounds : Nat)
  /-- The 400 positions of a fast exit: the TRAIN block and the MARK mask that its lanes carry, and the LSEQ of START (R298). -/
  | burst (port : Nat) (mask : BitVec 16) (lseq : Nat)
  /-- The low-power pilot on the lanes of a mask, until the next burst (R296). -/
  | pilot (port : Nat) (mask : BitVec 16)
  /-- The beginning of a packet that a tile check has cut short (R326). -/
  | cut (port lseq : Nat) (bytes : List Byte)
  | ctl (port : Nat) (payload : BitVec 64)
  | quiet (port : Nat)
  | off (port : Nat)
  | sdb (lane addr : Nat) (wr : Bool) (data : Nat)
  deriving DecidableEq, Repr

/-- A delivery of a gallery action to count when the copy is placed (R187): gallery, entry, chunk, and the generation of its
step. -/
structure GDel where
  g  : Nat
  e  : Nat
  j  : Nat
  sg : Nat
  deriving DecidableEq, Repr

/-- A gallery frame that FORWARD or DISPATCH delivers from where it waits (R315, R338): the delivery, and the ports whose
copies are still to be written. -/
structure Fwd where
  del  : GDel
  left : List Nat
  deriving DecidableEq, Repr

/-- A packet in a receive stage (R316). -/
structure RxEnt where
  port  : Nat
  chan  : Nat
  pkt   : Pkt
  arr   : Nat
  at'   : Nat
  units : Nat
  fwd   : Option Fwd := none
  deriving DecidableEq, Repr

/-- A packet the block built that no output has admitted yet. `fixed`: the output a gallery entry, an edge request or
R314 names. -/
structure Inj where
  part   : Nat
  pkt    : Pkt
  fixed  : Option (Nat × Nat)
  arr    : Nat
  shaped : Bool
  gdel   : Option GDel
  ereq   : Option (Nat × Nat)
  deriving DecidableEq, Repr

/-- A contributor kept by a merging output (R140). -/
structure Contrib where
  src : BitVec 16
  tag : BitVec 16
  qid : Nat
  seq : Nat
  gen : BitVec 4
  slice : BitVec 6
  deriving DecidableEq, Repr

/-- A copy in an output buffer. -/
structure Copy where
  part    : Nat
  out     : Nat
  chan    : Nat
  pkt     : Pkt
  tiles   : List Nat
  fromRes : Bool
  arr     : Nat
  inPort  : Option Nat
  contrib : List Contrib
  win     : Bool
  ereq    : Option (Nat × Nat)
  /-- A result frame that waits for its member's command (R576). -/
  gwait   : Option GDel := none
  /-- A frame held for the next step (R198) whose delivery has begun. -/
  fwd     : Option Fwd := none
  /-- Bits of its tiles that have changed since they were filled (R325): place of the tile in the packet, bit. -/
  flips   : List (Nat × Nat) := []
  deriving DecidableEq, Repr

/-- A packet in a replay buffer (R292), in clear, with its LSEQ. -/
structure Rep where
  port : Nat
  lseq : Nat
  pkt  : Pkt
  deriving DecidableEq, Repr

/-- A merged cell that has left: the key its acknowledgement carries, and its contributors (R140). -/
structure Merged where
  src  : BitVec 16
  tag  : BitVec 16
  qid  : Nat
  seq  : Nat
  list : List Contrib
  deriving DecidableEq, Repr

/-- A packet delivered to a unit of the node and not taken yet. -/
structure InEnt where
  part   : Nat
  pkt    : Pkt
  inPort : Option Nat
  arr    : Nat
  /-- When the unit took it. -/
  at'    : Nat := 0
  /-- A bit of it has changed in the unit's buffer after it passed its checks (R125). -/
  struck : Bool := false
  deriving DecidableEq, Repr

/-- An on-die queue context: words 0 to 2 (R62). -/
structure QCtx where
  qid : Nat
  w0  : Word
  w1  : Word
  w2  : Word
  deriving DecidableEq, Repr

/-- A record to write: its two words without PH, and what completes when it is written. -/
structure Rec where
  qid   : Nat
  port  : Nat
  w0    : Word
  w1    : Word
  /-- The record counts in INFL (an overrun record does not, R76). -/
  infl  : Bool
  /-- First or second write (R91). -/
  tries : Nat
  slot  : Nat
  ph    : Bool
  base  : Nat
  deriving DecidableEq, Repr

/-- A push that waits for its queue's context (R72 to R74): its port; with a slot, the context is being fetched. -/
structure PushW where
  port : Nat
  qid  : Nat
  cmd  : Cmd
  slot : Bool
  deriving DecidableEq, Repr

/-- Stages of an accepted command. -/
inductive Stage where
  | accepted | held | running
  deriving DecidableEq, Repr

/-- A command accepted and without a record (R82 to R92). -/
structure Txn where
  id     : Nat
  qid    : Nat
  cmd    : Cmd
  port   : Nat
  gen    : Nat
  slice  : Nat
  seq    : Nat
  xid    : Nat
  ep     : Nat
  acc    : Nat
  accFt  : Nat
  tto    : Nat
  /-- The CRC channel of R420 bound at acceptance: channel and POLY. -/
  crc    : Option (Nat × Nat)
  stage  : Stage
  /-- Transactions a RELEASE waits for (R152), probes sent (destinations), first failure in push order (order, status,
  RESULT). -/
  waits  : List Nat
  probes : List Nat
  relF   : Option (Nat × Nat × Nat)
  acked  : Bool
  val    : Nat
  /-- Bytes of a GET that the destination will send (LEN unless R102 fails some), and bytes written. -/
  expect : Nat
  wrote  : Nat
  gotRx  : Nat
  getBuf : List Byte
  fstat  : Option (Nat × Nat)
  genr   : Option Nat
  perf   : Nat
  cmb    : Bool
  sat    : Bool
  ufl    : Bool
  sr     : Bool
  /-- Identifier drawn when the flush probes of a RELEASE were sent (R151). -/
  probed : Nat
  /-- Ends of received GET packets that wait for the rest of their 8 B unit (R144). -/
  ends   : List (Nat × List Byte)
  deriving DecidableEq, Repr

/-- One packet of a transfer at its sender: 0 not sent, 1 sent, 2 acknowledged. -/
structure SUnit where
  idx  : Nat
  pkt  : Pkt
  st   : Nat
  at'  : Nat
  fail : Bool
  deriving DecidableEq, Repr

/-- A sender of data: the issuer of a PUT (role 0), the source of a COPY (1), the destination of a GET (2). -/
structure Snd where
  id     : Nat
  role   : Nat
  part   : Nat
  txn    : Nat
  src    : Nat
  dst    : Nat
  iss    : Nat
  slice  : Nat
  qid    : Nat
  seq    : Nat
  xid    : Nat
  /-- XID of the command at its issuer (R245). -/
  ixid   : Nat
  gen    : Nat
  /-- GEN of the request that the sender answers (R240). -/
  agen   : Nat
  /-- Region that the data is read from (R133). -/
  reg    : Nat
  flags  : Nat
  desc   : Desc
  frames : Bool
  units  : List SUnit
  loaded : Bool
  /-- A failure found before sending: status and RESULT (R102). -/
  pre    : Option (Nat × Nat)
  start  : Nat
  tto    : Nat
  genr   : Option Nat
  marks  : Nat
  deriving DecidableEq, Repr

/-- A receive record (R116), for cells and frames alike. -/
structure RRec where
  src    : Nat
  qid    : Nat
  seq    : Nat
  xid    : Nat
  opc    : Nat
  dst    : Nat
  slice  : Nat
  gen    : Nat
  flags  : Nat
  desc   : Desc
  cell   : Bool
  part   : Nat
  bitmap : Nat
  wmap   : Nat
  first  : Nat
  ackDue : Option Nat
  acked  : Bool
  marks  : Nat
  bytes  : Nat
  fail   : Option (Nat × Nat)
  /-- Packets refused (R102). -/
  denied : Nat
  /-- Ends of packets that wait for the rest of their 8 B unit (R144): offset, bytes. -/
  ends   : List (Nat × List Byte)
  deriving DecidableEq, Repr

/-- A failure of a write after its data was acknowledged (R151): queue, slice, status and RESULT, and the endpoints that a
probe answer has told of it. -/
structure WFail where
  src    : Nat
  qid    : Nat
  slice  : Nat
  status : Nat
  result : Nat
  told   : List Nat
  deriving DecidableEq, Repr

/-- A transaction number in use, or used not long ago (R245): endpoint, XID, QID, SEQ, and when it was taken. -/
structure XidUse where
  ep  : Nat
  xid : Nat
  qid : Nat
  seq : Nat
  at' : Nat
  deriving DecidableEq, Repr

/-- A registered wait (R169). -/
structure Wait where
  sync : Nat
  src  : BitVec 16
  dst  : BitVec 16
  tag  : BitVec 16
  slice : BitVec 6
  gen  : BitVec 4
  qid  : Nat
  seq  : Nat
  cmp  : Nat
  target : Nat
  deadline : Nat
  /-- Its cell arrived with ECN 0b11 (R251). -/
  marks : Nat
  deriving DecidableEq, Repr

/-- What a data move is for. -/
inductive Cont where
  | sndData (snd : Nat)
  | rxWrite (src qid seq xid idx off n : Nat) (mark : Bool)
  | getWrite (txn n idx off : Nat)
  | record (r : Rec)
  | atomic (req : Pkt) (part : Nat)
  | galRead (g txn sgen : Nat)
  | galWrite (d : GDel) (port txn n fl : Nat)
  | dsWrite (d : GDel)
  | dsRead (d : GDel)
  | sample
  | scrub
  | scan
  | dumpEnd
  | attest
  | drop
  deriving DecidableEq, Repr

/-- A data move in progress (R89, R127): `left` requests to answer, bytes read so far, first failure (status and
offset). -/
structure Job where
  id   : Nat
  part : Nat
  left : Nat
  buf  : List Byte
  fail : Option (Nat × Nat)
  cont : Cont
  deriving DecidableEq, Repr

/-- Kinds of edge request (R127). -/
inductive EKind where
  | rd | wr | at'
  deriving DecidableEq, Repr

/-- An edge request, waiting (`etag = none`) or outstanding (R127 to R134). -/
structure EReq where
  port : Nat
  etag : Option Nat
  gen  : Nat
  kind : EKind
  addr : Nat
  len  : Nat
  data : List Byte
  sub  : Nat
  job  : Nat
  off  : Nat
  slice : Nat
  sent : Option Nat
  /-- FLAGS bits 0 to 6 of the command whose data it carries (R242). -/
  flags : Nat
  /-- The port was lost after it had its ETAG: an answer that comes is discarded (R59). -/
  lost : Bool
  deriving DecidableEq, Repr

/-- Kinds of memory-port request: a read, a write, the read of a merge (R405), a line fill for a read, for a cell-carried
write and for an ATOMIC (R410). -/
inductive MKind where
  | read | write | merge | fill | fillw | atom
  deriving DecidableEq, Repr

/-- A request to a memory port (R29 to R33), one per tile: what it reads or writes there. `part = none`: the block's
own channels. -/
structure MReq where
  id   : Nat
  part : Option Nat
  tile : Nat
  kind : MKind
  lo   : Nat
  len  : Nat
  data : List Byte
  at'  : Nat
  job  : Nat
  off  : Nat
  /-- A write-through of the store cache (R411). -/
  thru : Bool
  deriving DecidableEq, Repr

/-- A management-memory-port access (R34). `op`: the read half of an atomic (R110): sub-op, operand, compare value. -/
structure MgReq where
  id   : Nat
  wr   : Bool
  op   : Option (Nat × Nat × Nat)
  old  : List Byte
  addr : Nat
  len  : Nat
  data : List Byte
  at'  : Nat
  job  : Nat
  off  : Nat
  deriving DecidableEq, Repr

/-- A store-cache line (R409): tile, its bytes, its check word, an invalidation pending since (R161). -/
structure Line where
  tile : Nat
  data : List Byte
  chk  : BitVec 32
  inval : Option Nat
  deriving DecidableEq, Repr

/-- A rate entry (R384). -/
structure Rate where
  slice  : Nat
  dst    : Nat
  r      : Nat
  dec    : Option Nat
  chg    : Nat
  bucket : Nat
  fillAt : Nat
  deriving DecidableEq, Repr

/-- A policer's buckets (R333), in quarter bytes: place 0–5 the building partitions, 6–11 the torus outputs. -/
structure Bkt where
  place : Nat
  slice : Nat
  tc    : Nat
  tp    : Nat
  at'   : Nat
  deriving DecidableEq, Repr

/-- A gallery's credit at an output (R337). -/
structure GCred where
  g    : Nat
  port : Nat
  cr   : Nat
  at'  : Nat
  deriving DecidableEq, Repr

/-- A member that has joined a step (R196, R202): its port and transaction, bytes written, first failure. -/
structure GMem where
  port  : Nat
  txn   : Nat
  wrote : Nat
  need  : Nat
  fail  : Option (Nat × Nat)
  /-- A CNT add was refused (R193). -/
  deny  : Bool
  /-- Deliveries still to come (R196). -/
  frames : Nat
  sat   : Bool
  ufl   : Bool
  sr    : Bool
  deriving DecidableEq, Repr

/-- Accumulators of one chunk in one set: 64-bit words, clamp flags (R213, R214), contributions reduced, halves
received (port), flags of the frames reduced into it (R255). -/
structure GAcc where
  par   : Nat
  chunk : Nat
  words : List Word
  clamp : List Bool
  count : Nat
  half  : List (Nat × Bool)
  fl    : Nat
  /-- A tile of it no longer meets its CRC-32C (R224); the core that last wrote it. -/
  bad   : Option Nat := none
  deriving DecidableEq, Repr

/-- A cached emission (R190): chunk, whether binary32, bytes, flags SATF, UFLF, SRF in bits 0 to 2. -/
structure GEmit where
  chunk : Nat
  wide  : Bool
  data  : List Byte
  fl    : Nat
  deriving DecidableEq, Repr

/-- A gallery frame at a node: port it came from, its extension, payload, DST, the DL it arrived with (R355, R371), and
FLAGS bits 0 to 6 (R242). -/
structure GFrm where
  port  : Nat
  x     : GExt
  dst   : Nat
  pay   : List Byte
  dl    : Nat := 0
  flags : Nat := 0
  deriving DecidableEq, Repr

/-- A delivery in progress: action on a chunk with parts not yet done (R187). -/
structure GRun where
  d    : GDel
  left : Nat
  deriving DecidableEq, Repr

/-- A gallery's running part beside its descriptor and DX_GAL_STAT. -/
structure Gal where
  g      : Nat
  timer  : Option Nat
  /-- When the first command held for the next step was accepted (R199). -/
  next   : Option Nat
  /-- Generation of a next step aborted in advance (R200, log entry 96): it is passed over. -/
  skip   : Option Nat
  fin    : List (Nat × Nat)
  runs   : List GRun
  mem    : List GMem
  heldC  : List Nat
  accs   : List GAcc
  emits  : List GEmit
  /-- Chunks read from a member's LREG that FORWARD or DISPATCH sends on (R195). -/
  frames : List GFrm
  /-- Frames of a chunk delivered by FORWARD or DISPATCH, for WAIT (R187). -/
  sentN  : List (Nat × Nat)
  /-- Combine frames taken from an edge port for a step (R196): port, generation, number. -/
  combN  : List (Nat × Nat × Nat)
  failed : Bool
  deriving DecidableEq, Repr

/-- A key slot (R509, R510): two phases, transmit phase; salt of a content slot. -/
structure KSlot where
  p0   : Option (BitVec 256)
  p1   : Option (BitVec 256)
  tx   : Option Bool
  salt : BitVec 32
  deriving DecidableEq, Repr

/-- A record-number counter (R524): slot, phase, port, received (else sent), value. -/
structure RecNo where
  slot : Nat
  ph   : Bool
  port : Nat
  rx   : Bool
  n    : Nat
  deriving DecidableEq, Repr

/-- An open cell record of a port (R523): packets sealed so far are sent as they are; cells of the open record. -/
structure OpenRec where
  port  : Nat
  slice : Nat
  ph    : Bool
  rn    : Nat
  cells : List (Nat × Pkt)
  deriving DecidableEq, Repr

/-- A request of a swap not answered: node, phase, round, sent at, resent. -/
structure EpReq where
  node  : Nat
  phase : Nat
  round : Nat
  sentAt : Nat
  again : Bool
  deriving DecidableEq, Repr

/-- A swap being run here (R367). -/
structure Swap where
  cmd    : Cmd
  target : Nat
  drain  : Nat
  phase  : Nat
  round  : Nat
  set    : List Nat
  reqs   : List EpReq
  total  : Nat
  seen   : Bool
  /-- Nodes that reported a non-zero OLD in the last finished round, and in the running one (R368). -/
  worst  : List Nat
  curW   : List Nat
  /-- The round before reported a total of zero (R367). -/
  zero   : Bool
  switchAt : Nat
  deriving DecidableEq, Repr

/-- A teardown being run (R535). -/
structure Tear where
  cmds   : List Cmd
  slice  : Nat
  step   : Nat
  ranges : List (Nat × Nat)
  deriving DecidableEq, Repr

/-- A dump being run (R481 to R489). -/
structure Dump where
  part   : Nat
  /-- `none`: dump of a reset; `some cmd`: DUMP on queue 0. -/
  cmd    : Option Cmd
  slot   : Nat
  code   : Nat
  seq    : Nat
  start  : Nat
  /-- Units still to read: STYPE, SIDX. -/
  units  : List (Nat × Nat)
  askAt  : Nat
  /-- The fabric time of that (R487). -/
  askFt  : Nat
  bytes  : Nat
  unread : Nat
  recs   : Nat
  hdr    : Word
  /-- Final word 0 waits for the writes of the dump (R488). -/
  ending : Option Nat
  deriving DecidableEq, Repr

/-- An exchange through the mailbox (R514, R548, R549). `fw`: an activation, by FW_ACTIVATE (`cmd`) or by RESTART.
`stage`: 0 request being read, 1 request being written, 2 header being written, 3 waiting for the answer, 4 response
being read, 5 response being written. `start`: since when the answer is awaited. -/
structure Att where
  cmd    : Option Cmd
  fw     : Bool
  seq    : Nat
  start  : Nat
  stage  : Nat
  rlen   : Nat
  pollAt : Nat
  deriving DecidableEq, Repr

/-- States of the command interpreter (R477 to R480, R548, R549). -/
inductive Interp where
  | running | holding | starting | hung | halted | restarting
  deriving DecidableEq, Repr

/-- Management plane beside the DX_MQ registers. -/
structure Mgmt where
  fetched : List Cmd
  /-- The command fetched first is a TABLE_WRITE or GALLERY_SETUP that has started and waits (R413, R515). -/
  tabWait : Bool
  /-- Window writes that had arrived under a mirror hold before the command that waits (R37, R515). -/
  tabAt   : Nat
  stopped : Bool
  /-- The read of the command ring outstanding: its number and when it was issued (R34). -/
  fetch   : Option (Nat × Nat)
  interp  : Interp
  lastHb  : Nat
  hbAt    : Nat
  /-- MISS has reached 3: when the controller restarts the interpreter itself, at once where the window was off then (R480). -/
  missAt  : Option Nat
  holdAt  : Nat
  engSwap : List Cmd
  engTear : List Cmd
  engScrub : List (Nat × Nat × Option Cmd)
  engScan : List (Nat × Nat × Nat × Option Cmd)
  engDump : List (Nat × Option Cmd)
  engAtt  : List Cmd
  swap    : Option Swap
  tear    : Option Tear
  /-- Next byte, end, command of the running SCRUB; offset of its first failing tile. -/
  scrub   : Option (Nat × Nat × Option Cmd)
  scrubF  : Option Nat
  scan    : Option (Nat × Nat × Nat × Option Cmd)
  scanAcc : Nat
  scanPos : Nat
  dump    : Option Dump
  att     : Option Att
  attSeq  : Nat
  deriving DecidableEq, Repr

/-- Mirror hold (R515) and the mirror's pending updates (R402). -/
structure Mirror where
  held    : Option Nat
  scanned : Bool
  mseq    : Nat
  mvalid  : Bool
  pend    : List (Nat × Word)
  waiting : List (Nat × Word)
  deriving DecidableEq, Repr

/-- Fabric time beside its registers (R445 to R451, R578). -/
structure FTime where
  tref    : Bool
  lost    : Bool
  /-- When the edges stopped: ages are then counted by the controller's own oscillator (R331). -/
  lostAt  : Nat
  /-- Time that copies have aged by while the reference was lost (R331). -/
  aged    : Nat
  seq     : Nat
  req     : Option (Nat × Nat × Nat)
  sendAt  : Nat
  good    : Nat
  usedAt  : Nat
  heldAt  : Nat
  slew    : Int
  slewEnd : Nat
  frac    : Nat
  trim    : Int
  setNow  : Bool
  deriving DecidableEq, Repr

/-- Power governor (R432 to R436): the surge window as runs of microseconds (above PSUS or not, length), newest
first. -/
structure Power where
  demand : Nat
  win    : List (Bool × Nat)
  lowAt  : Nat
  heldAt : Nat
  rep    : Bool
  deriving DecidableEq, Repr

/-- SerDes control bus (R23 to R28): the DX_SDB access in progress (lane, write), its start, LANE_TEST cycles waiting. -/
structure Sdb where
  acc   : Option (Nat × Bool)
  goAt  : Nat
  queue : List (Nat × Nat × Nat)
  deriving DecidableEq, Repr

/-- The deep store (R398 to R412): bytes, check words, ranges of tiles zeroed with good check words, poisoned tiles,
store cache, memory-port requests. -/
structure Store where
  bytes  : List (Nat × Byte)
  chk    : List (Nat × BitVec 32)
  clear  : List (Nat × Nat)
  poison : List Nat
  lines  : List Line
  reqs   : List MReq
  deriving DecidableEq, Repr

/-- The round robin of an output (R337): class being served, whether its quantum has been added, the deficits of REQ,
BLK and gallery frames, and the channel each class sent on last. -/
structure Drr where
  part : Nat
  out  : Nat
  cur  : Nat
  fed  : Bool
  defs : List Nat
  alt  : Nat
  deriving DecidableEq, Repr

/-- Switch core. `rr`: where the adaptive choice breaks ties next (R353). `rrIn`: the port that the crossbar took last into a
partition in a class (R317). -/
structure Switch where
  rx     : List RxEnt
  inj    : List Inj
  copies : List Copy
  replay : List Rep
  merged : List Merged
  inbox  : List InEnt
  bkts   : List Bkt
  creds  : List GCred
  samp   : List (Nat × Nat × Nat)
  opens  : List OpenRec
  rr     : Nat
  rrIn   : List (Nat × Nat × Nat)
  drrs   : List Drr
  deriving DecidableEq, Repr

/-- Transport. -/
structure Transport where
  ctxs   : List QCtx
  qseq   : List (Nat × Nat)
  pushW  : List PushW
  txns   : List Txn
  snds   : List Snd
  rrecs  : List RRec
  held   : List (InEnt × Nat)
  wfail  : List WFail
  /-- Destinations of a queue that may hold unperformed writes (R151), each with an identifier drawn at its last such write. -/
  dirty  : List (Nat × Nat × Nat)
  xids   : List XidUse
  /-- Frames that failed their end-to-end CRC (R115), and first frames for which no receive record was free (R119). The spec
  has both counted and gives no register of them (log entry 76). -/
  e2eN   : Nat
  norecN : Nat
  probes : List InEnt
  waits  : List Wait
  rate   : List Rate
  /-- Entries as they stood before an increase, with its fabric time: a marked ACK of the same moment undoes it (R385). -/
  rises  : List (Nat × Rate)
  /-- Slice and time of its last accepted command (R535). -/
  lastAcc : List (Nat × Nat)
  deriving DecidableEq, Repr

/-- Data moves. -/
structure Moves where
  jobs  : List Job
  ereq  : List EReq
  cool  : List (Nat × Nat × Nat)
  mgreq : List MgReq
  deriving DecidableEq, Repr

/-- Security beside its registers. -/
structure Sec where
  keys  : List (Nat × KSlot)
  recno : List RecNo
  mirror : Mirror
  deriving DecidableEq, Repr

/-- The state. -/
structure State where
  pending : List Instr
  now     : Nat
  free    : Nat
  /-- Source of the model's own identifiers of transactions, senders, moves and requests. -/
  ids     : Nat
  powered : Bool
  /-- Supply of the block domain in mV (R52), as the governor measured it last (log entry 105). -/
  volt    : Nat
  winEn   : Bool
  winRead : Word
  blkOn   : Bool
  blkAt   : Nat
  blkRun  : Bool
  regs    : List (Nat × Word)
  evq     : List Ev
  out     : List Out
  parts   : Vector Part 6
  therms  : Vector Therm 12
  links   : Vector Link 18
  lanes   : Vector Lane 192
  funits  : Vector FUnit 7
  st      : Store
  sw      : Switch
  tp      : Transport
  mv      : Moves
  gals    : List Gal
  sec     : Sec
  mg      : Mgmt
  ft      : FTime
  pw      : Power
  sdb     : Sdb
  crcRun  : List (Nat × Nat)
  deriving DecidableEq, Repr

/-- A partition at reset: no line asserted, no reset running, nothing tripped. -/
def Part.init : Part :=
  { lineOn := false, lineAt := 0, lineTaken := false, lineVoid := false, dark := false, rst := false, gened := false, cause := 0, causeSeq := 0,
    stalled := none, suspects := [], quarN := 0, frozen := [], thermOos := false, wasOos := false, cleared := false, genEnd := [],
    resetAt := [], defer := [], trips := [], stuck := [], dClearAt := 0, dStepAt := 0, thermAt := 0, wearAt := 0,
    measAt := 0, fenced := [], short := [], gate := false, enterAt := 0 }

/-- Twelve zeros: one counter per channel. -/
def zeros12 : List Nat := List.replicate 12 0

/-- A link in OFF; sequence numbers and credits start from 0 (R274). -/
def Link.init : Link :=
  { since := 0, lockAt := 0, partner := none, pready := false, prev := 0, next := 0, eseq := 0, cur := 0,
    resync := false, granted := zeros12, grantG := zeros12, arrU := zeros12, usedU := zeros12, ctl := [], ackAt := 0, repSeq := 0,
    repN := 0, lastTx := 0, refAt := 0, marked := 0 }

/-- A lane hunting, no test. -/
def Lane.init : Lane := { locked := false, aligned := false, mode := 0, inj := 0 }

/-- A fault unit with empty tables. -/
def FUnit.init : FUnit := { tab := [], ded := [], pend := [], lastAt := 0 }

/-- The management plane at reset: nothing fetched, interpreter running, engines idle. -/
def Mgmt.init : Mgmt :=
  { fetched := [], tabWait := false, tabAt := 0, stopped := false, fetch := none, interp := .running, lastHb := 0, hbAt := 0, missAt := none,
    holdAt := 0, engSwap := [], engTear := [], engScrub := [], engScan := [], engDump := [], engAtt := [],
    swap := none, tear := none, scrub := none, scrubF := none, scan := none, scanAcc := 0, scanPos := 0, dump := none, att := none,
    attSeq := 0 }

/-- No hold, nothing pending. -/
def Mirror.init : Mirror := { held := none, scanned := false, mseq := 0, mvalid := false, pend := [], waiting := [] }

/-- Fabric time at reset: edges arriving, no request, never set. -/
def FTime.init : FTime :=
  { tref := true, lost := false, lostAt := 0, aged := 0, seq := 0, req := none, sendAt := 0, good := 0, usedAt := 0, heldAt := 0, slew := 0,
    slewEnd := 0, frac := 0, trim := 0, setNow := true }

/-- The power governor at reset. -/
def Power.init : Power := { demand := 0, win := [], lowAt := 0, heldAt := 0, rep := false }

/-- An empty deep store: nothing listed (log entry 6). -/
def Store.init : Store := { bytes := [], chk := [], clear := [], poison := [], lines := [], reqs := [] }

/-- An empty switch core. -/
def Switch.init : Switch :=
  { rx := [], inj := [], copies := [], replay := [], merged := [], inbox := [], bkts := [], creds := [], samp := [],
    opens := [], rr := 0, rrIn := [], drrs := [] }

/-- No queue, no command. -/
def Transport.init : Transport :=
  { ctxs := [], qseq := [], pushW := [], txns := [], snds := [], rrecs := [], held := [], wfail := [], dirty := [],
    xids := [], e2eN := 0, norecN := 0, probes := [], waits := [], rate := [], rises := [], lastAcc := [] }

/-- No data move. -/
def Moves.init : Moves := { jobs := [], ereq := [], cool := [], mgreq := [] }

/-- No key, no hold. -/
def Sec.init : Sec := { keys := [], recno := [], mirror := Mirror.init }

/-- The nominal supply in mV (table "Corners"): what the block domain is taken to have at power-up (log entry 105). -/
abbrev nominalMv : Nat := 750

/-- The state right after reset: every register at the reset value of its field map (R17, R565), queues empty. -/
def State.reset : State :=
  { pending := [], now := 0, free := 0, ids := 0, powered := true, volt := nominalMv, winEn := false, winRead := 0, blkOn := false,
    blkAt := 0, blkRun := false, regs := [], evq := [], out := [], parts := Vector.replicate 6 Part.init,
    therms := Vector.replicate 12 { lastAt := 0, hotAt := none }, links := Vector.replicate 18 Link.init,
    lanes := Vector.replicate 192 Lane.init, funits := Vector.replicate 7 FUnit.init, st := Store.init,
    sw := Switch.init, tp := Transport.init, mv := Moves.init, gals := [], sec := Sec.init, mg := Mgmt.init,
    ft := FTime.init, pw := Power.init, sdb := { acc := none, goAt := 0, queue := [] }, crcRun := [] }

end Sys2Proof.Machine
end

