-- ==== Sys2Proof/Machine/Coding.lean ====
section
/-! DEFINITION. Line coding of a lane (spec/08_lanes_links.md R265 to R268, R270, R272): blocks and their headers, lane units,
the two Reed-Solomon codes over GF(2^10), transcoding, and the words of a dock. What the rules leave to IEEE 802.3 clause 91 and
what this model chose beside it: log entries 123 and 124. -/

namespace Sys2Proof.Machine

/-! ### Bit strings -/

/-- The `k` low bits of a number, bit 0 first. -/
def bitsLsb (k x : Nat) : List Bool := (List.range k).map x.testBit
/-- The number that bits spell, bit 0 first. -/
def lsbNat (l : List Bool) : Nat := l.foldr (fun b a => b.toNat + 2 * a) 0
/-- The whole chunks of `k` elements of a list, in order. -/
def chunks {α : Type} (k : Nat) (l : List α) : List (List α) :=
  (List.range (l.length / k)).map (fun i => (l.drop (k * i)).take k)

/-! ### GF(2^10), primitive polynomial x^10 + x^3 + 1 (R265) -/

/-- Multiply by x. -/
def gfX (a : Nat) : Nat := let d := 2 * a; if 1024 ≤ d then d ^^^ 0x409 else d
/-- Multiply. -/
def gfMul (a b : Nat) : Nat :=
  ((List.range 10).foldl (fun (x : Nat × Nat) i => (if b.testBit i then x.1 ^^^ x.2 else x.1, gfX x.2)) (0, a)).1
/-- A power, exponent below 1,024. -/
def gfPow (a n : Nat) : Nat :=
  ((List.range 10).foldl (fun (x : Nat × Nat) i => (if n.testBit i then gfMul x.1 x.2 else x.1, gfMul x.2 x.2)) (1, a)).1
/-- Inverse of a non-zero element: the multiplicative group has order 1,023. -/
def gfInv (a : Nat) : Nat := gfPow a 1022
/-- A power of α = x. -/
def alpha (i : Nat) : Nat := gfPow 2 (i % 1023)

/-- Value of a polynomial, coefficient of lowest degree first. -/
def polyEval (p : List Nat) (x : Nat) : Nat := p.foldr (fun c a => c ^^^ gfMul a x) 0
/-- Sum of polynomials. -/
def polyAdd : List Nat → List Nat → List Nat
  | [], q => q
  | p, [] => p
  | a :: p, b :: q => (a ^^^ b) :: polyAdd p q
/-- Scale a polynomial. -/
def polyScale (c : Nat) (p : List Nat) : List Nat := p.map (gfMul c)
/-- Product of polynomials. -/
def polyMul (p q : List Nat) : List Nat := p.foldr (fun c a => polyAdd (polyScale c q) (0 :: a)) []

/-! ### Reed-Solomon (R265) -/

/-- The generator of a code with `r` parity symbols: the product of (x − α^i), i = 0 to r − 1. -/
def rsGen (r : Nat) : List Nat := (List.range r).foldl (fun g i => polyMul [alpha i, 1] g) [1]
/-- The parity symbols of a message, both with the symbol of highest degree first. -/
def rsParity (r : Nat) (msg : List Nat) : List Nat :=
  let g := ((rsGen r).take r).reverse
  msg.foldl (fun rem m => List.zipWith (· ^^^ ·) (rem.drop 1 ++ [0]) (polyScale (m ^^^ rem.headD 0) g)) (List.replicate r 0)
/-- The syndromes of a received word, symbol of highest degree first. -/
def rsSyndromes (r : Nat) (w : List Nat) : List Nat :=
  (List.range r).map (fun i => let x := alpha i; w.foldl (fun a c => gfMul a x ^^^ c) 0)

/-- What the Berlekamp-Massey iteration holds: error locator, the one before it, its length, the shift and the discrepancy since. -/
structure BmState where
  c : List Nat
  p : List Nat
  l : Nat
  m : Nat
  b : Nat
  deriving DecidableEq, Repr
/-- The error locator of syndromes. -/
def rsLocator (syn : List Nat) : BmState :=
  (List.range syn.length).foldl (fun z n =>
    let d := (List.range (z.l + 1)).foldl (fun a i => a ^^^ gfMul (z.c.getD i 0) (if i ≤ n then syn.getD (n - i) 0 else 0)) 0
    if d = 0 then { z with m := z.m + 1 }
    else
      let c := polyAdd z.c (List.replicate z.m 0 ++ polyScale (gfMul d (gfInv z.b)) z.p)
      if 2 * z.l ≤ n then { c, p := z.c, l := n + 1 - z.l, m := 1, b := d } else { z with c, m := z.m + 1 })
    { c := [1], p := [1], l := 0, m := 1, b := 1 }

/-- Decode a word with `r` parity symbols: the word corrected and the number of symbols corrected; `none` where it is
uncorrectable (R265, R266). -/
def rsDecode (r : Nat) (w : List Nat) : Option (List Nat × Nat) :=
  let syn := rsSyndromes r w
  if syn.all (· = 0) then some (w, 0)
  else
    let z := rsLocator syn
    let omega := (polyMul syn z.c).take r
    let deriv := (List.range z.c.length).map (fun i => if i % 2 = 0 then z.c.getD (i + 1) 0 else 0)
    let fix := (List.range w.length).map (fun j =>
      let x := alpha (w.length - 1 - j)
      let xi := gfInv x
      let old := w.getD j 0
      if polyEval z.c xi = 0 then (old ^^^ gfMul x (gfMul (polyEval omega xi) (gfInv (polyEval deriv xi))), true) else (old, false))
    let n := (fix.filter (·.2)).length
    let w' := fix.map (·.1)
    if z.l ≤ r / 2 ∧ n = z.l ∧ (rsSyndromes r w').all (· = 0) then some (w', n) else none

/-! ### Blocks (R272) -/

/-- Is a control block's TYPE listed, with its reserved bits zero (R272, R523)? `sealing`: the link carries SEAL. -/
def ctlListed (sealing : Bool) (p : BitVec 64) : Bool :=
  let n := p.toNat
  let top (k : Nat) : Bool := decide (n < 2 ^ k)
  match n % 256 with
  | 0x00 => top 8
  | 0x10 | 0x30 | 0x31 => top 24
  | 0x20 | 0x40 => top 32 && decide (nfld n 12 4 = 0)
  | 0x50 => top 9
  | 0x60 => top 44
  | 0x70 => sealing
  | _ => false

/-- The 66 bits of a block: the header, its left digit first, then the payload, bit 0 first. -/
def Blk.bits : Blk → List Bool
  | .data d => false :: true :: bitsLsb 64 d.toNat
  | .ctl p => true :: false :: bitsLsb 64 p.toNat
  | .bad => true :: true :: bitsLsb 64 0
/-- The block that 66 bits spell; one with a lost bit is errored (R267). -/
def Blk.ofBits (sealing : Bool) (l : List (Option Bool)) : Blk :=
  let b := l.map (·.getD false)
  let p := BitVec.ofNat 64 (lsbNat (b.drop 2))
  if l.any (·.isNone) then .bad
  else match b.take 2 with
    | [false, true] => .data p
    | [true, false] => if ctlListed sealing p then .ctl p else .bad
    | _ => .bad
/-- Does a block have a valid header (R268, R272)? -/
def Blk.valid : Blk → Bool
  | .bad => false
  | _ => true

/-! ### Transcoding of classes C and O, as IEEE 802.3 clause 91 does (R265) -/

/-- Four bits for a TYPE: of the first control block of a 257-bit word they take the place of the eight (log entry 124). -/
def typeNibble (t : Nat) : Nat := if t = 0x31 then 8 else t / 16
/-- The TYPE that four bits stand for; 9 to 15 stand for none, and give one that R272 does not list. -/
def nibbleType (k : Nat) : Nat := if k = 8 then 0x31 else 16 * k
/-- Exchange: bits 0 to 4 of a 257-bit word with bits 8 to 12 added. -/
def xcScramble (l : List Bool) : List Bool := List.zipWith xor (l.take 5) ((l.drop 8).take 5) ++ l.drop 5
/-- Is this a control block? -/
def Blk.isCtl : Blk → Bool
  | .ctl _ => true
  | _ => false
/-- The payload bits of a block. -/
def Blk.pay : Blk → List Bool
  | .data d => bitsLsb 64 d.toNat
  | .ctl p => bitsLsb 64 p.toNat
  | .bad => bitsLsb 64 0
/-- Four blocks as a 257-bit word. -/
def transcode (bs : List Blk) : List Bool :=
  match bs.findIdx? Blk.isCtl with
  | none => xcScramble (true :: bs.flatMap Blk.pay)
  | some c =>
    xcScramble (false :: (bs.map (fun b => !b.isCtl) ++ (List.range bs.length).flatMap (fun i =>
      let p := (bs.getD i .bad).pay
      if i = c then bitsLsb 4 (typeNibble (lsbNat (p.take 8))) ++ p.drop 8 else p)))
/-- The four blocks of a 257-bit word; a word with a lost bit gives four errored ones. -/
def untranscode (sealing : Bool) (l : List (Option Bool)) : List Blk :=
  let b := xcScramble (l.map (·.getD false))
  let flags := (b.drop 1).take 4
  let blk (isData : Bool) (p : List Bool) : Blk :=
    Blk.ofBits sealing ((if isData then [false, true] else [true, false]).map some ++ p.map some)
  if l.any (·.isNone) then List.replicate 4 .bad
  else if b.headD false then (chunks 64 (b.drop 1)).map (blk true)
  else match flags.findIdx? (fun d => !d) with
    | none => List.replicate 4 .bad
    | some c =>
      let r := b.drop 5
      let whole := r.take (64 * c) ++ bitsLsb 8 (nibbleType (lsbNat ((r.drop (64 * c)).take 4))) ++ r.drop (64 * c + 4)
      List.zipWith blk flags (chunks 64 whole)

/-! ### Lane units (R265, R266, R268) -/

/-- Blocks and bits of what a receiver decodes at a time: a lane unit in classes P and B, a codeword in C and O. -/
abbrev unitBlks (reach : Nat) : Nat := if reach ≤ 1 then 20 else 80
abbrev unitBits (reach : Nat) : Nat := if reach ≤ 1 then 1360 else 5440

/-- The 10-bit symbols of bits, bit 0 first. -/
def symsOf (l : List Bool) : List Nat := (chunks 10 l).map lsbNat
/-- The bits of symbols. -/
def bitsOfSyms (l : List Nat) : List Bool := l.flatMap (bitsLsb 10)

/-- The bits of a unit of blocks on the line (R265). -/
def unitEncode (reach : Nat) (bs : List Blk) : List Bool :=
  if reach = 0 then bs.flatMap Blk.bits ++ List.replicate 40 false
  else if reach = 1 then
    let m := bs.flatMap Blk.bits
    m ++ bitsOfSyms (rsParity 4 (symsOf m))
  else
    let m := (chunks 4 bs).flatMap transcode
    m ++ bitsOfSyms (rsParity 30 (symsOf m))

/-- What decoding a unit gives: its blocks, the validity of each header counted (R268), the symbols corrected, and whether it was
uncorrectable. -/
structure UnitRx where
  blks  : List Blk
  hdrs  : List Bool
  corr  : Nat
  uncor : Bool
  deriving DecidableEq, Repr

/-- Put what was lost back where it was lost (R267). -/
def reLost (lost : List (Option Bool)) (b : List Bool) : List (Option Bool) :=
  List.zipWith (fun o x => o.map (fun _ => x)) lost b

/-- Decode a unit (R265 to R268): an uncorrectable unit of class B is delivered as received; an uncorrectable codeword of class C
or O gives errored blocks and counts as 4 invalid headers. -/
def unitDecode (reach : Nat) (sealing : Bool) (l : List (Option Bool)) : UnitRx :=
  let raw := l.map (·.getD false)
  let plain (bits : List Bool) (corr : Nat) (uncor : Bool) : UnitRx :=
    let bs := (chunks 66 (reLost (l.take 1320) (bits.take 1320))).map (Blk.ofBits sealing)
    { blks := bs, hdrs := bs.map Blk.valid, corr, uncor }
  if reach = 0 then plain raw 0 false
  else if reach = 1 then
    match rsDecode 4 (symsOf raw) with
    | some r => plain (bitsOfSyms r.1) r.2 false
    | none => plain raw 0 true
  else
    match rsDecode 30 (symsOf raw) with
    | some r =>
      let bs := (chunks 257 (reLost (l.take 5140) ((bitsOfSyms r.1).take 5140))).flatMap (untranscode sealing)
      { blks := bs, hdrs := bs.map Blk.valid, corr := r.2, uncor := false }
    | none => { blks := List.replicate 80 .bad, hdrs := List.replicate 4 false, corr := 0, uncor := true }

/-- The bits of a dock word, bit 0 first; of a lost word, all lost (R21, R267). -/
def dockBits : Option (BitVec 128) → List (Option Bool)
  | some w => (bitsLsb 128 w.toNat).map some
  | none => List.replicate 128 none
/-- The words that bits fill. -/
def dockWords (l : List Bool) : List (BitVec 128) := (chunks 128 l).map (fun b => BitVec.ofNat 128 (lsbNat b))

/-! ### What a port's outputs are as blocks (R270, R288) -/

/-- The data blocks of a packet, padded with zeros up to the next multiple of 8 bytes (R288). -/
def dataBlks (bytes : List Byte) : List Blk :=
  (List.range (cdiv bytes.length 8)).map (fun i => .data (BitVec.ofNat 64 (bytesNat (slice bytes (8 * i) 8))))
/-- TYPE of a control block (R272). -/
def ctlType (p : BitVec 64) : Nat := p.toNat % 256
/-- The stream blocks of an output of a port with `w` active lanes; IDLE_ENTER goes on every one in the same round (R272). -/
def Out.blks (w : Nat) : Out → List Blk
  | .pkt _ _ b | .cut _ _ b => dataBlks b
  | .ctl _ p => if ctlType p = 0x50 then List.replicate w (.ctl p) else [.ctl p]
  | .idle _ n => List.replicate n (.ctl 0)
  | _ => []
/-- Does an output go on every active lane in the same round (R272)? -/
def Out.everyLane : Out → Bool
  | .ctl _ p => decide (ctlType p = 0x50)
  | _ => false
/-- How many they are. -/
def Out.blkCount (w : Nat) : Out → Nat
  | .pkt _ _ b | .cut _ _ b => cdiv b.length 8
  | .ctl _ p => if ctlType p = 0x50 then w else 1
  | .idle _ n => n
  | _ => 0

/-- What the `i`-th of `w` active lanes carries in its block position `p` (R270): the stream dealt round-robin, and in the last of
every 16,384 positions a MARK. -/
def dealt (w i p : Nat) (mark : Blk) (stream : List Blk) : Blk :=
  if p % 16384 = 16383 then mark else stream.getD ((p - p / 16384) * w + i) (.ctl 0)

end Sys2Proof.Machine
end

