-- ==== Sys2Proof/Machine/Flags.lean ====
section
/-! DEFINITION. Status codes, RESULT words and the flag bits of completion records (R83, R84, R201). -/

namespace Sys2Proof.Machine

/-! Status codes (table of status codes, spec/02_command_queues.md). -/
abbrev stDONE : Nat := 0x00
abbrev stUNREACH : Nat := 0x10
abbrev stTGTTO : Nat := 0x11
abbrev stTRANSTO : Nat := 0x12
abbrev stGENSTALE : Nat := 0x13
abbrev stREGION : Nat := 0x20
abbrev stKEY : Nat := 0x21
abbrev stSLICE : Nat := 0x22
abbrev stCHECK : Nat := 0x30
abbrev stPOISON : Nat := 0x31
abbrev stGALTO : Nat := 0x40
abbrev stGALAB : Nat := 0x41
abbrev stFORMAT : Nat := 0x50
abbrev stQUAR : Nat := 0x51
abbrev stPRESET : Nat := 0x60

/-- RESULT of TARGET_UNREACHABLE, TARGET_TIMEOUT, TRANSPORT_TIMEOUT, GEN_STALE: endpoint and bytes (R84). -/
def resEp (ep bytes : Nat) : Nat := ep % 2 ^ 16 + (bytes % 2 ^ 32) <<< 32
/-- RESULT of REGION_FAULT and KEY_MISMATCH (R84). -/
def resReg (ep reg bytes : Nat) : Nat := ep % 2 ^ 16 + (reg % 2 ^ 20) <<< 16 + (bytes % 2 ^ 24) <<< 40
/-- RESULT of FORMAT_ERROR: reason code and byte offset (R84). -/
def resFmt (code off : Nat) : Nat := code % 2 ^ 8 + (off % 2 ^ 6) <<< 8
/-- RESULT of a failed gallery command (R201). -/
def resGal (g reason sgen chunk port : Nat) : Nat :=
  g % 2 ^ 12 + (reason % 2 ^ 4) <<< 12 + (sgen % 2 ^ 8) <<< 16 + (chunk % 2 ^ 24) <<< 24 + (port % 2 ^ 5) <<< 48

/-- The status of an edge answer code (R133). -/
def ansStatus (code : Nat) : Nat := if code = 0 then stDONE else if code = 1 then stPOISON else stREGION

/-- Word 0 of a completion record, PH zero (R83): `fl` holds SAT, UFL, SR, CMB in bits 0 to 3. -/
def recWord0 (tag status fl qid gen opc : Nat) : Nat :=
  tag % 2 ^ 16 + (status % 2 ^ 8) <<< 16 + (fl % 2 ^ 4) <<< 24 + (qid % 2 ^ 20) <<< 32 + (gen % 2 ^ 4) <<< 52
    + (opc % 2 ^ 8) <<< 56

/-- Flags of a record (R83): SAT, UFL, SR, CMB. -/
def recFlags (sat ufl sr cmb : Bool) : Nat := sat.toNat + 2 * ufl.toNat + 4 * sr.toNat + 8 * cmb.toNat

/-! Abort reasons of a gallery step (R201). -/
abbrev grTIMEOUT : Nat := 0
abbrev grREMOTE : Nat := 1
abbrev grCHECK : Nat := 2
abbrev grLINK : Nat := 3
abbrev grRESET : Nat := 4
abbrev grGENMIS : Nat := 5
abbrev grMEMBER : Nat := 6
abbrev grTEAR : Nat := 7
abbrev grOOS : Nat := 8

/-- The status a reason gives (R201). -/
def reasonStatus (r : Nat) : Nat := if r = grTIMEOUT then stGALTO else stGALAB

end Sys2Proof.Machine
end

