-- ==== Sys2Proof/Machine/Operands.lean ====
section
/-! DEFINITION. The fields of a command (R78, R80, R168, R192, R540) and the format checks that depend on the command
alone (R81, R97, R98, R108, R164, R168, R540). A check answers the first failing reason code with the byte offset of
the field (R84). -/

namespace Sys2Proof

open Sys2Proof.Machine

/-- Word `i` of a command. -/
def Cmd.word (c : Cmd) (i : Nat) : Word :=
  match i with
  | 0 => c.w0 | 1 => c.w1 | 2 => c.w2 | 3 => c.w3 | 4 => c.w4 | 5 => c.w5 | 6 => c.w6 | _ => c.w7

/-- Bits `[lo + w - 1 : lo]` of word `i`. -/
def Cmd.fld (c : Cmd) (i lo w : Nat) : Nat := nfld (c.word i).toNat lo w

def Cmd.opc (c : Cmd) : Nat := c.fld 0 0 8
def Cmd.subop (c : Cmd) : Nat := c.fld 0 8 8
def Cmd.flags (c : Cmd) : Nat := c.fld 0 16 10
def Cmd.flag (c : Cmd) (b : Nat) : Bool := nbit c.flags b
def Cmd.scope (c : Cmd) : Nat := c.fld 0 26 2
def Cmd.dst (c : Cmd) : Nat := c.fld 0 32 16
def Cmd.tag (c : Cmd) : Nat := c.fld 0 48 16
def Cmd.len (c : Cmd) : Nat := c.fld 1 0 32
def Cmd.sync (c : Cmd) : Nat := c.fld 1 32 16
def Cmd.key (c : Cmd) : Nat := c.fld 1 48 16
def Cmd.roff (c : Cmd) : Nat := c.fld 2 0 44
def Cmd.rreg (c : Cmd) : Nat := c.fld 2 44 20
def Cmd.loff (c : Cmd) : Nat := c.fld 3 0 44
def Cmd.lreg (c : Cmd) : Nat := c.fld 3 44 20
/-- COPY: SRCEP and SKEY (R80). -/
def Cmd.srcep (c : Cmd) : Nat := c.fld 4 0 16
def Cmd.skey (c : Cmd) : Nat := c.fld 4 16 16
/-- Gallery opcodes (R192). -/
def Cmd.gal (c : Cmd) : Nat := c.fld 4 0 12
def Cmd.sgen (c : Cmd) : Nat := c.fld 4 16 8
def Cmd.coff (c : Cmd) : Nat := c.fld 4 24 24
def Cmd.pushed (c : Cmd) : Bool := nbit c.subop 0
def Cmd.nfrm (c : Cmd) : Nat := c.fld 5 0 24
def Cmd.tstart (c : Cmd) : Nat := c.fld 5 0 24
def Cmd.tokb (c : Cmd) : Nat := c.fld 5 24 16
def Cmd.wstart (c : Cmd) : Nat := c.fld 6 0 24
def Cmd.wcnt (c : Cmd) : Nat := c.fld 6 24 24
/-- SYNC_WAIT word 5 (R168). -/
def Cmd.wto (c : Cmd) : Nat := c.fld 5 32 24
def Cmd.cmp (c : Cmd) : Nat := c.fld 5 0 3

/-- The 64 bytes of a command. -/
def Cmd.bytes (c : Cmd) : List Byte := (List.range 8).flatMap (fun i => natBytes 8 (c.word i).toNat)

/-- The command that 64 bytes spell. -/
def Cmd.ofBytes (l : List Byte) : Cmd :=
  let w (i : Nat) : Word := BitVec.ofNat 64 (bytesNat (slice l (8 * i) 8))
  ⟨w 0, w 1, w 2, w 3, w 4, w 5, w 6, w 7⟩

/-- The inline data of a PUT_INLINE: bytes 24 to 23 + LEN (R80). -/
def Cmd.inlineData (c : Cmd) : List Byte := slice c.bytes 24 c.len

/-- A region of the command in use, as (word, lowest bit, width); bits of no field are reserved. -/
abbrev Used := Nat × Nat × Nat

/-- Words 0 to 2 of every data command (R78): reserved are FLAGS bits 7–9 and bits [31:28] of word 0. -/
def usedHead : List Used := [(0, 0, 23), (0, 26, 2), (0, 32, 32), (1, 0, 64), (2, 0, 64)]

/-- The fields an opcode names (R80, R168, R192, R540, R541). -/
def Cmd.used (c : Cmd) : List Used :=
  match c.opc with
  | 0x01 | 0x03 => usedHead ++ [(3, 0, 64)]
  | 0x02 => usedHead ++ [(3, 0, 64), (4, 0, 64), (5, 0, 64), (6, 0, 64), (7, 0, 64)]
  | 0x04 => usedHead ++ [(3, 0, 64), (4, 0, 32)]
  | 0x08 => usedHead ++ [(4, 0, 64)] ++ (if c.subop % 16 = 6 then [(5, 0, 64)] else [])
  | 0x10 | 0x12 => usedHead ++ [(4, 0, 64)]
  | 0x11 => usedHead ++ [(4, 0, 64), (5, 0, 3), (5, 32, 24)]
  | 0x18 => usedHead
  | 0x20 => usedHead ++ [(3, 0, 64), (4, 0, 12), (4, 16, 32)]
  | 0x22 => usedHead ++ [(4, 0, 12), (4, 16, 8), (5, 0, 24)]
  | 0x28 => usedHead ++ [(3, 0, 64), (4, 0, 12), (4, 16, 32), (5, 0, 40), (6, 0, 48)]
  | 0x80 => [(0, 0, 8), (0, 48, 16), (2, 0, 32)]
  | 0x81 => [(0, 0, 8), (0, 48, 16), (2, 0, 32), (3, 0, 64)]
  | 0x82 =>
    [(0, 0, 8), (0, 48, 16), (2, 0, 4), (2, 8, 24), (3, 0, 64)]
      ++ (match c.fld 2 0 4 with
          | 1 => [(4, 0, 64), (5, 0, 64), (6, 0, 64)]
          | 2 | 3 => [(4, 0, 64)]
          | _ => [])
  | 0x83 => [(0, 0, 8), (0, 48, 16), (2, 0, 1), (2, 32, 16)]
  | 0x84 => [(0, 0, 8), (0, 48, 16), (2, 0, 12), (3, 0, 64), (4, 0, 64), (5, 0, 64), (6, 0, 64)]
  | 0x88 | 0x89 => [(0, 0, 8), (0, 48, 16), (2, 0, 6)]
  | 0x8A => [(0, 0, 8), (0, 48, 16), (2, 0, 40), (3, 0, 40)]
  | 0x8C => [(0, 0, 8), (0, 48, 16), (2, 0, 40), (3, 0, 40), (4, 0, 2)]
  | 0x90 => [(0, 0, 8), (0, 48, 16), (2, 0, 3)]
  | 0x98 => [(0, 0, 8), (0, 48, 16), (2, 0, 64)]
  | 0xA0 => [(0, 0, 8), (0, 48, 16), (2, 0, 3), (2, 16, 16)]
  | 0xA8 => [(0, 0, 8), (0, 48, 16), (2, 0, 12), (2, 16, 6)]
  | 0xB0 => [(0, 0, 16), (0, 48, 16), (2, 0, 64), (3, 0, 64), (4, 0, 32)]
  | _ => [(0, 0, 64), (1, 0, 64), (2, 0, 64), (3, 0, 64), (4, 0, 64), (5, 0, 64), (6, 0, 64), (7, 0, 64)]

/-- The bits of SUBOP that are fields: FETCH and the operation of ATOMIC (R108), PUSHED of the gallery opcodes (R192), all of it
in ATTEST (R540); elsewhere it is reserved ("zero where unused", R78). -/
def Cmd.subopUsed (c : Cmd) : List Used :=
  match c.opc with
  | 0x08 => [(0, 8, 4), (0, 15, 1)]
  | 0x20 | 0x22 | 0x28 => [(0, 8, 1)]
  | 0xB0 => [(0, 8, 8)]
  | _ => []

/-- The fields that word `i` of a command has. -/
def Cmd.fieldsAt (c : Cmd) (i : Nat) : List Pos :=
  ((c.used ++ (if i = 0 then c.subopUsed else [])).filter (fun u => u.1 = i)).map (fun u => ⟨u.2.1, u.2.2⟩)

/-- Where the fields of words 0 and 1 lie in every command (R78), reserved or not. -/
def headFields (i : Nat) : List Pos :=
  match i with
  | 0 => [⟨0, 8⟩, ⟨8, 8⟩, ⟨16, 10⟩, ⟨26, 2⟩, ⟨28, 4⟩, ⟨32, 16⟩, ⟨48, 16⟩]
  | 1 => [⟨0, 32⟩, ⟨32, 16⟩, ⟨48, 16⟩]
  | _ => []

/-- The mask of the bits of word `i` that are fields. Word 0 of `used` spans SUBOP, which `subopUsed` gives. -/
def Cmd.usedMask (c : Cmd) (i : Nat) : Word :=
  let m := c.used.foldl (fun a u => if u.1 = i then a ||| fmask ⟨u.2.1, u.2.2⟩ else a) (0 : Word)
  if i = 0 then (m &&& ~~~(fmask ⟨8, 8⟩)) ||| c.subopUsed.foldl (fun a u => a ||| fmask ⟨u.2.1, u.2.2⟩) 0 else m

/-- The first non-zero reserved field of word `i`: reason 0x02 and the byte at which it starts (R81, R84). -/
def Cmd.reservedAt (c : Cmd) (i : Nat) : Option (Nat × Nat) :=
  let bad := c.word i &&& ~~~(c.usedMask i)
  if bad = 0 then none else some (2, 8 * i + fieldByte (cutsOf (c.fieldsAt i ++ headFields i)) bad)

/-- The first non-zero reserved field (R81, R84). In a PUT_INLINE it is the first non-zero byte behind the data (R80). -/
def Cmd.reservedFail (c : Cmd) : Option (Nat × Nat) :=
  if c.opc = opPUTI then
    c.reservedAt 0 <|>
      (if c.len ≤ 40 then
        ((List.range 64).find? (fun i => decide (24 + c.len ≤ i) && decide (c.bytes.getD i 0 ≠ 0))).map (fun i => (2, i))
      else none)
  else (List.range 8).findSome? c.reservedAt

/-- Is OPC a data opcode of R573? -/
def isDataOpc (o : Nat) : Bool := o ∈ [0x01, 0x02, 0x03, 0x04, 0x08, 0x10, 0x11, 0x12, 0x18, 0x20, 0x22, 0x28]

/-- Is OPC a management opcode of R540? -/
def isMgmtOpc (o : Nat) : Bool :=
  o ∈ [0x80, 0x81, 0x82, 0x83, 0x84, 0x88, 0x89, 0x8A, 0x8C, 0x90, 0x98, 0xA0, 0xA8, 0xB0]

/-- Operand bytes of an ATOMIC sub-op: 4 for ADD_I32, ADD_F32 and ADD_BF16X2, 8 for the others (R97, R108). -/
def atomicLen (op : Nat) : Nat := if op = 0 ∨ op = 2 ∨ op = 3 then 4 else 8

/-- A field of a data command out of its range: reason 0x03 and its byte offset (R81, R97, R98, R108, R164, R168).
The SCOPE code is checked only where RELEASE or ACQUIRE is set (R79). -/
def Cmd.rangeFail (c : Cmd) : Option (Nat × Nat) :=
  let o := c.opc
  if o = opATOMIC ∧ c.subop % 16 ≥ 8 then some (3, 1)
  else if c.scope = 3 ∧ (c.flag fRELEASE ∨ c.flag fACQUIRE) then some (3, 3)
  else if (o = opSYNCADD ∨ o = opSYNCSET ∨ o = opSYNCWAIT) ∧ c.dst % 16 ≠ 13 then some (3, 4)
  else if (o = opPUT ∨ o = opGET ∨ o = opCOPY) ∧ (c.len = 0 ∨ 1048576 < c.len) then some (3, 8)
  else if o = opPUTI ∧ (c.len = 0 ∨ 40 < c.len) then some (3, 8)
  else if o = opATOMIC ∧ c.len ≠ atomicLen (c.subop % 16) then some (3, 8)
  else if (o = opSYNCADD ∨ o = opSYNCSET ∨ o = opSYNCWAIT ∨ o = opFENCE) ∧ c.len ≠ 0 then some (3, 8)
  else if o = opATOMIC ∧ c.roff % c.len ≠ 0 then some (3, 16)
  else if o = opSYNCWAIT ∧ 3 ≤ c.cmp then some (3, 40)
  else if o = opSYNCWAIT ∧ 10000000 < c.wto then some (3, 44)
  else none

/-- The format check of a data command on a data queue or queue 0 (R81), in the order of its table. -/
def Cmd.formatFail (c : Cmd) (q0 : Bool) : Option (Nat × Nat) :=
  if !isDataOpc c.opc && !isMgmtOpc c.opc then some (1, 0)
  else if isMgmtOpc c.opc && !q0 then some (5, 0)
  else c.reservedFail <|> (if isDataOpc c.opc then c.rangeFail else none)

/-- Opcodes to which RELEASE applies (R148, R194). -/
def Cmd.releases (c : Cmd) : Bool :=
  c.flag fRELEASE && decide (c.opc ∈ [opPUT, opPUTI, opGET, opCOPY, opATOMIC, opSYNCADD, opSYNCSET, opGALC, opCOMB, opKVR])
/-- Opcodes to which ACQUIRE applies (R148): an ATOMIC only with FETCH. -/
def Cmd.acquires (c : Cmd) : Bool :=
  c.flag fACQUIRE && (decide (c.opc ∈ [opGET, opCOPY, opSYNCWAIT, opGALC, opCOMB, opKVR]) || (decide (c.opc = opATOMIC) && nbit c.subop 7))
/-- Opcodes to which ORDERED applies (R148). -/
def Cmd.ordered (c : Cmd) : Bool :=
  c.flag fORDERED && decide (c.opc ∈ [opPUT, opPUTI, opGET, opCOPY, opATOMIC, opSYNCADD, opSYNCSET])

end Sys2Proof
end

