-- ==== Sys2Proof/Machine/Ops.lean ====
section
/-! DEFINITION. Named operations over registers, parts, links, memory, events, packets and queue contexts. -/

namespace Sys2Proof.Machine

/-- Nanoseconds, microseconds and milliseconds in units of 0.25 ns. -/
abbrev ns (k : Nat) : Nat := 4 * k
abbrev us (k : Nat) : Nat := 4000 * k
abbrev ms (k : Nat) : Nat := 4000000 * k

/-- The answer of a meaning whose operands name units the block has; otherwise the fault (R1). -/
def ifWf (ok : Bool) (s : State) : Host.Outcome State Fault Refusal := if ok then .next s else .fault .noSuchUnit

/-! ### Registers -/

/-- Read a register as stored. -/
def State.reg (s : State) (r : Reg) : Word := sget r.reset s.regs r.addr
/-- Store a register, in canonical form. -/
def State.setReg (s : State) (r : Reg) (v : Word) : State := { s with regs := sput r.reset s.regs r.addr v }
/-- Read a field. -/
def State.fld (s : State) (r : Reg) (p : Pos) : Nat := fget (s.reg r) p
/-- Write a field. -/
def State.setFld (s : State) (r : Reg) (p : Pos) (v : Nat) : State := s.setReg r (fset (s.reg r) p v)
/-- Add to a saturating counter field. -/
def State.count (s : State) (r : Reg) (p : Pos) (k : Nat) : State := s.setReg r (fsat (s.reg r) p k)
/-- Raise a high-water field. -/
def State.high (s : State) (r : Reg) (p : Pos) (v : Nat) : State := s.setFld r p (max (s.fld r p) v)

/-! ### Parts, links, lanes -/

def State.part (s : State) (n : Nat) : Part := s.parts[n]?.getD Part.init
def State.setPart (s : State) (n : Nat) (f : Part → Part) : State :=
  { s with parts := s.parts.setIfInBounds n (f (s.part n)) }
def State.link (s : State) (c : Nat) : Link := s.links[c]?.getD Link.init
def State.setLink (s : State) (c : Nat) (f : Link → Link) : State :=
  { s with links := s.links.setIfInBounds c (f (s.link c)) }
def State.lane (s : State) (l : Nat) : Lane := s.lanes[l]?.getD Lane.init
def State.setLane (s : State) (l : Nat) (f : Lane → Lane) : State :=
  { s with lanes := s.lanes.setIfInBounds l (f (s.lane l)) }
def State.funit (s : State) (u : Nat) : FUnit := s.funits[u]?.getD FUnit.init
def State.setFunit (s : State) (u : Nat) (f : FUnit → FUnit) : State :=
  { s with funits := s.funits.setIfInBounds u (f (s.funit u)) }

/-- A fresh identifier of the model's own. -/
def State.fresh (s : State) : Nat × State := (s.ids, { s with ids := s.ids + 1 })
/-- A free value (log entry 3). -/
def State.draw (s : State) : Nat × State := (Config.freeNat s.free, { s with free := s.free + 1 })
/-- Append to the record of outputs. -/
def State.emit (s : State) (o : Out) : State := { s with out := s.out ++ [o] }

/-- Fabric time (R445). -/
def State.fnow (s : State) : Nat := s.fld .ftNow ftNow_TIME
/-- The clock copies age by (R328, R331, R450): fabric time, and what the internal oscillator counts while the reference is
lost. -/
def State.ageNow (s : State) : Nat := s.fnow + s.ft.aged + (if s.ft.lost then s.now - s.ft.lostAt else 0)
/-- Is what arrived at `arr` older than its limit, 200 µs or, for a frame, 2 ms; three quarters of it while the reference
is lost (R328, R331)? -/
def State.aged (s : State) (arr : Nat) (frame : Bool) : Bool :=
  let lim := if frame then ms 2 else us 200
  decide ((if s.ft.lost then lim * 3 / 4 else lim) < s.ageNow - arr)
/-- Own node ID (R343). -/
def State.node (s : State) : Nat := s.fld .node node_NODE
/-- Endpoint ID of port `p` of the own node ("Endpoint identifiers"). -/
def State.ep (s : State) (p : Nat) : Nat := s.node * 16 + p % 16
/-- Node ID of an endpoint. -/
abbrev epNode (e : Nat) : Nat := e / 16 % 4096
/-- Port of an endpoint. -/
abbrev epPort (e : Nat) : Nat := e % 16

/-- The partition that owns port code `c` ("Partition contents"). -/
abbrev portPart (c : Nat) : Nat := if c < 12 then c / 2 else c - 12
/-- The port-local index k of R312. -/
abbrev portK (c : Nat) : Nat := if c < 12 then 1 + c % 2 else 0
/-- The port code of port k of partition n. -/
abbrev portCode (n k : Nat) : Nat := if k = 0 then 12 + n else 2 * n + (k - 1)
/-- Lanes of a port and its minimum width (R19, R274). -/
abbrev portLanes (c : Nat) : Nat := if c < 12 then 8 else 16
abbrev portMin (c : Nat) : Nat := if c < 12 then 4 else 8
/-- The first lane of a port (R19). -/
abbrev portLane0 (c : Nat) : Nat := if c < 12 then 96 + 8 * c else 16 * (c - 12)
/-- The port of a lane (R19). -/
abbrev lanePort (l : Nat) : Nat := if l < 96 then 12 + l / 16 else (l - 96) / 8
/-- The port-local index of a lane (R19). -/
abbrev laneLocal (l : Nat) : Nat := l - portLane0 (lanePort l)
/-- The partition-local lane index of R312. -/
abbrev laneI (l : Nat) : Nat := if l < 96 then l % 16 else 16 + (l - 96) % 16
abbrev laneReg (l : Nat) : Reg := .laneErr (portPart (lanePort l)) (laneI l)
abbrev cfgReg (c : Nat) : Reg := .portCfg (portPart c) (portK c)
abbrev statReg (c : Nat) : Reg := .portStat (portPart c) (portK c)
abbrev errReg (c : Nat) : Reg := .portErr (portPart c) (portK c)

/-! Port states (R274) and partition states (R505). -/
abbrev psOFF : Nat := 0
abbrev psLOCK : Nat := 1
abbrev psALIGN : Nat := 2
abbrev psUP : Nat := 3
abbrev psRETRAIN : Nat := 4
abbrev psDOWN : Nat := 5
abbrev psMISMATCH : Nat := 6
abbrev psPARKED : Nat := 7
abbrev ptRUN : Nat := 0
abbrev ptDUMPWAIT : Nat := 1
abbrev ptDUMPING : Nat := 2
abbrev ptHELD : Nat := 3
abbrev ptCLEARING : Nat := 4
abbrev ptOOS : Nat := 5
abbrev ptDORMANT : Nat := 6

/-- PSTATE of the reset machine (R505). -/
def State.pstate (s : State) (n : Nat) : Nat := s.fld (.rcvStat n) rcvStat_PSTATE
/-- STATE of DX_PSTATE: 0 RUNNING, 1 STILL, 2 ENTERING, 3 DORMANT, 4 WAKING. -/
def State.pwState (s : State) (n : Nat) : Nat := s.fld (.pstate n) pstate_STATE
/-- Does the block domain's supply let the controller enable a partition domain (R52)? -/
def State.voltOk (s : State) : Bool := decide (680 ≤ s.volt)
/-- A running partition: powered, not in reset, not out of service, not entering, in or leaving dormancy (R505, R555). -/
def State.runs (s : State) (n : Nat) : Bool :=
  decide (s.pstate n = ptRUN) && decide (s.pwState n ≤ 1) && s.powered && !s.blkRun && !(s.part n).dark
/-- The current generation (R494). -/
def State.gen (s : State) (n : Nat) : Nat := s.fld (.rcvStat n) rcvStat_GEN
/-- State of a port. -/
def State.pst (s : State) (c : Nat) : Nat := s.fld (statReg c) portStat_STATE
/-- Is the port in UP? -/
def State.up (s : State) (c : Nat) : Bool := decide (s.pst c = psUP)
/-- Put an output in the block stream of a port (R21, R270, R272): the positions gone by since the last one had no word ready and
hold idle blocks, one that goes on every lane begins a round, and the rounds of MARKs that fall due are sent. -/
def State.linkEmit (s : State) (c : Nat) (o : Out) : State :=
  let w := s.fld (statReg c) portStat_WIDTH
  let l := s.link c
  let d := (s.now - l.txAt) * 25 / 32
  let gone := max l.txN (w * (d - d / 16384))
  let at' := if o.everyLane then w * cdiv gone w else gone
  let stop := at' + o.blkCount w
  let r := l.txN / (16383 * w)
  let r' := stop / (16383 * w)
  let s1 := if l.txN < at' then s.emit (.idle c (at' - l.txN)) else s
  let s2 := if r < r' then s1.emit (.mark c r (r' - r)) else s1
  (s2.emit o).setLink c (fun x => { x with txN := stop })
/-- Lanes of a port fenced by FENCE or HWFENCE (R305). -/
def State.fencedLanes (s : State) (c : Nat) : BitVec 16 :=
  BitVec.ofNat 16 (s.fld (cfgReg c) portCfg_FENCE) ||| BitVec.ofNat 16 (s.fld (statReg c) portStat_HWFENCE)
/-- The lowest-numbered running partition (R491). -/
def State.lowestRunning (s : State) : Nat := ((List.range 6).find? s.runs).getD 0
/-- The partition that serves a block-level packet of partition n: n itself, or under R491 the lowest running. -/
def State.servePart (s : State) (n : Nat) : Nat := if s.runs n then n else s.lowestRunning

/-! ### Progress of engines (R474, log entry 125) -/

/-- The progress counter of an engine of Pn; one that has not advanced stands at 0. -/
def State.progOf (s : State) (n st idx : Nat) : Prog :=
  ((s.part n).prog.find? (fun x => decide (x.st = st ∧ x.idx = idx))).getD { st, idx, n := 0, at' := 0 }
/-- An engine of Pn finishes one action or ends one command. -/
def State.advance (s : State) (n st idx : Nat) : State :=
  let k : Prog := { st, idx, n := ((s.progOf n st idx).n + 1) % 2 ^ 64, at' := s.now }
  s.setPart n (fun p => { p with prog := p.prog.filter (fun x => !decide (x.st = st ∧ x.idx = idx)) ++ [k] })

/-! ### Events -/

/-! Source types (STYPE, R470). -/
abbrev syPART : Nat := 0
abbrev syLANE : Nat := 1
abbrev syPORT : Nat := 2
abbrev syTILE : Nat := 3
abbrev syBANK : Nat := 4
abbrev syOUT : Nat := 5
abbrev syCORE : Nat := 6
abbrev syCPE : Nat := 7
abbrev syATU : Nat := 8
abbrev sySEQ : Nat := 9
abbrev syMEM : Nat := 10
abbrev sySENS : Nat := 11
abbrev syUNIT : Nat := 12
abbrev syGAL : Nat := 13

/-- The reduction cores of Pn finish an action together: a chunk's accumulators are spread over all that are not fenced (R223). -/
def State.coresAdvance (s : State) (n : Nat) : State :=
  ((List.range 8).filter (fun j => !nbit (s.fld (.fltFence n) fltFence_CORES) j)).foldl (fun s j => s.advance n syCORE j) s
/-- The copy engine of Pn that works for a sender: identifiers alternate over the unfenced engines (log entry 19). -/
def State.engineOf (s : State) (n id : Nat) : Nat :=
  let f := s.fld (.fltFence n) fltFence_CPE
  let m := id % 2
  if nbit f m ∧ !nbit f (1 - m) then 1 - m else m

/-- Queue an event for its fault unit (R455, R456). -/
def State.event (s : State) (u code : Nat) (src : Src) (slice : Option Nat := none) : State :=
  { s with evq := s.evq ++ [{ unit := u, code, src, slice }] }
/-- An event of a port. -/
def State.portEvent (s : State) (c code : Nat) : State := s.event (portPart c) code ⟨2, c⟩
/-- An event of a lane. -/
def State.laneEvent (s : State) (l code : Nat) : State := s.event (portPart (lanePort l)) code ⟨1, l⟩
/-- An event of a memory port. -/
def State.memEvent (s : State) (p code : Nat) : State := s.event 6 code ⟨10, p⟩
/-- An event of the block or a block unit. -/
def State.blockEvent (s : State) (code : Nat) (src : Src) : State := s.event 6 code src
/-- An event of output o of partition n: SIDX is the output index (R470). -/
def State.outEvent (s : State) (n o code slice : Nat) : State := s.event n code ⟨5, o⟩ (some slice)

/-! ### Deep store -/

/-- Tiles of the deep store and the end of its last byte (R398). -/
abbrev dsTiles : Nat := 35156250
abbrev dsEnd : Nat := 144000000000
/-- First tile with a check word (R403). -/
abbrev firstChecked : Nat := 0xC000

/-- A byte of the deep store. -/
def Store.byte (m : Store) (a : Nat) : Byte := sget 0 m.bytes a
/-- `n` bytes of the deep store. -/
def Store.read (m : Store) (a n : Nat) : List Byte := (List.range n).map (fun i => m.byte (a + i))
/-- Write bytes. -/
def Store.write (m : Store) (a : Nat) (d : List Byte) : Store :=
  { m with bytes := (d.zipIdx).foldl (fun b x => sput 0 b (a + x.2) x.1) m.bytes }
/-- The check word an unlisted tile has: that of a zero tile where a clearing covered it, else 0 (log entry 6). -/
def Store.chkDefault (m : Store) (t : Nat) : BitVec 32 :=
  if m.clear.any (fun r => decide (r.1 ≤ t ∧ t < r.2)) then zeroTileCrc else 0
/-- The check word of a tile (R403). -/
def Store.check (m : Store) (t : Nat) : BitVec 32 := sget (m.chkDefault t) m.chk t
/-- Set a tile's check word. -/
def Store.setCheck (m : Store) (t : Nat) (v : BitVec 32) : Store := { m with chk := sput (m.chkDefault t) m.chk t v }
/-- The CRC-32C of a tile's bytes (R403); a tile with no byte listed is all zero. -/
def Store.tileCrc (m : Store) (t : Nat) : BitVec 32 :=
  if m.bytes.any (fun b => decide (b.1 / 4096 = t)) then crc32c (m.read (4096 * t) 4096) else zeroTileCrc
/-- Write part of a tile and its new check word (R405). -/
def Store.writeTile (m : Store) (t lo : Nat) (d : List Byte) : Store :=
  let m1 := m.write (4096 * t + lo) d
  m1.setCheck t (m1.tileCrc t)
/-- Write bytes of system areas, a tile at a time, each with its check word (used for the controller's own tables). -/
def Store.writeSys (m : Store) (a : Nat) (d : List Byte) : Store := m.writeTile (a / 4096) (a % 4096) d
/-- Zeros with check words over tiles `[lo, hi)` (R413, R415): bytes, listed check words and poison in it are gone. -/
def Store.clearTiles (m : Store) (lo hi : Nat) : Store :=
  let inr (t : Nat) : Bool := decide (lo ≤ t ∧ t < hi)
  { m with
    bytes := m.bytes.filter (fun b => !inr (b.1 / 4096))
    chk := m.chk.filter (fun b => !inr b.1)
    clear := m.clear ++ [(lo, hi)]
    poison := m.poison.filter (fun t => !inr t) }
/-- The check of R404 on a tile as stored: 0x31 poisoned, 0x30 check failure, 0 good. Check-area tiles have none. -/
def Store.tileStatus (m : Store) (t : Nat) : Nat :=
  if t ∈ m.poison then stPOISON else if t < firstChecked then stDONE
  else if m.check t = m.tileCrc t then stDONE else stCHECK
/-- The store-cache line of a tile, one with no invalidation pending. -/
def Store.line (m : Store) (t : Nat) : Option Line := m.lines.find? (fun l => l.tile = t)
/-- Drop a tile's line. -/
def Store.dropLine (m : Store) (t : Nat) : Store := { m with lines := m.lines.filter (fun l => l.tile ≠ t) }
/-- Fill a line, replacing the least recently used of its set (R409); lines are kept most recent first. -/
def Store.fillLine (m : Store) (l : Line) : Store :=
  let rest := m.lines.filter (fun x => x.tile ≠ l.tile)
  let set := rest.filter (fun x => x.tile % 256 = l.tile % 256)
  let out := if set.length < 8 then none else set.getLast?
  { m with lines := l :: (match out with | none => rest | some v => rest.filter (fun x => x.tile ≠ v.tile)) }

/-! ### Mirror buffer (R402) -/

/-- The mirror offset of a register, where it has one. -/
def mirrorOff (r : Reg) : Option Nat :=
  match r with
  | .rtab e w => some (0x100000 * e + 8 * w)
  | .syncOwn i => some (0x200000 + 8 * i)
  | .galDesc g w => some (0x280000 + 32 * g + 8 * w)
  | .squota s => some (0x2A0000 + 8 * s)
  | .strict => some 0x2A0200
  | _ => none

/-- Queue the update of the mirror copy of a register that a write has changed; MSYNC reads 0 meanwhile. -/
def State.mirror (s : State) (r : Reg) : State :=
  match mirrorOff r with
  | none => s
  | some o =>
    let m := s.sec.mirror
    let s1 := s.setFld .dsStat dsStat_MSYNC 0
    { s1 with sec := { s1.sec with mirror := { m with pend := m.pend ++ [(o, s.reg r)] } } }

/-- Is the register's table one whose writes wait under a mirror hold (R515)? -/
def heldByMirror (s : State) (r : Reg) : Bool := s.sec.mirror.held.isSome && (mirrorOff r).isSome

/-! ### Queue contexts -/

/-! Fields of words 0 to 2 (R62). -/
abbrev qSTATE : Pos := ⟨0, 3⟩
abbrev qPIN : Pos := ⟨3, 1⟩
abbrev qSLICE : Pos := ⟨8, 6⟩
abbrev qPORT : Pos := ⟨16, 4⟩
abbrev qCLOG2 : Pos := ⟨24, 5⟩
abbrev qCREDITS : Pos := ⟨32, 16⟩
abbrev qWIDX : Pos := ⟨0, 16⟩
abbrev qPH : Pos := ⟨16, 1⟩
abbrev qINFL : Pos := ⟨32, 16⟩
abbrev qOVR : Pos := ⟨48, 1⟩
abbrev qsFREE : Nat := 0
abbrev qsACTIVE : Nat := 1
abbrev qsDRAINING : Nat := 2
abbrev qsERROR : Nat := 3
abbrev qsQUAR : Nat := 4

/-- Byte address of a spilled context (R398). -/
abbrev spillAddr (q : Nat) : Nat := 0x0C000000 + 32 * q
/-- The on-die context of a queue. -/
def State.ctxDie (s : State) (q : Nat) : Option QCtx := s.tp.ctxs.find? (fun c => c.qid = q)
/-- A context as it stands in the spill area. -/
def State.ctxSpilled (s : State) (q : Nat) : QCtx :=
  let w (i : Nat) : Word := BitVec.ofNat 64 (bytesNat (s.st.read (spillAddr q + 8 * i) 8))
  { qid := q, w0 := w 0, w1 := w 1, w2 := w 2 }
/-- The context of a queue wherever it is kept. -/
def State.ctx (s : State) (q : Nat) : QCtx := (s.ctxDie q).getD (s.ctxSpilled q)
/-- May an on-die context be evicted (R71)? -/
def QCtx.evictable (c : QCtx) : Bool := decide (fget c.w2 qINFL = 0) && decide (fget c.w0 qPIN = 0)
/-- Number of contexts the on-die cache holds. -/
abbrev ctxSlots : Nat := 65536
/-- Has the cache a slot free, or one that eviction can free (R71, R73)? -/
def State.ctxRoom (s : State) : Bool := decide (s.tp.ctxs.length < ctxSlots) || s.tp.ctxs.any QCtx.evictable
/-- Write a context to the spill area with its check word (R71). -/
def State.spill (s : State) (c : QCtx) : State :=
  let d := (natBytes 8 c.w0.toNat ++ natBytes 8 c.w1.toNat ++ natBytes 8 c.w2.toNat ++ zeros 8)
  { s with st := s.st.writeSys (spillAddr c.qid) d }
/-- Put a context on die as most recently used, evicting the least recently used evictable one if full (R71); where none can
be, it is written to the spill area. -/
def State.putCtx (s : State) (c : QCtx) : State :=
  let rest := s.tp.ctxs.filter (fun x => x.qid ≠ c.qid)
  if rest.length < ctxSlots then { s with tp := { s.tp with ctxs := c :: rest } }
  else match rest.reverse.find? QCtx.evictable with
    | none => s.spill c
    | some v => State.spill { s with tp := { s.tp with ctxs := c :: rest.filter (fun x => x.qid ≠ v.qid) } } v
/-- STATE of a queue. -/
def State.qstate (s : State) (q : Nat) : Nat := fget (s.ctx q).w0 qSTATE
/-- Change a context's words. -/
def State.updCtx (s : State) (q : Nat) (f : QCtx → QCtx) : State := s.putCtx (f (s.ctx q))
/-- Move a queue to a state. -/
def State.setQState (s : State) (q st : Nat) : State := s.updCtx q (fun c => { c with w0 := fset c.w0 qSTATE st })
/-- Every queue context there is: those on die, and those whose spill entry has a byte listed. -/
def State.allCtx (s : State) : List QCtx :=
  let lo := spillAddr 0
  let qs := (s.st.bytes.filterMap (fun b => if lo ≤ b.1 ∧ b.1 < lo + 32 * 1048576 then some ((b.1 - lo) / 32) else none)).dedup
  s.tp.ctxs ++ (qs.filter (fun q => (s.ctxDie q).isNone)).map s.ctxSpilled

/-! ### Regions (R99) -/

/-- A region entry. -/
structure Region where
  v : Bool
  rd : Bool
  wr : Bool
  at' : Bool
  slice : Nat
  port : Nat
  key : Nat
  npg : Nat
  base : Nat
  deriving DecidableEq, Repr

/-- Byte address of a region entry (R398). -/
abbrev regionAddr (r : Nat) : Nat := 0x0E000000 + 16 * r
/-- Decode a region entry (R99). -/
def Region.ofWords (a b : Nat) : Region :=
  { v := nbit a 0, rd := nbit a 1, wr := nbit a 2, at' := nbit a 3, slice := nfld a 8 6, port := nfld a 16 4,
    key := nfld a 24 16, npg := nfld a 40 24, base := (b / 4096) * 4096 }
/-- The region entry r; V reads 0 until SYSRDY is set (R413). -/
def State.region (s : State) (r : Nat) : Region :=
  let e := Region.ofWords (bytesNat (s.st.read (regionAddr r) 8)) (bytesNat (s.st.read (regionAddr r + 8) 8))
  { e with v := e.v && decide (s.fld .dsStat dsStat_SYSRDY = 1) }

/-- The rights an access needs: 0 read, 1 write, 2 atomic. -/
def Region.allows (e : Region) (right : Nat) : Bool := if right = 0 then e.rd else if right = 1 then e.wr else e.at'

/-- The checks of R102 on `[off, off + n)` of region `r`, in their order; the failing status. Checks 4 and R104, R400:
port 14, and the system areas, may be named only by queue 0 of the same node. -/
def State.regionCheck (s : State) (r slice key port right off n : Nat) (own0 : Bool) : Option Nat :=
  let e := s.region r
  let sys := decide (e.port = 12 ∧ e.base < 0x20000000)
  if !e.v then some stREGION
  else if e.slice ≠ slice then some stREGION
  else if e.key ≠ key then some stKEY
  else if e.port ≠ port ∨ ((e.port = 14 ∨ sys) ∧ !own0) then some stREGION
  else if !e.allows right then some stREGION
  else if e.npg * 4096 < off + n then some stREGION
  else none

/-- The checks of R103 on a local region: no key. -/
def State.localCheck (s : State) (r slice port right off n : Nat) : Bool :=
  let e := s.region r
  let sys := decide (e.port = 12 ∧ e.base < 0x20000000)
  e.v && decide (e.slice = slice) && decide (e.port = port) && e.allows right && decide (off + n ≤ e.npg * 4096)
    && !(sys && decide (port ≠ 14))

/-! ### Routing tables (R346) -/

/-- Node entry j of epoch e. -/
def State.nodeEntry (s : State) (e j : Nat) : Nat := (s.reg (.rtab e j)).toNat
/-- Slice header. -/
def State.sliceHdr (s : State) (e sl : Nat) : Nat := (s.reg (.rtab e (0x2000 + sl))).toNat
/-- Flow-hash seed. -/
def State.seed (s : State) (e : Nat) : Nat := nfld (s.reg (.rtab e 0x2040)).toNat 0 16
/-- Port mask of node j for a slice. -/
def State.portMask (s : State) (e sl j : Nat) : Nat :=
  nfld (s.reg (.rtab e (0x8000 + 0x400 * sl + j / 4))).toNat (16 * (j % 4)) 16
/-- The injection epoch (R360). -/
def State.active (s : State) : Nat := s.fld .routeCtl routeCtl_ACTIVE
/-- Is an epoch live ("Table changes")? -/
def State.live (s : State) (e : Nat) : Bool :=
  decide (e = s.active) || decide (s.fld .routeCtl routeCtl_LOADED = 1) || decide (s.fld .routeCtl routeCtl_OLDLIVE = 1)
/-- Slice permission (R346, R357 check 3) of endpoint `d` in epoch `e`. -/
def State.permits (s : State) (e sl d : Nat) : Bool :=
  nbit (s.sliceHdr e sl) 0 && nbit (s.portMask e sl (epNode d)) (epPort d)
/-- Does the node lie within DX_NODE's size fields (R357 check 2)? -/
def State.inTorus (s : State) (j : Nat) : Bool :=
  decide (nfld j 8 4 ≤ s.fld .node node_NXM1 ∧ nfld j 4 4 ≤ s.fld .node node_NYM1 ∧ nfld j 0 4 ≤ s.fld .node node_NZM1)
/-- Is a slice ACTIVE (R533)? -/
def State.sliceActive (s : State) (sl : Nat) : Bool := decide (s.fld (.slice sl) slice_STATE = 1)
/-- Is a slice confidential, or quarantined (R521, R522)? -/
def State.conf (s : State) (sl : Nat) : Bool := decide (s.fld (.slice sl) slice_CONF = 1)
def State.quar (s : State) (sl : Nat) : Bool := decide (s.fld (.slice sl) slice_QUAR = 1)

/-! ### Building packets -/

/-- ECN at injection: 0b01 in REQ and BLK, 0b00 otherwise (R240). -/
def ecn0 (cls : Nat) : BitVec 2 := if cls = clREQ ∨ cls = clBLK then 1 else 0

/-- A packet header as its builder makes it (R240, R360). -/
def State.hdr (s : State) (src dst slice cls gen opc tag len flags : Nat) : Hdr :=
  { dst := BitVec.ofNat 16 dst, src := BitVec.ofNat 16 src, slice := BitVec.ofNat 6 slice, cls := BitVec.ofNat 3 cls,
    dl := 0, gen := BitVec.ofNat 4 gen, ep := BitVec.ofNat 1 s.active, col := 0, ecn := ecn0 cls,
    opc := BitVec.ofNat 8 opc, tag := BitVec.ofNat 16 tag, len := BitVec.ofNat 6 len, hop := 0,
    flags := BitVec.ofNat 10 flags }

/-- A cell (R247): LEN the payload bytes used. -/
def mkCell (h : Hdr) (pay : List Byte) : Pkt :=
  { h := { h with len := BitVec.ofNat 6 (min 48 pay.length) }, ext := 0, pay := padTo 48 pay, e2e := 0 }

/-- A frame (R252) with its end-to-end CRC. -/
def mkFrame (h : Hdr) (ext : Nat) (pay : List Byte) : Pkt :=
  let p : Pkt := { h := { h with len := 0x3F }, ext := BitVec.ofNat 160 ext, pay, e2e := 0 }
  { p with e2e := p.e2eOf }

/-! ### Policing (R332, R333) -/

/-- A policer's bucket now, in quarter bytes. -/
def State.bucket (s : State) (place sl : Nat) : Bkt :=
  let r := s.reg (.police sl)
  let capC := 4096 * fget r police_CBS
  let capP := 4096 * fget r police_PBS
  match s.sw.bkts.find? (fun b => decide (b.place = place ∧ b.slice = sl)) with
  | none => { place, slice := sl, tc := capC, tp := capP, at' := s.fnow }
  | some b =>
    let dt := s.fnow - b.at'
    { b with tc := min capC (b.tc + dt * fget r police_CIR), tp := min capP (b.tp + dt * fget r police_PIR), at' := s.fnow }
/-- Police a frame of `n` bytes of colour `c`: the new colour, and the policers after it (R333). -/
def State.police (s : State) (place sl n c : Nat) : Nat × List Bkt :=
  let b := s.bucket place sl
  let put (y : Bkt) : List Bkt := s.sw.bkts.filter (fun z => !decide (z.place = place ∧ z.slice = sl)) ++ [y]
  if c = 2 ∨ b.tp < 4 * n then (2, put b)
  else if c = 1 ∨ b.tc < 4 * n then (1, put { b with tp := b.tp - 4 * n })
  else (0, put { b with tp := b.tp - 4 * n, tc := b.tc - 4 * n })
/-- Colour of a packet. -/
def Pkt.colour (p : Pkt) : Nat := p.h.col.toNat
/-- The packet with another colour. -/
def Pkt.coloured (p : Pkt) (c : Nat) : Pkt := { p with h := { p.h with col := BitVec.ofNat 2 c } }
/-- Colour a frame as it is built (R332, R333): blind, by its slice's policer in the building partition. -/
def State.colourBuilt (s : State) (n : Nat) (p : Pkt) : Pkt × List Bkt :=
  if p.cls = clBLK ∧ s.fld (.police p.h.slice.toNat) police_EN = 1 then
    let r := s.police n p.h.slice.toNat p.size 0
    (p.coloured r.1, r.2)
  else (p, s.sw.bkts)

/-- Hand a built packet to injection in partition n; `fixed` names its output where an entry or an edge request does. -/
def State.inject (s : State) (n : Nat) (p : Pkt) (fixed : Option (Nat × Nat)) (shaped : Bool := false)
    (gdel : Option GDel := none) (ereq : Option (Nat × Nat) := none) : State :=
  let c := s.colourBuilt n p
  { s with sw := { s.sw with
    bkts := c.2
    inj := s.sw.inj ++ [{ part := n, pkt := c.1, fixed, arr := s.ageNow, shaped, gdel, ereq }] } }

/-- The payload of ACK, COPY_RPT and FAIL cells (R251). -/
def ackPay (status marks qid seq fidx genr result bitmap : Nat) : List Byte :=
  natBytes 1 status ++ natBytes 1 (min marks 255) ++ zeros 2 ++ natBytes 4 (qid % 2 ^ 20) ++ natBytes 2 seq
    ++ natBytes 1 fidx ++ natBytes 1 (genr % 16) ++ zeros 4 ++ natBytes 8 result ++ natBytes 16 bitmap ++ zeros 8

/-- The fields of an ACK, COPY_RPT or FAIL payload (R251). -/
structure Ack where
  status : Nat
  marks  : Nat
  qid    : Nat
  seq    : Nat
  fidx   : Nat
  genr   : Nat
  result : Nat
  bitmap : Nat
  deriving DecidableEq, Repr

/-- Read an ACK payload. -/
def Ack.ofPkt (p : Pkt) : Ack :=
  let b (o n : Nat) : Nat := bytesNat (slice p.pay o n)
  { status := b 0 1, marks := b 1 1, qid := b 4 4 % 2 ^ 20, seq := b 8 2, fidx := b 10 1, genr := b 11 1 % 16,
    result := b 16 8, bitmap := b 24 16 }

/-- Transaction number of a tag (R244). -/
abbrev xidOf (p : Pkt) : Nat := p.h.tag.toNat / 8
abbrev cidxOf (p : Pkt) : Nat := p.h.tag.toNat % 8

/-- Does a counter of partition `n` count what belongs to slice `sl` (R396)? -/
def State.telCounts (s : State) (n sl : Nat) : Bool :=
  decide (s.fld (.telFilt n) telFilt_EN = 0 ∨ s.fld (.telFilt n) telFilt_SLICE = sl)
/-- Count a packet of slice `sl` in a counter of partition `n`. -/
def State.countSl (s : State) (n sl : Nat) (r : Reg) (p : Pos) : State := if s.telCounts n sl then s.count r p 1 else s

/-- A FAIL cell for a packet that a switch discards, where R579 provides one: MC = 0 and class REQ or BLK. QID and SEQ come
from its descriptor; DESIGN CHOICE (log entry 106): they are zero where it carries none, a later cell of a PUT or PUT_INLINE,
and its source knows the command by the TAG. A FAIL for a merged cell carries MRG (R141, log entry 12). -/
def State.failWith (s : State) (n : Nat) (p : Pkt) (status result : Nat) : State :=
  if p.flag fMC ∨ ¬ (p.cls = clREQ ∨ p.cls = clBLK) then s
  else
    let d := Desc.ofNat (if p.hasDesc then p.desc else 0)
    let h := s.hdr (s.ep 14) p.h.src.toNat p.h.slice.toNat clRSP p.h.gen.toNat opFAIL p.h.tag.toNat 0
      (if p.flag fMRG then 2 ^ fMRG else 0)
    s.inject n (mkCell h (ackPay status 0 d.qid d.seq (if p.isFrame then d.fidx else 0) 0 result 0)) none
/-- A FAIL cell with this switch's management endpoint in RESULT (R251). -/
def State.failCell (s : State) (n : Nat) (p : Pkt) (status : Nat) : State := s.failWith n p status (s.ep 14)

/-! ### Snooping CRC channels (R419) -/

/-- Payload bytes of a packet: descriptors and extensions are left out. -/
def Pkt.data (p : Pkt) : List Byte :=
  if p.isFrame then p.pay
  else
    let d := p.pay.take p.h.len.toNat
    let desc : Bool := decide (p.opc ∈ [opGET, opCOPY, opATOMIC, opSYNCADD, opSYNCSET, opSYNCWAIT, opPROBE])
      || (decide (p.opc ∈ [opPUT, opPUTI]) && p.hasDesc)
    if desc then d.drop 20 else d

/-- Snoop channels watching a stream take the payload of a packet. -/
def State.snoop (s : State) (st idx : Nat) (p : Pkt) : State :=
  (List.range 24).foldl (fun s k =>
    let r := s.reg (.crcCh k)
    if fget r crcCh_EN = 1 ∧ fget r crcCh_MODE = 0 ∧ fget r crcCh_STYPE = st ∧ fget r crcCh_SIDX = idx
        ∧ (fget r crcCh_SLEN = 0 ∨ fget r crcCh_SLICE = p.h.slice.toNat) then
      let poly := fget r crcCh_POLY
      let c0 := (s.crcRun.find? (fun x => x.1 = k)).elim (polyInit poly) (·.2)
      let c := Sys2Proof.Machine.crcRun poly c0 p.data
      let s1 := { s with crcRun := sinsert k c (serase s.crcRun k) }
      s1.setReg (.crcVal k) (BitVec.ofNat 64 (c ^^^ polyXor poly))
    else s) s

/-! ### Seeds of due times -/

/-- Has `d` passed since `t`? -/
abbrev State.due (s : State) (t d : Nat) : Bool := decide (t + d ≤ s.now)

/-! ### Gallery descriptors (R181) -/

/-- A gallery descriptor. -/
structure GDef where
  v : Bool
  root : Bool
  spread : Bool
  wide : Bool
  slice : Nat
  part : Nat
  fmt : Nat
  op : Nat
  rnd : Nat
  ovf : Bool
  nent : Nat
  entry : Nat
  up : Nat
  down : Nat
  contrib : Nat
  acct : Nat
  bw : Nat
  csz : Nat
  sto : Nat
  sgen0 : Nat
  dsbase : Nat
  deriving DecidableEq, Repr

/-- Read the four words of a descriptor (R181). -/
def GDef.ofWords (a b c d : Nat) : GDef :=
  { v := nbit a 0, root := nbit a 1, spread := nbit a 2, wide := nbit a 3, slice := nfld a 8 6, part := nfld a 16 3,
    fmt := nfld a 20 4, op := nfld a 24 4, rnd := nfld a 28 2, ovf := nbit a 30, nent := nfld a 32 15,
    entry := nfld a 48 14, up := nfld b 0 5, down := nfld b 8 18, contrib := nfld b 32 12, acct := nfld b 48 15,
    bw := nfld c 0 9, csz := nfld c 16 3, sto := nfld c 32 24, sgen0 := nfld c 56 8, dsbase := d / 4096 * 4096 }

/-- The descriptor of gallery `g`. -/
def State.gdef (s : State) (g : Nat) : GDef :=
  let w (i : Nat) : Nat := (s.reg (.galDesc g i)).toNat
  GDef.ofWords (w 0) (w 1) (w 2) (w 3)
/-- Partitions that hold the sequencer or accumulators. -/
def GDef.partsOf (d : GDef) : List Nat := if d.spread then List.range 6 else [d.part]

end Sys2Proof.Machine
end

