-- ==== Sys2Proof/Machine/Rate.lean ====
section
/-! DEFINITION. The source rate law: the rate table and its buckets (spec/11_congestion.md R384 to R386, R392, R396). -/

namespace Sys2Proof.Machine

/-- Rate entries the table holds (R384, R392). -/
abbrev rateSlots : Nat := 8192
/-- A full bucket, in 1/1,024 byte (R386). -/
abbrev bucketFull : Nat := 16384 * 1024

/-- Native mode (R384, R394). -/
def State.native (s : State) : Bool := decide (s.fld .ccCfg ccCfg_MODE = 0)
/-- Throttle mode (R393). -/
def State.throttle (s : State) : Bool := decide (s.fld .ccCfg ccCfg_MODE = 1)
/-- The rate entry of a slice and destination. -/
def State.rateOf (s : State) (slice dst : Nat) : Option Rate :=
  s.tp.rate.find? (fun e => decide (e.slice = slice ∧ e.dst = dst))
/-- Does DX_CC_STAT count what belongs to this slice (R396)? -/
def State.ccCounts (s : State) (slice : Nat) : Bool :=
  decide (s.fld .ccFilt telFilt_EN = 0) || decide (s.fld .ccFilt telFilt_SLICE = slice)
/-- ENTRIES and HWM follow the table (R396). -/
def State.ccRefresh (s : State) : State :=
  let n := (s.tp.rate.filter (fun e => s.ccCounts e.slice)).length
  (s.setFld .ccStat ccStat_ENTRIES n).high .ccStat ccStat_HWM n
/-- Replace the rate table. -/
def State.setRates (s : State) (l : List Rate) : State := State.ccRefresh { s with tp := { s.tp with rate := l } }
/-- Change one entry. -/
def State.updRate (s : State) (slice dst : Nat) (f : Rate → Rate) : State :=
  s.setRates (updFirst (fun e => decide (e.slice = slice ∧ e.dst = dst)) f s.tp.rate)

/-! Constants of DX_CC_CFG in the units of the table: 1/256 GB/s and 0.25 ns. -/
def State.ccRMAX (s : State) : Nat := 256 * s.fld .ccCfg ccCfg_RMAX
def State.ccRMIN (s : State) : Nat := 256 * s.fld .ccCfg ccCfg_RMIN
def State.ccAI (s : State) : Nat := 256 * s.fld .ccCfg ccCfg_AI
def State.ccTD (s : State) : Nat := 400 * s.fld .ccCfg ccCfg_TD
def State.ccTI (s : State) : Nat := 400 * s.fld .ccCfg ccCfg_TI

/-- R clamped to the bounds in force (R388). -/
def State.clampR (s : State) (r : Nat) : Nat := max s.ccRMIN (min s.ccRMAX r)

/-- What an entry's bucket holds now: it fills at R, up to 16 KiB (R386); 1 GB/s is a quarter byte per 0.25 ns. -/
def Rate.level (e : Rate) (ft : Nat) : Nat := min bucketFull (e.bucket + e.r * (ft - e.fillAt))

/-- The decrease of R384 on one entry. -/
def Rate.marked (e : Rate) (ft td mds : Nat) (clamp : Nat → Nat) (rmin : Nat) : Rate :=
  let fall : Bool := match e.dec with
    | none => true
    | some t => decide (t + td ≤ ft)
  let e1 := { e with bucket := e.level ft, fillAt := ft, chg := ft }
  if fall then { e1 with r := max rmin (clamp e.r - clamp e.r / 2 ^ mds), dec := some ft } else e1

/-- Note an entry before its increase. -/
def State.noteRise (s : State) (e : Rate) : State :=
  { s with tp := { s.tp with rises := s.tp.rises.filter (fun x => x.1 = s.fnow) ++ [(s.fnow, e)] } }
/-- Undo an increase of this moment: the entry has its rate again, and one that it freed is back (R385). -/
def State.undoRise (s : State) (slice dst : Nat) : State :=
  let mine (x : Nat × Rate) : Bool := decide (x.1 = s.fnow ∧ x.2.slice = slice ∧ x.2.dst = dst)
  match s.tp.rises.find? mine with
  | none => s
  | some x =>
    let s1 : State := { s with tp := { s.tp with rises := s.tp.rises.filter (fun y => !mine y) } }
    if (s.rateOf slice dst).isSome then s1.updRate slice dst (fun e => { e with r := x.2.r, chg := x.2.chg })
    else if rateSlots ≤ s.tp.rate.length then s1 else s1.setRates (s1.tp.rate ++ [x.2])

/-- An ACK with MARKS ≥ 1 for a slice and destination (R384, R385, R392). The level a new bucket starts from is free: the manual does
not state it (log entry 3). -/
def State.rateMarked (s0 : State) (slice dst marks : Nat) : State :=
  if marks = 0 ∨ !s0.native then s0
  else
    let s := s0.undoRise slice dst
    let ft := s.fnow
    let law (s : State) (e : Rate) : State :=
      let e1 := e.marked ft s.ccTD (s.fld .ccCfg ccCfg_MDS) s.clampR s.ccRMIN
      let s1 := if e1.dec = some ft ∧ e.dec ≠ some ft ∧ s.ccCounts slice then s.count .ccStat ccStat_DECS 1 else s
      s1.updRate slice dst (fun _ => e1)
    match s.rateOf slice dst with
    | some e => law s e
    | none =>
      if rateSlots ≤ s.tp.rate.length then if s.ccCounts slice then s.count .ccStat ccStat_FULL 1 else s
      else
        let d := s.draw
        let e : Rate := { slice, dst, r := s.ccRMAX, dec := none, chg := ft, bucket := d.1 % (bucketFull + 1), fillAt := ft }
        law (d.2.setRates (s.tp.rate ++ [e])) e

/-- Hand a REQ or BLK packet of the transport to injection; a rate entry holds it (R386). -/
def State.send (s : State) (n : Nat) (p : Pkt) : State :=
  s.inject n p none (s.native && (s.rateOf p.h.slice.toNat p.h.dst.toNat).isSome)

end Sys2Proof.Machine
end

