-- ==== Sys2Proof/Machine/Moves.lean ====
section
/-! DEFINITION. Data moves: edge requests, memory-port requests, management-memory accesses, and the moves made of them
(spec/01_boundary.md R29 to R34, spec/03_remote_operations.md R127 to R130, spec/12_deep_store.md R403 to R411). -/

namespace Sys2Proof.Machine

/-- A byte range cut at 4 KiB boundaries (R29, R127): offset, address and length of each piece. -/
def pieces (addr len : Nat) : List (Nat × Nat × Nat) :=
  if len = 0 then []
  else
    let p0 := addr / 4096
    (List.range ((addr + len - 1) / 4096 - p0 + 1)).map (fun i =>
      let a := if i = 0 then addr else 4096 * (p0 + i)
      let b := min (addr + len) (4096 * (p0 + i + 1))
      (a - addr, a, b - a))

/-- The earlier of two failures in the order of the data: status and offset. -/
def firstFail (a b : Option (Nat × Nat)) : Option (Nat × Nat) :=
  match a, b with
  | some x, some y => if y.2 < x.2 then some y else some x
  | some x, none => some x
  | none, y => y

/-- One piece of a move is done: its data (a read) or its failure is taken in. -/
def Job.step (off : Nat) (data : List Byte) (fail : Option Nat) (j : Job) : Job :=
  { j with
    left := j.left - 1
    buf := if data.isEmpty then j.buf else splice j.buf off data
    fail := firstFail j.fail (fail.map (fun st => (st, off))) }

/-- Change a move. -/
def State.updJob (s : State) (id : Nat) (f : Job → Job) : State :=
  { s with mv := { s.mv with jobs := updFirst (fun j => j.id = id) f s.mv.jobs } }
/-- Open a move of `left` pieces. -/
def State.newJob (s : State) (part left : Nat) (cont : Cont) : Nat × State :=
  let f := s.fresh
  (f.1, { f.2 with mv := { f.2.mv with jobs := f.2.mv.jobs ++ [{ id := f.1, part, left, buf := [], fail := none, cont }] } })
/-- A piece of move `id` is done. -/
def State.pieceDone (s : State) (id off : Nat) (data : List Byte) (fail : Option Nat) : State :=
  s.updJob id (Job.step off data fail)
/-- Is an edge request the one with an ETAG on a port? -/
def EReq.tagged (c e : Nat) (r : EReq) : Bool := decide (r.port = c ∧ r.etag = some e)
/-- An edge request is over: its ETAG rests (R130), and its part of the move is done. -/
def State.ereqEnd (s : State) (r : EReq) (e : Nat) (data : List Byte) (fail : Option Nat) : State :=
  let m := { s.mv with
    ereq := dropFirst (EReq.tagged r.port e) s.mv.ereq
    cool := s.mv.cool ++ [(r.port, e, s.now)] }
  ({ s with mv := m } : State).pieceDone r.job r.off data fail
/-- The cell of a tagged edge request is lost to a tile check: the request ends with CHECK_FAIL (R326). -/
def State.ereqLost (s : State) (k : Nat × Nat) : State :=
  match s.mv.ereq.find? (EReq.tagged k.1 k.2) with
  | some r => s.ereqEnd r k.2 [] (some stCHECK)
  | none => s
/-- A move with nothing to wait for: done at the next settling, failed where `fail` says so. -/
def State.doneJob (s : State) (part : Nat) (cont : Cont) (buf : List Byte) (fail : Option (Nat × Nat)) : State :=
  let j := s.newJob part 0 cont
  j.2.updJob j.1 (fun x => { x with buf, fail })

/-- Queue an edge request (R127, R128): it waits for an ETAG. `flags`: those of the command whose data it carries (R242). -/
def State.addEdge (s : State) (port : Nat) (kind : EKind) (addr len : Nat) (data : List Byte) (sub job off slice : Nat)
    (flags : Nat := 0) : State :=
  { s with mv := { s.mv with ereq := s.mv.ereq ++
      [{ port, etag := none, gen := s.gen (portPart port), kind, addr, len, data, sub, job, off, slice, sent := none,
         flags := flags % 128, lost := false }] } }

/-- Queue a memory-port request (R29). -/
def State.addMem (s : State) (part : Option Nat) (tile : Nat) (kind : MKind) (lo len : Nat) (data : List Byte)
    (job off : Nat) : State :=
  let f := s.fresh
  { f.2 with st := { f.2.st with reqs := f.2.st.reqs ++
      [{ id := f.1, part, tile, kind, lo, len, data, at' := s.now, job, off, thru := false }] } }
/-- Queue the write-through of bytes the store cache has applied to a line (R411), ahead of every request that waits: those of
its tile arrived after the access it belongs to, or are write-throughs that the caller has it follow (`after`) (R143). -/
def State.addThru (s : State) (tile lo : Nat) (data : List Byte) (after : Bool) : State :=
  let f := s.fresh
  let r : MReq := { id := f.1, part := none, tile, kind := .write, lo, len := data.length, data, at' := s.now, job := 0, off := 0, thru := true }
  { f.2 with st := { f.2.st with reqs := if after then f.2.st.reqs ++ [r] else r :: f.2.st.reqs } }

/-- Start a management-memory-port access (R34). -/
def State.addMg (s : State) (wr : Bool) (addr len : Nat) (data : List Byte) (job off : Nat)
    (op : Option (Nat × Nat × Nat)) : State :=
  let f := s.fresh
  { f.2 with mv := { f.2.mv with mgreq := f.2.mv.mgreq ++
      [{ id := f.1, wr, op, old := [], addr, len, data, at' := s.now, job, off }] } }

/-! ### Deep store -/

/-- How an access uses the store cache (R410). -/
inductive DsMode where
  /-- Cell-carried: through the cache, filling on a miss. -/
  | cell
  /-- Frame-carried without ACQUIRE: the cache on a hit, the ports on a miss. -/
  | frame
  /-- With ACQUIRE: lines invalidated, the ports (R153). -/
  | acquire
  /-- The block's own channels, no cache. -/
  | direct
  deriving DecidableEq, Repr

/-- Is the memory port of a tile fenced (R408)? -/
def State.tileFenced (s : State) (t : Nat) : Bool := nbit (s.fld .dsStat dsStat_PFENCE) (t % 16)
/-- The channels a request travels in (R575). -/
def chanOf (m : DsMode) (part : Nat) : Option Nat := if m = .direct then none else some part
/-- Count a store-cache hit or miss. -/
def State.scCount (s : State) (hit : Bool) : State :=
  s.count .scStat (if hit then scStat_HITS else scStat_MISSES) 1

/-- Is a request one that changes its tile: a write, the read of a merge, a fill for a write or an ATOMIC (R405, R410)? -/
def MReq.alters (r : MReq) : Bool := decide (r.kind ∈ [.write, .merge, .fillw, .atom])
/-- Is a request's turn not come: does an earlier one that changes its tile stand (R110, R143, R406)? -/
def MReq.behind (l : List MReq) (r : MReq) : Bool :=
  (l.takeWhile (fun x => x.id ≠ r.id)).any (fun x => decide (x.tile = r.tile) && x.alters)
/-- The requests that stay where others end: one whose turn has come by that goes to its port now (R31, R406). -/
def turnsFrom (now : Nat) (old stay : List MReq) : List MReq :=
  stay.map (fun r => if r.behind old && !r.behind stay then { r with at' := now } else r)
/-- Does an access that changes the tile wait at its memory port, one that the tile's line does not show? Later accesses to the
tile then take their place behind it (R110, R143, R145). -/
def State.tileBusy (s : State) (t : Nat) : Bool := s.st.reqs.any (fun r => decide (r.tile = t) && r.alters && !r.thru)

/-- Apply bytes to the tile's line and write them through (R411): the line is most recently used. -/
def State.applyLine (s : State) (l : Line) (lo : Nat) (d : List Byte) (after : Bool) : State :=
  let data := splice l.data lo d
  State.addThru { s with st := s.st.fillLine { l with data, chk := crc32c data } } l.tile lo d after

/-- The line of a tile a write or ATOMIC may use: pending invalidations are applied first (R162), and a line that fails its check
word is dropped (R409). -/
def State.freshLine (s : State) (t : Nat) : Option Line × State :=
  match s.st.line t with
  | none => (none, s)
  | some l => if l.inval.isSome ∨ crc32c l.data ≠ l.chk then (none, { s with st := s.st.dropLine t }) else (some l, s)

/-- One tile of a deep-store read (R410). A line is verified each time it is read (R409): one that fails its check word
is dropped and the tile read again. A line behind which a write of the tile waits is not used (`tileBusy`). -/
def State.dsReadTile (s : State) (m : DsMode) (part t lo len job off : Nat) : State :=
  if s.tileFenced t then s.pieceDone job off [] (some stCHECK)
  else
    let hit : Option Line := match s.st.line t with
      | some l => if m ≠ .direct ∧ m ≠ .acquire ∧ !s.tileBusy t ∧ crc32c l.data = l.chk then some l else none
      | none => none
    match hit with
    | some l =>
      let s1 := { (s.scCount true) with st := s.st.fillLine l }
      s1.pieceDone job off (slice l.data lo len) none
    | none =>
      let s1 := if m = .direct then s else { (s.scCount false) with st := s.st.dropLine t }
      s1.addMem (chanOf m part) t (if m = .cell then .fill else .read) lo len [] job off

/-- The line a cell-carried write or an ATOMIC is applied to at once: none where it has to be filled, or where an access of
the tile waits (R110, R162). -/
def State.lineNow (s : State) (t : Nat) : Option Line × State := if s.tileBusy t then (none, s) else s.freshLine t

/-- One tile of a deep-store write (R405, R410). -/
def State.dsWriteTile (s : State) (m : DsMode) (part t lo : Nat) (d : List Byte) (job off : Nat) : State :=
  if s.tileFenced t then s.pieceDone job off [] (some stCHECK)
  else if m = .cell then
    let f := s.lineNow t
    match f.1 with
    | some l => ((f.2.scCount true).applyLine l lo d true).pieceDone job off [] none
    | none => (f.2.scCount false).addMem (some part) t .fillw lo d.length d job off
  else s.addMem (chanOf m part) t (if lo = 0 ∧ d.length = 4096 then .write else .merge) lo d.length d job off

/-- The line's word changed by an ATOMIC (R110): the old bytes come back. -/
def State.lineAtomic (s : State) (l : Line) (lo len sub a c job off : Nat) (after : Bool) : State :=
  let old := slice l.data lo len
  let new := natBytes len (atomicOp (sub % 16) (bytesNat old) a c)
  (s.applyLine l lo new after).pieceDone job off old none

/-! ### Reads and writes in the memory a port names -/

/-- Start a read of `[addr, addr + len)` in the memory of `port` (R97, R127, R142). -/
def State.startRead (s : State) (part port addr len slice : Nat) (m : DsMode) (cont : Cont) : State :=
  if port < 12 ∧ !s.up port then s.doneJob part cont [] (some (stUNREACH, 0))
  else if port = 13 ∨ 14 < port then s.doneJob part cont [] (some (stREGION, 0))
  else
    let ps := pieces addr len
    let j := s.newJob part ps.length cont
    ps.foldl (fun s p =>
      if port < 12 then s.addEdge port .rd p.2.1 p.2.2 [] 0 j.1 p.1 slice
      else if port = 12 then s.dsReadTile m part (p.2.1 / 4096) (p.2.1 % 4096) p.2.2 j.1 p.1
      else s.addMg false p.2.1 p.2.2 [] j.1 p.1 none) j.2

/-- Start a write of `d` at `addr` in the memory of `port`. `flags`: those of the command whose data it is (R242). -/
def State.startWrite (s : State) (part port addr : Nat) (d : List Byte) (slc : Nat) (m : DsMode) (cont : Cont)
    (flags : Nat := 0) : State :=
  if port < 12 ∧ !s.up port then s.doneJob part cont [] (some (stUNREACH, 0))
  else if port = 13 ∨ 14 < port then s.doneJob part cont [] (some (stREGION, 0))
  else
    let ps := pieces addr d.length
    let j := s.newJob part ps.length cont
    ps.foldl (fun s p =>
      let dd := slice d p.1 p.2.2
      if port < 12 then s.addEdge port .wr p.2.1 p.2.2 dd 0 j.1 p.1 slc flags
      else if port = 12 then s.dsWriteTile m part (p.2.1 / 4096) (p.2.1 % 4096) dd j.1 p.1
      else s.addMg true p.2.1 p.2.2 dd j.1 p.1 none) j.2

/-- Start an ATOMIC on the word at `addr` (R110). -/
def State.startAtomic (s : State) (part port addr len sub a c slc flags : Nat) (cont : Cont) : State :=
  if port < 12 ∧ !s.up port then s.doneJob part cont [] (some (stUNREACH, 0))
  else if port = 13 ∨ 14 < port then s.doneJob part cont [] (some (stREGION, 0))
  else
    let j := s.newJob part 1 cont
    let ops := natBytes 8 a ++ natBytes 8 c
    if port < 12 then j.2.addEdge port .at' addr len ops sub j.1 0 slc flags
    else if port = 12 then
      let t := addr / 4096
      if s.tileFenced t then j.2.pieceDone j.1 0 [] (some stCHECK)
      else
        let f := j.2.lineNow t
        match f.1 with
        | some l => (f.2.scCount true).lineAtomic l (addr % 4096) len sub a c j.1 0 true
        | none => (f.2.scCount false).addMem (some part) t .atom (addr % 4096) len (ops ++ [BitVec.ofNat 8 sub]) j.1 0
    else j.2.addMg false addr len [] j.1 0 (some (sub, a, c))

/-! ### ETAGs (R128 to R130) -/

/-- The ETAGs of a port that may not be used: outstanding, or within 8 µs of their last use. -/
def State.etagBusy (s : State) (port e : Nat) : Bool :=
  s.mv.ereq.any (fun r => decide (r.port = port ∧ r.etag = some e))
    || s.mv.cool.any (fun c => decide (c.1 = port ∧ c.2.1 = e))

/-- The packet of an edge request (R242, R253, R259): EDGE_RD and EDGE_AT cells, EDGE_WR frames. -/
def State.edgePkt (s : State) (r : EReq) (e : Nat) : Pkt :=
  let h (opc : Nat) : Hdr := s.hdr (s.ep 14) (s.ep r.port) r.slice clREQ r.gen opc e 0 r.flags
  match r.kind with
  | .rd => mkCell (h opEDGERD) (natBytes 8 r.addr ++ natBytes 2 r.len)
  | .wr => mkFrame (h opEDGEWR) (r.addr % 2 ^ 64 + r.len <<< 64) r.data
  | .at' => mkCell (h opEDGEAT) (natBytes 8 r.addr ++ natBytes 1 r.sub ++ zeros 7 ++ r.data)

/-- Give the first waiting request of a port its ETAG and hand its packet to the port's output. A request to a port that
is not in UP leaves nothing: its 4 µs run from now (R134). -/
def State.assignOne (s : State) (port : Nat) : State :=
  match s.mv.ereq.find? (fun r => decide (r.port = port ∧ r.etag = none)) with
  | none => s
  | some r =>
    match (List.range 256).find? (fun e => !s.etagBusy port e) with
    | none => s
    | some e =>
      let set (x : EReq) : EReq := { x with etag := some e, sent := if s.up port then none else some s.now }
      let s1 := { s with mv := { s.mv with
        ereq := updFirst (fun x => decide (x.port = port ∧ x.etag = none)) set s.mv.ereq } }
      if s.up port then
        s1.inject (portPart port) (s.edgePkt r e) (some (portPart port, 1 + port % 2)) false none (some (port, e))
      else s1

/-- Serve the waiting requests of every port. -/
def State.assignAll (s : State) : State :=
  s.mv.ereq.foldl (fun s r => if r.etag.isNone then s.assignOne r.port else s) s

end Sys2Proof.Machine
end

