-- ==== Sys2Proof/Machine/Complete.lean ====
section
/-! DEFINITION. Accepted commands and their completion records (spec/02_command_queues.md R71 to R92, R580; R145 to R153
of spec/04_memory_model.md as far as they tie commands of a queue together). -/

namespace Sys2Proof.Machine

/-- The partition the commands of a queue belong to (R92, R575). -/
def State.qPart (s : State) (qid port : Nat) : Nat := if qid = 0 then s.servePart 0 else portPart port
/-- The partition of an accepted command. -/
def State.tPart (s : State) (t : Txn) : Nat := s.qPart t.qid t.port
/-- An accepted command. -/
def State.findTxn (s : State) (id : Nat) : Option Txn := s.tp.txns.find? (fun t => t.id = id)
/-- Change an accepted command. -/
def State.updTxn (s : State) (id : Nat) (f : Txn → Txn) : State :=
  { s with tp := { s.tp with txns := updFirst (fun t => t.id = id) f s.tp.txns } }
/-! ### Records -/

/-- Issue a write of a record to its slot (R88): the first, or the repeated one (R91). -/
def State.issueRec (s : State) (r : Rec) : State :=
  let w0 := r.w0 ||| BitVec.ofNat 64 (r.ph.toNat <<< 31)
  let d := natBytes 8 w0.toNat ++ natBytes 8 r.w1.toNat
  let part := s.qPart r.qid r.port
  let j := s.newJob part 1 (.record r)
  if r.qid = 0 then j.2.addMg true (r.base + 16 * r.slot) 16 d j.1 0 none
  else j.2.addEdge r.port .wr (r.base + 16 * r.slot) 16 d 0 j.1 0 (fget (s.ctx r.qid).w0 qSLICE)

/-- Write a record into the next slot of its ring, and advance the slot and the phase (R87, R580). -/
def State.writeRec (s : State) (qid port : Nat) (w0 w1 : Word) (infl : Bool) : State :=
  let mk (slot : Nat) (ph : Bool) (base : Nat) : Rec := { qid, port, w0, w1, infl, tries := 1, slot, ph, base }
  if qid = 0 then
    let slot := s.fld .mqHead mqHead_WIDX
    let ph := s.fld .mqHead mqHead_PH
    let wrap := decide (slot + 1 ≥ 2 ^ s.fld .mqCfg mqCfg_RLOG2)
    let s1 := s.setFld .mqHead mqHead_WIDX (if wrap then 0 else slot + 1)
    let s2 := if wrap then s1.setFld .mqHead mqHead_PH (1 - ph) else s1
    s2.issueRec (mk slot (decide (ph = 1)) (4096 * s.fld .mqRbase mqRbase_BASE))
  else
    let c := s.ctx qid
    let slot := fget c.w2 qWIDX
    let ph := fget c.w2 qPH
    let wrap := decide (slot + 1 ≥ 2 ^ fget c.w0 qCLOG2)
    let adv (x : QCtx) : QCtx :=
      let w := fset x.w2 qWIDX (if wrap then 0 else slot + 1)
      { x with w2 := if wrap then fset w qPH (1 - ph) else w }
    (s.updCtx qid adv).issueRec (mk slot (decide (ph = 1)) (4096 * (c.w1.toNat / 4096)))

/-- A record write of queue `q` is in progress (R76, R91). -/
def State.recOut (s : State) (q : Nat) : Bool :=
  s.mv.jobs.any (fun j => match j.cont with | .record r => decide (r.qid = q) | _ => false)

/-- A record has been answered or abandoned: its command leaves INFL. -/
def State.recEnd (s : State) (r : Rec) : State :=
  if r.infl ∧ r.qid ≠ 0 then s.updCtx r.qid (fun c => { c with w2 := fset c.w2 qINFL (fget c.w2 qINFL - 1) }) else s

/-- A record write has ended (R91): after a first failure it is issued once more; after a second the record is
abandoned, one event counts against its port, and an ACTIVE queue goes to ERROR. -/
def State.recAnswer (s : State) (r : Rec) (ok : Bool) : State :=
  if ok then s.recEnd r
  else if r.tries < 2 then s.issueRec { r with tries := 2 }
  else if r.qid = 0 then s
  else
    let s1 := (s.recEnd r).portEvent r.port 0x1A
    if s1.qstate r.qid = qsACTIVE then s1.setQState r.qid qsERROR else s1

/-! ### Suspect keys (R498) -/

/-- The suspect entry of a key in a partition. -/
def State.suspAt (s : State) (n src qid : Nat) : Option Nat :=
  (List.range 64).find? (fun i => decide (s.fld (.susp n i) susp_V = 1 ∧ s.fld (.susp n i) susp_SRC = src
    ∧ s.fld (.susp n i) susp_QID = qid))
/-- A command of a key has completed without a stall: LEFT falls by one, and at 0 the entry is freed. -/
def State.suspDone (s : State) (n src qid : Nat) : State :=
  match s.suspAt n src qid with
  | none => s
  | some i =>
    let left := s.fld (.susp n i) susp_LEFT
    if left ≤ 1 then
      (s.setReg (.susp n i) 0).setFld (.rcvStat n) rcvStat_SUSP (s.fld (.rcvStat n) rcvStat_SUSP - 1)
    else s.setFld (.susp n i) susp_LEFT (left - 1)
/-- The same in every partition where the key stands. -/
def State.suspDoneAll (s : State) (src qid : Nat) : State :=
  (List.range 6).foldl (fun s n => s.suspDone n src qid) s
/-- Is a remote key quarantined in Pn? -/
def State.quarAt (s : State) (n src qid : Nat) : Bool :=
  (List.range 64).any (fun i => decide (s.fld (.quar n i) quar_V = 1 ∧ s.fld (.quar n i) quar_SRC = src
    ∧ s.fld (.quar n i) quar_QID = qid))
/-- Commands that a working engine holds, as (SRC, QID, SEQ, OPC, TAG) (R485): a copy engine its senders, the atomic unit
its atomics, a core and the sequencer the member commands of the galleries of the partition. -/
def State.heldNow (s : State) (n st idx : Nat) : List (Nat × Nat × Nat × Nat × Nat) :=
  if st = syCPE then
    (s.tp.snds.filter (fun x => decide (x.part = n ∧ s.engineOf n x.id = idx))).map (fun x =>
      (x.iss, x.qid, x.seq, (if x.role = 1 then opCOPY else if x.role = 2 then opGET else opPUT), 8 * x.xid))
  else if st = syATU then
    s.mv.jobs.filterMap (fun j => match j.cont with
      | .atomic p k => if k = n then
          let d := Desc.ofNat p.desc
          some (p.h.src.toNat, d.qid, d.seq, opATOMIC, p.h.tag.toNat) else none
      | _ => none)
  else if st = sySEQ ∨ st = syCORE then
    (s.gals.filter (fun x => n ∈ (s.gdef x.g).partsOf)).flatMap (fun x => x.mem.filterMap (fun m =>
      (s.findTxn m.txn).map (fun t => (t.ep, t.qid, t.seq, t.cmd.opc, t.cmd.tag))))
  else []
/-- Is a key on probation in Pn (R498)? -/
def State.onProbation (s : State) (n src qid : Nat) : Bool := (s.suspAt n src qid).isSome
/-- Do the engines of Pn hold a command of a suspect key? At most one is there at a time (R498). -/
def State.suspHeld (s : State) (n : Nat) : Bool :=
  [(syCPE, 0), (syCPE, 1), (syATU, 0), (sySEQ, 0)].any (fun e =>
    (s.heldNow n e.1 e.2).any (fun k => s.onProbation n k.1 k.2.1))
/-- Is a local key on probation anywhere (R498)? -/
def State.suspect (s : State) (src qid : Nat) : Bool := (List.range 6).any (fun n => (s.suspAt n src qid).isSome)

/-! ### The end of a command -/

/-- The copy engines of some senders end their commands (R474), which for another node's suspect key is the end of a command
without a stall (R498). -/
def State.sndsEnd (s : State) (f : Snd → Bool) : State :=
  (s.tp.snds.filter f).foldl (fun s x =>
    (if x.role = 0 then s else s.suspDone x.part x.iss x.qid).advance x.part syCPE (s.engineOf x.part x.id)) s
/-- Drop the sender that belongs to a command (R117). -/
def State.dropSnd (s0 : State) (id : Nat) : State :=
  let s := s0.sndsEnd (fun x => decide (x.id = id))
  { s with tp := { s.tp with snds := s.tp.snds.filter (fun x => x.id ≠ id) } }

/-- Is the write of a receive record one of command `t`'s data to the issuer's own endpoint (R89)? -/
def Txn.ownWrite (t : Txn) (src qid seq xid : Nat) : Bool :=
  decide (t.cmd.opc ∈ [opPUT, opPUTI, opCOPY] ∧ t.cmd.dst = t.ep ∧ qid = t.qid ∧ seq = t.seq)
    && (if t.cmd.opc = opCOPY then decide (src = t.cmd.srcep) else decide (src = t.ep ∧ xid = t.xid))
/-- Writes to the issuer's memory that the command's record waits for (R89, R196). -/
def State.writesOut (s : State) (t : Txn) : Bool :=
  s.mv.jobs.any (fun j => match j.cont with
    | .getWrite x _ _ _ => decide (x = t.id)
    | .galWrite _ _ x _ _ => decide (x = t.id)
    | .rxWrite src qid seq xid _ _ _ _ => t.ownWrite src qid seq xid
    | _ => false)

/-- Data of the command may still be unperformed at its destination when it ends: a write without COMPLETE (R151). -/
def Txn.leavesDirty (t : Txn) : Bool :=
  decide (t.cmd.opc = opPUT ∨ t.cmd.opc = opPUTI ∨ t.cmd.opc = opCOPY) && !t.cmd.flag fCOMPLETE
    && decide (t.stage = .running)

/-- Bytes 24 to 27 of word 0: SAT, UFL, SR and CMB of the command (R83). -/
def Txn.recFl (t : Txn) : Nat := recFlags t.sat t.ufl t.sr t.cmb

/-- A RELEASE that waits for a command learns of its end (R152); failures are kept in push order. -/
def Txn.heard (id : Nat) (f : Option (Nat × Nat)) (t : Txn) : Txn :=
  if id ∈ t.waits then
    let relF := match f, t.relF with
      | some x, none => some (id, x.1, x.2)
      | some x, some y => if id < y.1 then some (id, x.1, x.2) else some y
      | none, y => y
    { t with waits := t.waits.filter (· ≠ id), relF }
  else t

/-- Is no record written for a command: does its queue belong to a port of a partition that a reset has taken, or that is out
of service (R60, R493)? -/
def State.recordless (s : State) (t : Txn) : Bool := decide (t.qid ≠ 0 ∧ s.pstate (portPart t.port) ≠ ptRUN)

/-- The destinations that may hold unperformed writes once a command has ended: the mark of one that leaves some is made anew,
so that an answer to an earlier probe does not clear it (R151). -/
def State.markDirty (s : State) (t : Txn) : State :=
  if t.leavesDirty then
    let f := s.fresh
    { f.2 with tp := { f.2.tp with
      dirty := f.2.tp.dirty.filter (fun x => !decide (x.1 = t.qid ∧ x.2.1 = t.cmd.dst)) ++ [(t.qid, t.cmd.dst, f.1)] } }
  else s

/-- End a command now: it leaves the accepted ones, its sender stops, and its record is written (R85), unless its partition
has been taken (R493). DESIGN CHOICE (log entry 107): for a later RELEASE, the record counts as written (R152) from here on, when
its write is issued. -/
def State.finishTxn (s0 : State) (t : Txn) (status result : Nat) : State :=
  let s := (s0.markDirty t).sndsEnd (fun x => decide (x.role = 0 ∧ x.txn = t.id))
  let fail := if status = stDONE then none else some (status, result)
  let s1 := { s with tp := { s.tp with
    txns := (s.tp.txns.filter (fun (x : Txn) => x.id ≠ t.id)).map (Txn.heard t.id fail)
    snds := s.tp.snds.filter (fun (x : Snd) => !(x.role = 0 ∧ x.txn = t.id)) } }
  let s2 := s1.suspDoneAll (s.ep t.port) t.qid
  if s.recordless t then s2
  else s2.writeRec t.qid t.port (BitVec.ofNat 64 (recWord0 t.cmd.tag status t.recFl t.qid t.gen t.cmd.opc))
    (BitVec.ofNat 64 result) true

/-- Write the record of a command whose outcome is known once no write of it is outstanding (R89). -/
def State.tryFinish (s : State) (id : Nat) : State :=
  match s.findTxn id with
  | some t =>
    match t.fstat with
    | some f => if s.writesOut t then s else s.finishTxn t f.1 f.2
    | none => s
  | none => s

/-- Settle the outcome of a command: the first one stands. -/
def State.endTxn (s : State) (id status result : Nat) : State :=
  (s.updTxn id (fun t => if t.fstat.isSome then t else { t with fstat := some (status, result) })).tryFinish id

/-- The record of a management command (R540), and of a command that R81 refuses. -/
def State.mgmtRec (s : State) (c : Cmd) (status result : Nat) : State :=
  s.writeRec 0 14 (BitVec.ofNat 64 (recWord0 c.tag status 0 0 0 c.opc)) (BitVec.ofNat 64 result) true

/-! ### Acceptance -/

/-- The transport timeout in force, in the model's units (R122). -/
def State.ttoNow (s : State) : Nat := us (s.fld .xportCfg xportCfg_TTO)
/-- The retransmit interval in force (R117). -/
def State.rtiNow (s : State) : Nat := us (s.fld .xportCfg xportCfg_RTI)

/-- Does an endpoint belong to the scope of a command bound to endpoint `e` (R154)? -/
def State.inScope (s : State) (scope e slice d : Nat) : Bool :=
  if scope = 0 then decide (d = e)
  else if scope = 1 then decide (epNode d = s.node ∧ epPort d ≤ 14)
  else s.permits s.active slice d

/-- The home memories a command accesses (R151). -/
def Txn.homes (t : Txn) : List Nat :=
  let c := t.cmd
  if c.opc = opGET then [c.dst, t.ep]
  else if c.opc = opCOPY then [c.dst, c.srcep]
  else if c.opc ∈ [opPUT, opPUTI, opATOMIC, opSYNCADD, opSYNCSET, opSYNCWAIT] then [c.dst]
  else if c.opc ∈ [opGALC, opCOMB, opKVR] then [t.ep]
  else []

/-- The QUEUE-mode channel bound to a queue, with its polynomial (R420). -/
def State.crcBound (s : State) (q : Nat) (c : Cmd) : Option (Nat × Nat) :=
  if c.opc = opPUT ∨ c.opc = opPUTI ∨ c.opc = opGET then
    ((List.range 24).find? (fun k => decide (s.fld (.crcCh k) crcCh_EN = 1 ∧ s.fld (.crcCh k) crcCh_MODE = 1
      ∧ s.fld (.crcCh k) crcCh_QID = q))).map (fun k => (k, s.fld (.crcCh k) crcCh_POLY))
  else none

/-- The first number from `x` on, modulo 2^13, that is not busy, with fuel. -/
def freeXid (busy : Nat → Bool) : Nat → Nat → Option Nat
  | 0, _ => none
  | f + 1, x => if busy x then freeXid busy f ((x + 1) % 8192) else some x
/-- Within this time of its last use, a transaction's XID, QID and SEQ are not used again from its endpoint (R245): the largest
TTO and 2 ms. -/
abbrev xidRest : Nat := ms 12
/-- A transaction number for a transaction sent from endpoint `e` (R245): one that no transaction outstanding from there has, and
that was not used for the same QID and SEQ lately; which one the spec leaves to the controller (log entry 108). -/
def State.takeXid (s : State) (e qid seq : Nat) : Nat × State :=
  let f := s.fresh
  let live := s.tp.xids.filter (fun u => decide (s.now < u.at' + xidRest))
  let used (x : Nat) : Bool := live.any (fun u => decide (u.ep = e ∧ u.xid = x ∧ u.qid = qid ∧ u.seq = seq))
  let out (x : Nat) : Bool := s.tp.txns.any (fun t => decide (t.ep = e ∧ t.xid = x))
    || s.tp.snds.any (fun y => decide (y.role = 1 ∧ y.src = e ∧ y.xid = x))
  let x0 := f.1 % 8192
  let x := ((freeXid (fun x => used x || out x) 8192 x0) <|> (freeXid used 8192 x0)).getD x0
  (x, { f.2 with tp := { f.2.tp with xids := live ++ [{ ep := e, xid := x, qid, seq, at' := s.now }] } })

/-- Accept a command on queue `q` (R69, R82): it takes the queue's next sequence number and counts in INFL. -/
def State.accept (s : State) (q port slice : Nat) (c : Cmd) : State :=
  let seq := (s.tp.qseq.find? (fun x => x.1 = q)).elim 0 (fun x => x.2)
  let e := s.ep port
  let k := s.takeXid e q seq
  let f := k.2.fresh
  let s1 := f.2
  let waits := if c.releases then
      (s1.tp.txns.filter (fun u => decide (u.qid = q) && u.homes.any (s1.inScope c.scope e slice))).map (·.id)
    else []
  let t : Txn :=
    { id := f.1, qid := q, cmd := c, port, gen := if q = 0 then 0 else s1.gen (portPart port), slice, seq,
      xid := k.1, ep := e, acc := s1.now, accFt := s1.fnow, tto := s1.ttoNow, crc := s1.crcBound q c,
      stage := .accepted, waits, probes := [], relF := none, acked := false, val := 0, expect := c.len, wrote := 0,
      gotRx := 0, getBuf := [], fstat := none, genr := none, perf := 0, cmb := false, sat := false, ufl := false,
      sr := false, probed := 0, ends := [] }
  let s2 := { s1 with tp := { s1.tp with
    txns := s1.tp.txns ++ [t]
    qseq := (s1.tp.qseq.filter (fun x => x.1 ≠ q)) ++ [(q, (seq + 1) % 65536)]
    lastAcc := (s1.tp.lastAcc.filter (fun x => x.1 ≠ slice)) ++ [(slice, s1.now)] } }
  if q = 0 then s2 else s2.updCtx q (fun x => { x with w2 := fset x.w2 qINFL (fget x.w2 qINFL + 1) })

end Sys2Proof.Machine
end

