-- ==== Sys2Proof/Machine/Sync.lean ====
section
/-! DEFINITION. The sync object file (spec/04_memory_model.md R164 to R177) and the acknowledgement cells that the block
builds (spec/07_wire_formats.md R251). -/

namespace Sys2Proof.Machine

/-- Is a packet one that arrived marked (R251, R382)? -/
def Pkt.marks (p : Pkt) : Nat := if p.h.ecn = 3 then 1 else 0
/-- May a packet be marked: ECN 0b10 is read as 0b01 (R240)? -/
def Pkt.markable (p : Pkt) : Bool := decide (p.h.ecn = 1 ∨ p.h.ecn = 2)

/-- An answer cell to a packet, from the endpoint the packet named (R240, R251): its tag with CIDX 0, its GEN. The MRG
flag tells a contributor that its cell was merged (R141, log entry 12). -/
def State.ackCell (s : State) (req : Pkt) (opc status marks qid seq genr result bitmap : Nat) : Pkt :=
  let h := s.hdr req.h.dst.toNat req.h.src.toNat req.h.slice.toNat clRSP req.h.gen.toNat opc (8 * xidOf req) 0
    (if req.flag fMRG ∧ opc = opACK then 2 ^ fMRG else 0)
  mkCell h (ackPay status marks qid seq 0 genr result bitmap)

/-- Send an ACK for a request cell (R120). -/
def State.ackReq (s : State) (n : Nat) (req : Pkt) (status result : Nat) : State :=
  let d := Desc.ofNat req.desc
  s.inject n (s.ackCell req opACK status req.marks d.qid d.seq 0 result 0) none

/-- Does the owner entry of an object admit a slice (R165)? -/
def State.syncOwned (s : State) (i slice : Nat) : Bool :=
  decide (s.fld (.syncOwn i) syncOwn_V = 1 ∧ s.fld (.syncOwn i) syncOwn_SLICE = slice)
/-- The value of a sync object. -/
def State.syncVal (s : State) (i : Nat) : Nat := (s.reg (.syncVal i)).toNat
/-- Does a wait's condition hold (R168)? -/
def waitHolds (cmp v target : Nat) : Bool :=
  if cmp = 0 then decide (target ≤ v) else if cmp = 1 then decide (v = target) else decide (v ≠ target)
/-- WAITS follows the slots in use (R171). -/
def State.waitsRefresh (s : State) (l : List Wait) : State :=
  let s1 := { s with tp := { s.tp with waits := l } }
  (s1.setFld .syncStat syncStat_WAITS l.length).high .syncStat syncStat_WAITHWM l.length

/-- Answer a wait (R169): DONE with the value, or TARGET_TIMEOUT. -/
def State.answerWait (s : State) (w : Wait) (status result : Nat) : State :=
  let h := s.hdr w.dst.toNat w.src.toNat w.slice.toNat clRSP w.gen.toNat opACK w.tag.toNat 0 0
  s.inject (s.servePart 0) (mkCell h (ackPay status w.marks w.qid w.seq 0 0 result 0)) none

/-- One update of an object (R166, R167, R172): the waits it satisfies are answered in order of registration. -/
def State.syncUpdate (s : State) (i v : Nat) : State :=
  let s1 := s.setReg (.syncVal i) (BitVec.ofNat 64 v)
  let v1 := s1.syncVal i
  let hit (w : Wait) : Bool := decide (w.sync = i) && waitHolds w.cmp v1 w.target
  let sat := s1.tp.waits.filter hit
  let s2 := if sat.isEmpty then s1 else s1.waitsRefresh (s1.tp.waits.filter (fun w => !hit w))
  sat.foldl (fun s w => s.answerWait w stDONE v1) s2
/-- Add to an object (R166). -/
def State.syncAdd (s : State) (i k : Nat) : State := s.syncUpdate i (s.syncVal i + k)

/-- Receipt of a wait cell (R169, R171). A condition that does not hold takes a slot, or counts EXHAUST where none is free; only
then does the deadline count. -/
def State.syncWaitTake (s : State) (n : Nat) (p : Pkt) : State :=
  let d := Desc.ofNat p.desc
  let b (o k : Nat) : Nat := bytesNat (slice p.pay o k)
  let v := s.syncVal d.sync
  if !s.syncOwned d.sync p.h.slice.toNat then s.ackReq n p stSLICE p.h.dst.toNat
  else if waitHolds (b 20 1 % 8) v (b 24 8) then s.ackReq n p stDONE v
  else if 65536 ≤ s.tp.waits.length then
    (s.count .syncStat syncStat_EXHAUST 1).ackReq n p stTGTTO p.h.dst.toNat
  else if s.fnow > b 32 8 then s.ackReq n p stTGTTO p.h.dst.toNat
  else
    let w : Wait :=
      { sync := d.sync, src := p.h.src, dst := p.h.dst, tag := p.h.tag, slice := p.h.slice, gen := p.h.gen, qid := d.qid,
        seq := d.seq, cmp := b 20 1 % 8, target := b 24 8, deadline := b 32 8, marks := p.marks }
    s.waitsRefresh (s.tp.waits ++ [w])

/-- A SYNC_ADD or SYNC_SET cell at the file (R165, R166). -/
def State.syncOpTake (s : State) (n : Nat) (p : Pkt) : State :=
  let d := Desc.ofNat p.desc
  let v := bytesNat (slice p.pay 24 8)
  if !s.syncOwned d.sync p.h.slice.toNat then s.ackReq n p stSLICE p.h.dst.toNat
  else (if p.opc = opSYNCADD then s.syncAdd d.sync v else s.syncUpdate d.sync v).ackReq n p stDONE 0

/-! ### The single order of an object (R167, R172) -/

/-- Is a packet an operation of the file on object `i`? -/
def Pkt.onSync (i : Nat) (p : Pkt) : Bool :=
  decide (p.opc ∈ [opSYNCADD, opSYNCSET, opSYNCWAIT] ∧ (Desc.ofNat p.desc).sync = i)
/-- A sync cell at the file. -/
def State.fileTake (s : State) (e : InEnt) : State :=
  if e.pkt.opc = opSYNCWAIT then s.syncWaitTake e.part e.pkt else s.syncOpTake e.part e.pkt
/-- What has arrived at the file for object `i` is applied in its order. -/
def State.syncDrain (s : State) (i : Nat) : State :=
  let mine (e : InEnt) : Bool := s.runs e.part && e.pkt.onSync i
  (s.sw.inbox.filter mine).foldl State.fileTake { s with sw := { s.sw with inbox := s.sw.inbox.filter (fun e => !mine e) } }
/-- An update of the block's own, a register write or a gallery add: it follows what arrived at the file before it. -/
def State.syncOwn (s : State) (i : Nat) (v : Nat → Nat) : State :=
  let s1 := s.syncDrain i
  s1.syncUpdate i (v (s1.syncVal i))
/-- A CNT add (R107): it follows what arrived at the file before it, and is refused where the owner entry no longer admits
the slice (R165, R175). Whether it was made. -/
def State.cntAdd (s : State) (i slice k : Nat) : Bool × State :=
  let s1 := s.syncDrain i
  if s1.syncOwned i slice then (true, s1.syncAdd i k) else (false, s1)

/-- The first wait whose deadline has passed leaves its slot (R169). -/
def State.syncExpire (s : State) : State :=
  match s.tp.waits.find? (fun w => decide (w.deadline < s.fnow)) with
  | none => s
  | some w => (s.waitsRefresh (dropFirst (fun x => decide (x = w)) s.tp.waits)).answerWait w stTGTTO w.dst.toNat

end Sys2Proof.Machine
end

