-- ==== Sys2Proof/Machine/Transport.lean ====
section
/-! DEFINITION. Remote operations end to end: checks at the issuer, senders, receive records, acknowledgements
(spec/03_remote_operations.md R97 to R125, spec/04_memory_model.md R145 to R153, spec/10_routing.md R357,
spec/15_recovery.md R496). -/

namespace Sys2Proof.Machine

/-! ### How data is cut into packets (R112, R113, R248) -/

/-- Does data of this length and these flags travel in frames (R112)? -/
def inFrames (len flags : Nat) : Bool := decide (256 < len) || nbit flags fE2ECRC
/-- Cells of a PUT of `len` bytes, and of its GET_DATA counterpart. -/
def putCells (len : Nat) : Nat := if len ≤ 28 then 1 else 1 + cdiv (len - 28) 48
/-- Packets of a transfer: `data` says GET_DATA. -/
def packetCount (frames data : Bool) (len : Nat) : Nat :=
  if frames then cdiv len 8192 else if data then cdiv len 48 else putCells len
/-- Byte range of packet `i`: offset and length. -/
def packetRange (frames data : Bool) (len i : Nat) : Nat × Nat :=
  if frames then (8192 * i, min 8192 (len - 8192 * i))
  else if data then (48 * i, min 48 (len - 48 * i))
  else if i = 0 then (0, min 28 len)
  else (28 + 48 * (i - 1), min 48 (len - (28 + 48 * (i - 1))))

/-- The 8 B units of a transfer are written whole (R144): the bytes to write for a packet that brings `d` at offset `lo` of a
transfer of `tlen` bytes whose first byte has an address of `al` modulo 8, and the ends that wait after it. An end of the packet
inside a unit goes with the other packet's end where that is there, waits for it where it is not, and is written alone where it
will not come (`soloL`, `soloR`). Offset, bytes, ends. -/
def unitJoin (al tlen lo : Nat) (d : List Byte) (ends : List (Nat × List Byte)) (soloL soloR : Bool) :
    Nat × List Byte × List (Nat × List Byte) :=
  let hi := lo + d.length
  let head := if lo = 0 then 0 else min d.length ((8 - (al + lo) % 8) % 8)
  let tail := if tlen ≤ hi then 0 else min (d.length - head) ((al + hi) % 8)
  let prev := ends.find? (fun x => x.1 + x.2.length = lo)
  let next := ends.find? (fun x => x.1 = hi)
  let keepL := decide (head ≠ 0) && prev.isNone && !soloL
  let keepR := decide (tail ≠ 0) && next.isNone && !soloR
  let body := (if keepR then d.take (d.length - tail) else d).drop (if keepL then head else 0)
  let rest := ends.filter (fun x => !(decide (x.1 + x.2.length = lo) || decide (x.1 = hi)))
  (match prev with | some x => x.1 | none => if keepL then lo + head else lo,
   (prev.elim [] (·.2)) ++ body ++ (next.elim [] (·.2)),
   rest ++ (if keepL then [(lo, d.take head)] else []) ++ (if keepR then [(hi - tail, d.drop (d.length - tail))] else []))

/-- The status and RESULT of a failed data access (R84): `ep` where it failed, `reg` the region, `off` the offset of the
failure in the command's data, `bytes` those confirmed performed. -/
def dataResult (st ep reg off bytes : Nat) : Nat :=
  if st = stREGION ∨ st = stKEY then resReg ep reg bytes
  else if st = stCHECK ∨ st = stPOISON then resEp ep off
  else if st = stSLICE then ep % 2 ^ 16
  else resEp ep bytes

/-! ### Building packets -/

/-- The descriptor of a command (R246). -/
def Txn.desc (t : Txn) : Desc :=
  let c := t.cmd
  { rreg := c.rreg, roff := c.roff, key := c.key, sync := c.sync, qid := t.qid, seq := t.seq, tlen := c.len, fidx := 0 }

/-- Packet `i` of a sender (R113, R248): PUT cells with the descriptor in the first, GET_DATA cells, frames. -/
def State.sndPkt (s : State) (x : Snd) (putOpc : Nat) (data : List Byte) (i : Nat) : Pkt :=
  let isData := decide (x.role = 2)
  let r := packetRange x.frames isData x.desc.tlen i
  let d := slice data r.1 r.2
  let opc := if isData then opGETDATA else if x.frames then opPUT else putOpc
  let cls := if x.frames then clBLK else if isData then clRSP else clREQ
  let h := s.hdr x.src x.dst x.slice cls x.gen opc (8 * x.xid + (if x.frames then 0 else i)) 0 (x.flags % 128)
  if x.frames then mkFrame h ({ x.desc with fidx := i }).toNat d
  else if isData ∨ 0 < i then mkCell h d
  else mkCell h (natBytes 20 x.desc.toNat ++ d)

/-- Build and send the first `n` packets of a sender (R113), past the snoop channels of its copy engine (R419); frames stay for
retransmission (R117). -/
def State.sndStart (s : State) (x : Snd) (putOpc n : Nat) (data : List Byte) : State :=
  let ps := (List.range n).map (fun i => s.sndPkt x putOpc data i)
  let us : List SUnit := ps.zipIdx.map (fun y => { idx := y.2, pkt := y.1, st := 1, at' := s.now, fail := false })
  let keep := x.frames || decide (x.role = 1)
  let s1 := { s with tp := { s.tp with
    snds := updFirst (fun y => y.id = x.id) (fun y => { y with units := us, loaded := true }) s.tp.snds } }
  let eng := 2 * x.part + s.engineOf x.part x.id
  ps.foldl (fun s p =>
    let s1 := s.snoop 4 eng p
    if p.cls = clRSP then s1.inject x.part p none else s1.send x.part p) (if keep then s1 else s1.dropSnd x.id)

/-! ### Checks at the issuing node (R357, R103, R106) -/

/-- Checks 1 to 5 of R357 on one endpoint. -/
def State.checkEp (s : State) (sl d : Nat) : Option Nat :=
  let e := s.active
  if epPort d = 15 then some stUNREACH
  else if !s.inTorus (epNode d) then some stUNREACH
  else if !s.permits e sl d then some stSLICE
  else if epNode d ≠ s.node ∧ !nbit (s.nodeEntry e (epNode d)) 0 then some stUNREACH
  else if epNode d ≠ s.node ∧ s.fld .routeCtl routeCtl_EN = 0 then some stUNREACH
  else none

/-- The checks of R357 on a routed command: the failing status and RESULT. -/
def State.issueCheck (s : State) (t : Txn) : Option (Nat × Nat) :=
  let c := t.cmd
  let one (d : Nat) : Option (Nat × Nat) :=
    (s.checkEp t.slice d).map (fun st => (st, if st = stSLICE then c.dst else resEp d 0))
  let moves : Bool := decide (c.opc ∈ [opPUT, opPUTI, opGET, opCOPY, opATOMIC])
  let loc (right : Nat) : Option (Nat × Nat) :=
    if s.localCheck c.lreg t.slice t.port right c.loff c.len then none else some (stREGION, resReg t.ep c.lreg 0)
  one c.dst <|> (if c.opc = opCOPY then one c.srcep else none)
    <|> (if moves ∧ epPort c.dst = 13 then some (stREGION, resReg t.ep c.rreg 0) else none)
    <|> (if c.opc = opPUT then loc 0 else if c.opc = opGET then loc 1 else none)

/-! ### Holding commands back (R145, R146, R151, R152, R370) -/

/-- Do two remote ranges of one region overlap? -/
def rangesMeet (a b : Cmd) : Bool :=
  decide (a.dst = b.dst ∧ a.rreg = b.rreg ∧ a.roff < b.roff + b.len ∧ b.roff < a.roff + a.len)

/-- Has the destination acknowledged the command (R145, R146)? A GET also by its first data (`first`). -/
def Txn.ackedOk (t : Txn) (first : Bool) : Bool :=
  decide (t.stage = .running) && (t.acked || t.fstat.isSome || (first && decide (t.cmd.opc = opGET) && decide (0 < t.gotRx)))

/-- Must command `t` wait for the earlier command `u` of its queue (R145, R146, R370)? -/
def Txn.behind (t u : Txn) : Bool :=
  let moves (c : Cmd) : Bool := decide (c.opc ∈ [opPUT, opPUTI, opGET, opCOPY, opATOMIC])
  let sync (c : Cmd) : Bool := decide (c.opc ∈ [opSYNCADD, opSYNCSET, opSYNCWAIT])
  decide (u.qid = t.qid) && decide (u.id < t.id)
    && ((moves t.cmd && moves u.cmd && rangesMeet t.cmd u.cmd && !u.ackedOk false)
      || (sync t.cmd && sync u.cmd && decide (t.cmd.dst = u.cmd.dst ∧ t.cmd.sync = u.cmd.sync))
      || (t.cmd.ordered && u.cmd.ordered && decide (t.cmd.dst = u.cmd.dst) && !u.ackedOk true))

/-- A PROBE cell to a destination (R151, R250). -/
def State.probeCell (s : State) (t : Txn) (d : Nat) : Pkt :=
  let h := s.hdr t.ep d t.slice clREQ t.gen opPROBE (8 * t.xid) 0 0
  let z : Desc := { rreg := 0, roff := 0, key := 0, sync := 0, qid := t.qid, seq := t.seq, tlen := 0, fidx := 0 }
  mkCell h (natBytes 20 z.toNat)

/-- Destinations in scope that may hold unperformed writes of the queue (R151). -/
def State.probeSet (s : State) (t : Txn) : List Nat :=
  (s.tp.dirty.filter (fun x => decide (x.1 = t.qid) && s.inScope t.cmd.scope t.ep t.slice x.2.1)).map (fun x => x.2.1)

/-! ### Sending (the operations of "Data operations") -/

/-- Payload of the request cells of R250 behind their descriptor. The descriptor of a SYNC cell holds SYNC, and QID and
SEQ by which its answer is matched (R245, log entry 13). -/
def Txn.reqPay (t : Txn) : List Byte :=
  let c := t.cmd
  let d := t.desc
  let z := { d with rreg := 0, roff := 0, key := 0, tlen := 0 }
  if c.opc = opGET then natBytes 20 d.toNat
  else if c.opc = opCOPY then
    natBytes 20 d.toNat ++ zeros 4 ++ natBytes 8 c.w3.toNat ++ natBytes 2 c.skey ++ natBytes 2 c.dst ++ zeros 4
  else if c.opc = opATOMIC then
    natBytes 20 d.toNat ++ natBytes 1 c.subop ++ zeros 3 ++ natBytes 8 c.w4.toNat ++ natBytes 8 c.w5.toNat
  else if c.opc = opSYNCWAIT then
    natBytes 20 z.toNat ++ natBytes 1 c.cmp ++ zeros 3 ++ natBytes 8 c.w4.toNat ++ natBytes 8 (t.accFt + us c.wto)
  else natBytes 20 z.toNat ++ zeros 4 ++ natBytes 8 c.w4.toNat

/-- The request cell of a command. DESIGN CHOICE (log entry 109): the flags of a SYNC_WAIT are copied into its cell like any
command's (R242), and a cell with ORDERED is pinned (R352); R148 has the flag ignored as an order between commands. -/
def State.reqCell (s : State) (t : Txn) : Pkt :=
  let target := if t.cmd.opc = opCOPY then t.cmd.srcep else t.cmd.dst
  mkCell (s.hdr t.ep target t.slice clREQ t.gen t.cmd.opc (8 * t.xid) 0 (t.cmd.flags % 128)) t.reqPay

/-- The data of a PUT_INLINE as it is sent (R420). -/
def Txn.inlineOut (t : Txn) : List Byte :=
  let d := t.cmd.inlineData
  match t.crc with
  | none => d
  | some k =>
    let w := polyWidth k.2
    d.take (d.length - w) ++ natBytes w (crcOf k.2 (d.take (d.length - w)))

/-- A sender for a command whose data the issuer sends. -/
def State.openSnd (s : State) (x : Snd) : Nat × State :=
  let f := s.fresh
  (f.1, { f.2 with tp := { f.2.tp with snds := f.2.tp.snds ++ [{ x with id := f.1 }] } })

/-- Send a command whose checks have passed and that nothing holds back. -/
def State.sendTxn (s : State) (t : Txn) : State :=
  let c := t.cmd
  let part := s.tPart t
  let s0 := s.updTxn t.id (fun x => { x with stage := .running, acked := false })
  let x : Snd :=
    { id := 0, role := 0, part, txn := t.id, src := t.ep, dst := c.dst, iss := t.ep, slice := t.slice, qid := t.qid,
      seq := t.seq, xid := t.xid, ixid := t.xid, gen := t.gen, agen := t.gen, reg := c.lreg, flags := c.flags, desc := t.desc, frames := inFrames c.len c.flags,
      units := [], loaded := false, pre := none, start := t.acc, tto := t.tto, genr := none, marks := 0 }
  if c.opc = opPUT then
    let o := s0.openSnd x
    let w := t.crc.elim 0 (fun k => polyWidth k.2)
    let base := (o.2.region c.lreg).base
    o.2.startRead part t.port (base + c.loff) (c.len - w) t.slice .direct (.sndData o.1)
  else if c.opc = opPUTI then
    let o := s0.openSnd x
    let d := t.inlineOut
    o.2.sndStart { x with id := o.1 } opPUTI (packetCount x.frames false c.len) d
  else s0.send part (s0.reqCell t)

/-- The part whose channels carry the writes of a packet (R575). -/
def InEnt.chans (e : InEnt) : Nat := let c := epPort e.pkt.h.dst.toNat; if c < 12 then portPart c else e.part
/-- Is a delivered packet work for an engine of Pn of a key on probation there (R498)? -/
def State.suspWork (s : State) (n : Nat) (e : InEnt) : Bool :=
  decide (e.chans = n ∧ e.pkt.opc ∈ [opGET, opCOPY, opATOMIC])
    && s.onProbation n e.pkt.h.src.toNat (Desc.ofNat e.pkt.desc).qid
/-- Must a local command of a suspect key wait at an engine of its partitions: one holds another such command, or another such
command has come before it (R498)? -/
def State.suspWait (s : State) (t : Txn) : Bool :=
  let ns := if t.cmd.opc = opPUT ∨ t.cmd.opc = opPUTI then [s.tPart t]
    else if t.cmd.opc ∈ [opGALC, opCOMB, opKVR] then (s.gdef t.cmd.gal).partsOf else []
  ns.any (fun n => s.onProbation n t.ep t.qid
    && (s.suspHeld n || s.sw.inbox.any (fun e => s.suspWork n e && decide (e.at' < t.acc))))

/-- A held command that may leave does so (R145, R146, R151, R152, R370, R498); a RELEASE first sends its flush probes. -/
def State.release (s : State) (t : Txn) : State :=
  if t.stage ≠ .held ∨ t.fstat.isSome then s
  else if s.suspWait t then s
  else if s.tp.txns.any (fun u => t.behind u) then s
  else if !t.cmd.releases then s.sendTxn t
  else if !t.waits.isEmpty then s
  else if !t.acked then
    let ds := s.probeSet t
    if ds.isEmpty ∧ t.relF.isNone then s.sendTxn t
    else
      let f := s.fresh
      ds.foldl (fun s d => s.send (s.tPart t) (s.probeCell t d))
        (f.2.updTxn t.id (fun x => { x with acked := true, probes := ds, probed := f.1 }))
  else if !t.probes.isEmpty then s
  else match t.relF with
    | some f => s.endTxn t.id f.2.1 f.2.2
    | none => s.sendTxn t

/-! ### Starting (R81, R82, R149, R153, R498) -/

/-- Format failure of an accepted command, R420's length rule included (R81, R97, R420). -/
def Txn.formatFail (t : Txn) : Option (Nat × Nat) :=
  t.cmd.formatFail (decide (t.qid = 0))
    <|> (match t.crc with | some k => if t.cmd.len ≤ polyWidth k.2 then some (3, 8) else none | none => none)

/-- Does anything accepted before command `t` on its queue keep it from starting: an earlier command not started, a
FENCE (R149), an ACQUIRE (R153), or, for a suspect key, any earlier command or record, or, for its gallery command, the
sequencer's other suspect command (R498)? -/
def State.startBlocked (s : State) (t : Txn) : Bool :=
  s.tp.txns.any (fun u => decide (u.qid = t.qid ∧ u.id < t.id)
      && (decide (u.stage = .accepted) || decide (u.cmd.opc = opFENCE) || u.cmd.acquires))
    || (s.suspect t.ep t.qid && (s.tp.txns.any (fun u => decide (u.qid = t.qid ∧ u.id < t.id)) || s.recOut t.qid))
    || (decide (t.cmd.opc ∈ [opGALC, opCOMB, opKVR]) && s.suspWait t)

/-- The first command of a queue that has not started, if it may start now. -/
def State.startable (s : State) (q : Nat) : Option Txn :=
  match s.tp.txns.find? (fun t => decide (t.qid = q ∧ t.stage = .accepted)) with
  | some t => if s.startBlocked t ∨ t.fstat.isSome then none else some t
  | none => none

/-- Start a command other than a gallery command: format checks, issue checks, then sending once nothing holds it. -/
def State.begin (s : State) (t : Txn) : State :=
  match t.formatFail with
  | some f => s.endTxn t.id stFORMAT (resFmt f.1 f.2)
  | none =>
    if t.cmd.opc = opFENCE then s.updTxn t.id (fun x => { x with stage := .running })
    else match s.issueCheck t with
      | some f => s.endTxn t.id f.1 f.2
      | none =>
        let s1 := s.updTxn t.id (fun x => { x with stage := .held })
        match s1.findTxn t.id with
        | some u => s1.release u
        | none => s1

/-- Has a management command that the engines run its record still to write (R93, R149)? -/
def State.engPend (s : State) : Bool :=
  let m := s.mg
  m.swap.isSome || !m.engSwap.isEmpty || m.tear.isSome || !m.engTear.isEmpty || !m.engAtt.isEmpty
    || (match m.scrub with | some (_, _, some _) => true | _ => false)
    || m.engScrub.any (fun x => x.2.2.isSome)
    || (match m.scan with | some (_, _, _, some _) => true | _ => false)
    || m.engScan.any (fun x => x.2.2.2.isSome)
    || (match m.dump with | some d => d.cmd.isSome | none => false) || m.engDump.any (fun x => x.2.isSome)
    || (match m.att with | some a => a.cmd.isSome | none => false)
/-- A FENCE ends once every command pushed before it has its record written (R149); on queue 0 those that the engines run are
among them, none of which starts behind a FENCE. -/
def State.fenceAll (s : State) : State :=
  (s.tp.txns.filter (fun t => decide (t.cmd.opc = opFENCE ∧ t.stage = .running))).foldl (fun s t =>
    if s.tp.txns.any (fun u => decide (u.qid = t.qid ∧ u.id < t.id)) ∨ s.recOut t.qid ∨ (t.qid = 0 ∧ s.engPend) then s
    else s.endTxn t.id stDONE 0) s

/-! ### Receive records (R116, R118, R119) -/

/-- The record of a key. -/
def RRec.keyed (src xid qid seq : Nat) (r : RRec) : Bool :=
  decide (r.src = src ∧ r.xid = xid ∧ r.qid = qid ∧ r.seq = seq)
/-- Change the record of a key. -/
def State.updRRec (s : State) (src xid qid seq : Nat) (f : RRec → RRec) : State :=
  { s with tp := { s.tp with rrecs := updFirst (RRec.keyed src xid qid seq) f s.tp.rrecs } }
/-- Find it. -/
def State.findRRec (s : State) (src xid qid seq : Nat) : Option RRec := s.tp.rrecs.find? (RRec.keyed src xid qid seq)

/-- Packets the transfer of a record has. -/
def RRec.count (r : RRec) : Nat := packetCount (!r.cell) (decide (r.opc = opGETDATA)) r.desc.tlen
/-- All of them have arrived, or been written. -/
def RRec.full (r : RRec) : Bool := decide (popcount r.bitmap 128 = r.count)
def RRec.written (r : RRec) : Bool := decide (popcount r.wmap 128 = r.count)
/-- Does it acknowledge only written data (R121)? -/
def RRec.complete (r : RRec) : Bool := nbit r.flags fCOMPLETE

/-- The generation an ACK to a sender reports (R251, R496). -/
def State.genrOf (s : State) (r : RRec) : Nat :=
  if epPort r.dst < 12 then s.gen (portPart (epPort r.dst)) else s.gen r.part

/-- Send the ACK of a receive record (R116, R120, R121). The first that covers the whole transfer ends a suspect key's command
(R498). -/
def State.ackRec (s : State) (r : RRec) : State :=
  let f := r.fail.getD (stDONE, 0)
  let done := if r.complete then r.written else r.full
  let result := if f.1 ≠ stDONE then f.2 else if done then r.desc.tlen else 0
  let bm := if r.cell then 0 else if r.complete then r.wmap else r.bitmap
  let h := s.hdr r.dst r.src r.slice clRSP r.gen opACK (8 * r.xid) 0 0
  let ends : Bool := done || r.fail.isSome
  let s0 := if ends && !r.acked && decide (r.opc ≠ opGETDATA) then s.suspDone r.part r.src r.qid else s
  let s1 := s0.updRRec r.src r.xid r.qid r.seq (fun x => { x with ackDue := none, marks := 0, acked := x.acked || ends })
  s1.inject r.part (mkCell h (ackPay f.1 r.marks r.qid r.seq 0 (if r.cell then 0 else s.genrOf r) result bm)) none

/-- Acknowledge as far as the record allows: cells once all have arrived; a failed frame and the last missing frame at
once, other frames within 1 µs (R116, R120, R121). -/
def State.ackCheck (s : State) (src xid qid seq : Nat) : State :=
  match s.findRRec src xid qid seq with
  | none => s
  | some r =>
    if r.cell then
      if r.acked ∨ !r.full then s
      else if r.fail.isSome ∨ !r.complete ∨ r.written then s.ackRec r else s
    else if r.fail.isSome then s.ackRec r
    else if (if r.complete then r.written else r.full) then s.ackRec r
    else if r.ackDue.isSome then s
    else s.updRRec src xid qid seq (fun x => { x with ackDue := some s.now })

/-- Depth of an edge port's output queue in tiles (R313, R380). -/
def State.edgeDepth (s : State) (c : Nat) : Nat :=
  sumBy (fun (x : Copy) => x.tiles.length) (s.sw.copies.filter (fun x => decide (x.part = portPart c ∧ x.out = 1 + c % 2)))

/-- Is a packet for an edge port marked at its destination (R380)? -/
def State.edgeMark (s : State) (p : Pkt) : Bool :=
  let c := epPort p.h.dst.toNat
  if 12 ≤ c then false
  else decide ((s.fld (.mark (portPart c)) (if p.cls = clBLK then mark_KBLK else mark_KREQ)) ≤ s.edgeDepth c)

/-- A packet accepted for an edge port, as the edge output it is for marks it, where it does: it counts there (R240, R380). -/
def State.edgeMarked (s : State) (p : Pkt) : Pkt × State :=
  if p.markable && s.edgeMark p then
    let c := epPort p.h.dst.toNat
    ({ p with h := { p.h with ecn := 3 } }, s.countSl (portPart c) p.h.slice.toNat (.telQ (portPart c) (1 + c % 2)) telQ_MARKED)
  else (p, s)

/-- The refusal of a packet's range at its destination, if any (R102, R135, R165): status, RESULT. DESIGN CHOICE (log entry
110): where more than one holds, the owner entry comes first, then the region, then the port that is not trained. -/
def State.destFail (s : State) (p : Pkt) (d : Desc) (right off n bytes : Nat) : Option (Nat × Nat) :=
  let dst := p.h.dst.toNat
  let own0 := decide (p.h.src.toNat = s.ep 14 ∧ d.qid = 0)
  if p.flag fCNT ∧ !s.syncOwned d.sync p.h.slice.toNat then some (stSLICE, dst)
  else match s.regionCheck d.rreg p.h.slice.toNat d.key (epPort dst) right (d.roff + off) n own0 with
    | some st => some (st, resReg dst d.rreg bytes)
    | none => if epPort dst < 12 ∧ !s.up (epPort dst) then some (stUNREACH, resEp dst bytes) else none

/-- Write bytes `[off, off + d.length)` of a record's transfer. -/
def State.rxStore (s : State) (r : RRec) (p : Pkt) (part idx off : Nat) (d : List Byte) : State :=
  s.startWrite part (epPort p.h.dst.toNat) ((s.region r.desc.rreg).base + r.desc.roff + off) d r.slice
    (if r.cell then .cell else .frame) (.rxWrite r.src r.qid r.seq r.xid idx off d.length (p.flag fCNT)) r.flags

/-- The second end-to-end check of a frame with E2ECRC, made before its data is written: the frame has changed in the unit's buffer
since the first (R125). -/
def InEnt.secondBad (e : InEnt) (flags : Nat) : Bool := e.struck && nbit flags fE2ECRC && decide (e.pkt.e2e ≠ e.pkt.e2eOf)
/-- One packet of data accepted into its record: refused, or written in whole units (R102, R121, R125, R144). The ends of its
neighbours that wait for a refused packet are written alone. -/
def State.rxUnit (s : State) (r : RRec) (p : Pkt) (part idx off : Nat) (d : List Byte) (second : Bool := false) : State :=
  let upd (s : State) (k : Nat) (f : RRec → RRec) : State := s.updRRec r.src r.xid r.qid r.seq (fun x =>
    f { x with bitmap := x.bitmap ||| 2 ^ idx, marks := x.marks + k })
  match s.destFail p r.desc 1 off d.length r.bytes
      <|> (if second then some (stCHECK, resEp p.h.dst.toNat off) else none) with
  | some f =>
    let near (x : Nat × List Byte) : Bool := decide (x.1 + x.2.length = off) || decide (x.1 = off + d.length)
    let s1 := upd s p.marks (fun x => { x with
      fail := x.fail <|> some f, wmap := x.wmap ||| 2 ^ idx, denied := x.denied ||| 2 ^ idx, ends := x.ends.filter (fun y => !near y) })
    (r.ends.filter near).foldl (fun s x => s.rxStore r p part idx x.1 x.2) s1
  | none =>
    let m := s.edgeMarked p
    let u := unitJoin (((s.region r.desc.rreg).base + r.desc.roff) % 8) r.desc.tlen off d r.ends
      (nbit r.denied (idx - 1)) (nbit r.denied (idx + 1))
    (upd m.2 m.1.marks (fun x => { x with ends := u.2.2 })).rxStore r p part idx u.1 u.2.1

/-- The data a PUT cell carries (R248): cell 0 behind its descriptor. -/
def cellData (tlen idx : Nat) (p : Pkt) : List Byte :=
  let r := packetRange false false tlen idx
  if idx = 0 then slice p.pay 20 r.2 else p.pay.take r.2

/-- Process a cell against its record. -/
def State.rxCellUnit (s : State) (r : RRec) (p : Pkt) (part : Nat) : State :=
  let i := cidxOf p
  if r.count ≤ i ∨ nbit r.bitmap i then s
  else (s.rxUnit r p part i (packetRange false false r.desc.tlen i).1 (cellData r.desc.tlen i p)).ackCheck
    r.src r.xid r.qid r.seq

/-- A fresh record for a packet with a descriptor. -/
def State.mkRRec (s : State) (e : InEnt) (cell : Bool) : RRec :=
  let p := e.pkt
  let d := Desc.ofNat p.desc
  { src := p.h.src.toNat, qid := d.qid, seq := d.seq, xid := xidOf p, opc := p.opc, dst := p.h.dst.toNat,
    slice := p.h.slice.toNat, gen := p.h.gen.toNat, flags := p.h.flags.toNat, desc := { d with fidx := 0 }, cell,
    part := e.chans, bitmap := 0, wmap := 0, first := s.now, ackDue := none, acked := false, marks := 0, bytes := 0,
    fail := none, denied := 0, ends := [] }

/-- A PUT or PUT_INLINE cell at its destination (R120, R249). -/
def State.rxPutCell (s : State) (e : InEnt) : State :=
  let p := e.pkt
  let src := p.h.src.toNat
  if cidxOf p = 0 then
    let r := s.mkRRec e true
    let s1 := if (s.findRRec r.src r.xid r.qid r.seq).isSome then s
      else { s with tp := { s.tp with rrecs := s.tp.rrecs ++ [r] } }
    let mine (h : InEnt × Nat) : Bool := decide (h.1.pkt.h.src.toNat = src ∧ xidOf h.1.pkt = r.xid)
    let late := s1.tp.held.filter mine
    let s2 := { s1 with tp := { s1.tp with held := s1.tp.held.filter (fun h => !mine h) } }
    (p :: late.map (fun h => h.1.pkt)).foldl (fun s q =>
      match s.findRRec r.src r.xid r.qid r.seq with
      | some x => s.rxCellUnit x q e.chans
      | none => s) s2
  else
    match s.tp.rrecs.find? (fun r => decide (r.src = src ∧ r.xid = xidOf p ∧ r.cell = true) && !r.full) with
    | some r => s.rxCellUnit r p e.chans
    | none => { s with tp := { s.tp with held := s.tp.held ++ [(e, e.arr)] } }

/-- A frame that fails its end-to-end CRC is discarded and counted (R115). -/
def State.e2eFail (s : State) : State := { s with tp := { s.tp with e2eN := s.tp.e2eN + 1 } }
/-- The record of a frame's command, which its first frame opens (R116); where none is free, the frame is discarded and counted
(R119). -/
def State.openRRec (s : State) (e : InEnt) (src xid qid seq : Nat) : State :=
  if (s.findRRec src xid qid seq).isSome then s
  else if 65536 ≤ (s.tp.rrecs.filter (fun r => !r.cell)).length then { s with tp := { s.tp with norecN := s.tp.norecN + 1 } }
  else { s with tp := { s.tp with rrecs := s.tp.rrecs ++ [s.mkRRec e false] } }
/-- A frame already in the bitmap is acknowledged again and not written (R118). -/
def State.rxAgain (s : State) (r : RRec) (p : Pkt) : State :=
  s.updRRec r.src r.xid r.qid r.seq (fun x => { x with ackDue := x.ackDue <|> some s.now, marks := x.marks + p.marks })

/-- A PUT frame at its destination (R115 to R119, R125). -/
def State.rxPutFrame (s : State) (e : InEnt) : State :=
  let p := e.pkt
  let d := Desc.ofNat p.desc
  let src := p.h.src.toNat
  if p.e2e ≠ p.e2eOf ∧ !e.struck then s.e2eFail
  else
    let s1 := s.openRRec e src (xidOf p) d.qid d.seq
    match s1.findRRec src (xidOf p) d.qid d.seq with
    | some r =>
      if nbit r.bitmap d.fidx then s1.rxAgain r p
      else (s1.rxUnit r p e.chans d.fidx (8192 * d.fidx) p.pay (e.secondBad p.h.flags.toNat)).ackCheck src r.xid r.qid r.seq
    | none => s1

/-- A failure of a write whose data was acknowledged before: kept for the queue's next probe, the first since the last (R151). -/
def State.keepFail (s : State) (r : RRec) (f : Nat × Nat) : State :=
  if s.tp.wfail.any (fun w => decide (w.src = r.src ∧ w.qid = r.qid ∧ r.src ∉ w.told)) then s
  else { s with tp := { s.tp with wfail := s.tp.wfail ++
    [{ src := r.src, qid := r.qid, slice := r.slice, status := f.1, result := f.2, told := [] }] } }
/-- Commands of this node whose outcome is known and whose records waited for a write into the issuer's own memory go on
(R89). -/
def State.ownFinish (s : State) (src xid qid seq : Nat) : State :=
  ((s.tp.txns.filter (fun t => t.ownWrite src qid seq xid)).map (·.id)).foldl State.tryFinish s

/-- A write of received data has ended (R107, R121, R134, R151, R165): the count is added, and a failure is answered in the ACK,
or kept for the queue's next probe where the data was already acknowledged. -/
def State.rxWritten (s : State) (src qid seq xid idx off n : Nat) (mark : Bool) (fail : Option (Nat × Nat)) : State :=
  match s.findRRec src xid qid seq with
  | none => s.ownFinish src xid qid seq
  | some r =>
    let s1 := s.updRRec src xid qid seq (fun x =>
      { x with wmap := x.wmap ||| 2 ^ idx, bytes := if fail.isSome then x.bytes else x.bytes + n })
    let k := if fail.isNone ∧ mark then s1.cntAdd r.desc.sync r.slice n else (true, s1)
    let bad : Option (Nat × Nat) := match fail with
      | some f => some (f.1, dataResult f.1 r.dst r.desc.rreg (off + f.2) r.bytes)
      | none => if k.1 then none else some (stSLICE, r.dst)
    let s2 := match bad with
      | none => k.2
      | some f =>
        if r.acked then k.2.keepFail r f else k.2.updRRec src xid qid seq (fun x => { x with fail := x.fail <|> some f })
    (if r.complete then s2.ackCheck src xid qid seq else s2).ownFinish src xid qid seq

/-! ### GET and COPY at the node that reads (R102, R113) -/

/-- Packets, in order, whose ranges pass R102 at the holding node, and the first failure. -/
def State.readable (s : State) (p : Pkt) (reg off key tlen port : Nat) (frames data : Bool) (own0 : Bool) :
    Nat × Option Nat :=
  let n := packetCount frames data tlen
  let chk (i : Nat) : Option Nat :=
    let r := packetRange frames data tlen i
    s.regionCheck reg p.h.slice.toNat key port 0 (off + r.1) r.2 own0
  match (List.range n).find? (fun i => (chk i).isSome) with
  | some i => (i, chk i)
  | none => (n, none)

/-- A GET or COPY request cell at the node that reads its data. For a COPY: word 3, SKEY and the final DST of R250. The source
of a COPY sends the data under an XID of its own (R245). DESIGN CHOICE (log entry 111): where some packets of a COPY in cells
fail R102, those that pass are sent as a transfer of their own length, so that their destination can acknowledge them. -/
def State.rxRead (s : State) (e : InEnt) (copy : Bool) : State :=
  let p := e.pkt
  let d := Desc.ofNat p.desc
  let b (o n : Nat) : Nat := bytesNat (slice p.pay o n)
  let dst := p.h.dst.toNat
  let port := epPort dst
  let reg := if copy then nfld (b 24 8) 44 20 else d.rreg
  let off := if copy then nfld (b 24 8) 0 44 else d.roff
  let key := if copy then b 32 2 else d.key
  let own0 := decide (p.h.src.toNat = s.ep 14 ∧ d.qid = 0)
  let frames := inFrames d.tlen p.h.flags.toNat
  let rd := s.readable p reg off key d.tlen port frames (!copy) own0
  let bytes := if rd.1 = 0 then 0 else let r := packetRange frames (!copy) d.tlen (rd.1 - 1); r.1 + r.2
  let pre := rd.2.map (fun st => (st, resReg dst reg bytes))
  let ans (st res : Nat) : State :=
    s.inject e.part (s.ackCell p (if copy then opCOPYRPT else opACK) st p.marks d.qid d.seq 0 res 0) none
  if rd.1 = 0 then ans (rd.2.getD stREGION) (resReg dst reg 0)
  else if port < 12 ∧ !s.up port then ans stUNREACH (resEp dst 0)
  else
    let part := e.chans
    let k := if copy then s.takeXid dst d.qid d.seq else (xidOf p, s)
    let x : Snd :=
      { id := 0, role := if copy then 1 else 2, part, txn := 0, src := dst, dst := if copy then b 34 2 else p.h.src.toNat,
        iss := p.h.src.toNat, slice := p.h.slice.toNat, qid := d.qid, seq := d.seq, xid := k.1, ixid := xidOf p,
        gen := if copy then s.gen part else p.h.gen.toNat, agen := p.h.gen.toNat, reg, flags := p.h.flags.toNat,
        desc := if copy ∧ !frames then { d with tlen := bytes } else d, frames, units := [], loaded := false, pre, start := s.now,
        tto := s.ttoNow, genr := none, marks := p.marks }
    let o := k.2.openSnd x
    let mode : DsMode := if p.flag fACQUIRE then .acquire else if frames then .frame else .cell
    o.2.startRead part port ((s.region reg).base + off) bytes x.slice mode (.sndData o.1)

/-- The report of a sender at a source or destination node to the issuer: COPY_RPT, or the ACK of a GET (R102, R124). -/
def State.report (s : State) (x : Snd) (st res : Nat) : State :=
  let opc := if x.role = 1 then opCOPYRPT else opACK
  let h := s.hdr x.src x.iss x.slice clRSP x.agen opc (8 * x.ixid) 0 0
  s.inject x.part (mkCell h (ackPay st x.marks x.qid x.seq 0 (x.genr.getD 0) res 0)) none

/-! ### ORDERED at the destination (R146) -/

/-- Must a packet wait at this node: is it of an ORDERED command, and has an access of an earlier ORDERED command of its queue,
known by SRC and QID, not been performed yet (R146)? -/
def State.ordHeld (s : State) (p : Pkt) : Bool :=
  let d := Desc.ofNat p.desc
  let src := p.h.src.toNat
  let before (q n fl : Nat) : Bool := decide (q = d.qid) && serialBefore n d.seq && nbit fl fORDERED
  p.flag fORDERED && p.hasDesc && decide (p.opc ∈ [opPUT, opPUTI, opGET, opCOPY, opATOMIC, opSYNCADD, opSYNCSET])
    && (s.tp.rrecs.any (fun r => decide (r.src = src ∧ r.opc ≠ opGETDATA ∧ r.bitmap ≠ r.wmap) && before r.qid r.seq r.flags)
      || s.tp.snds.any (fun x => decide (x.role ≠ 0 ∧ x.iss = src) && !x.loaded && before x.qid x.seq x.flags)
      || s.mv.jobs.any (fun j => match j.cont with
        | .atomic q _ =>
          let e := Desc.ofNat q.desc
          decide (q.h.src = p.h.src) && before e.qid e.seq q.h.flags.toNat
        | _ => false))

end Sys2Proof.Machine
end

