-- ==== Sys2Proof/Machine/Answers.lean ====
section
/-! DEFINITION. What comes back: ends of data moves, ACK, FAIL, COPY_RPT and GET_DATA packets, probes, and the timers of
the transport (spec/03_remote_operations.md R107, R116 to R125, R140; spec/04_memory_model.md R151, R170; R420, R421). -/

namespace Sys2Proof.Machine

/-- Drop a receive record's or sender's partner: the sender `id`. -/
def State.updSnd (s : State) (id : Nat) (f : Snd → Snd) : State :=
  { s with tp := { s.tp with snds := updFirst (fun x => x.id = id) f s.tp.snds } }
/-- Find a sender. -/
def State.findSnd (s : State) (id : Nat) : Option Snd := s.tp.snds.find? (fun x => x.id = id)

/-! ### The data of a sender has been read -/

/-- The source data of a sender has been read, or the read has failed (R102, R113, R133, R420). -/
def State.sndLoaded (s : State) (id : Nat) (data : List Byte) (fail : Option (Nat × Nat)) : State :=
  match s.findSnd id with
  | none => s
  | some x =>
    match fail with
    | some f =>
      if x.role = 0 then
        match s.findTxn x.txn with
        | some t => (s.dropSnd id).endTxn t.id f.1 (dataResult f.1 t.ep t.cmd.lreg f.2 0)
        | none => s.dropSnd id
      else (s.report x f.1 (dataResult f.1 x.src x.reg f.2 0)).dropSnd id
    | none =>
      let crc := (s.findTxn x.txn).bind (fun t => if x.role = 0 then t.crc else none)
      let d := match crc with
        | some k => data ++ natBytes (polyWidth k.2) (crcOf k.2 data)
        | none => data
      let isData := decide (x.role = 2)
      let all := packetCount x.frames isData x.desc.tlen
      let n := match x.pre with
        | none => all
        | some _ => ((List.range all).filter (fun i =>
            let r := packetRange x.frames isData x.desc.tlen i
            decide (r.1 + r.2 ≤ d.length))).length
      let s1 := s.sndStart x opPUT n d
      if x.role = 2 then
        match x.pre with
        | some f => s1.report x f.1 f.2
        | none => if x.frames then s1 else s1.report x stDONE 0
      else s1

/-! ### GET data at the issuer -/

/-- Completion of a GET: every byte that the destination sends has arrived and been written, and for cells or after a
failure the ACK is there (R102, R120). -/
def State.getCheck (s : State) (id : Nat) : State :=
  match s.findTxn id with
  | none => s
  | some t =>
    if t.cmd.opc ≠ opGET ∨ t.stage ≠ .running ∨ t.fstat.isSome then s
    else if t.gotRx < t.expect ∨ t.wrote < t.expect then s
    else match t.relF with
      | some f => s.endTxn id f.2.1 f.2.2
      | none => if inFrames t.cmd.len t.cmd.flags ∨ t.acked then s.endTxn id stDONE t.cmd.len else s

/-- Write bytes of a GET into LREG at `off`. -/
def State.getStore (s : State) (t : Txn) (off idx : Nat) (d : List Byte) : State :=
  s.startWrite (s.tPart t) t.port ((s.region t.cmd.lreg).base + t.cmd.loff + off) d t.slice .direct
    (.getWrite t.id d.length idx off) t.cmd.flags
/-- Write received GET data into LREG in whole units (R144). A packet's end is written alone where no more data is sure to come,
and where R420 has the last bytes written apart. -/
def State.getPut (s : State) (t : Txn) (off idx : Nat) (d : List Byte) : State :=
  let al := ((s.region t.cmd.lreg).base + t.cmd.loff) % 8
  let lim := t.cmd.len - t.crc.elim 0 (fun k => polyWidth k.2)
  let u := unitJoin al t.cmd.len off d t.ends (t.relF.isSome || decide (off = lim)) (t.relF.isSome || decide (off + d.length = lim))
  (s.updTxn t.id (fun x => { x with ends := u.2.2 })).getStore t u.1 idx u.2.1
/-- Write the ends that still wait, where the rest of their units will not come. -/
def State.getFlush (s : State) (id : Nat) : State :=
  match s.findTxn id with
  | none => s
  | some t => t.ends.foldl (fun s x => s.getStore t x.1 999 x.2) (s.updTxn id (fun x => { x with ends := [] }))

/-- The end of a checked GET (R420, R421): the last W bytes are compared, then written as zeros or as received. -/
def State.getCrc (s : State) (t : Txn) (c poly : Nat) : State :=
  let w := polyWidth poly
  let n := t.cmd.len - w
  let got := slice t.getBuf n w
  let off := n
  if crcOf poly (t.getBuf.take n) = bytesNat got then s.getPut t off 999 (zeros w)
  else
    let s1 := s.setReg (.crcVal c) (BitVec.ofNat 64 (nfld (s.reg (.crcVal c)).toNat 0 32 + 1))
    let s2 := s1.updTxn t.id (fun x => { x with relF := some (0, stCHECK, resEp t.ep n) })
    s2.getPut t off 998 got

/-- Data of a GET arrives: bytes `[off, off + d.length)` of the transfer. -/
def State.getTake (s : State) (t : Txn) (off idx : Nat) (d : List Byte) : State :=
  let got (x : Txn) : Txn :=
    { x with gotRx := x.gotRx + d.length, getBuf := if t.crc.isSome then splice x.getBuf off d else x.getBuf }
  let s1 := s.updTxn t.id got
  match t.crc with
  | none => s1.getPut t off idx d
  | some k =>
    let lim := t.cmd.len - polyWidth k.2
    let here := d.take (lim - off)
    let s2 := if here.isEmpty then s1 else s1.getPut t off idx here
    match s2.findTxn t.id with
    | some u => if t.cmd.len ≤ u.gotRx then s2.getCrc u k.1 k.2 else s2
    | none => s2

/-- A write of GET data at `off` has ended (R89, R107, R121, R133, R165). `idx`: its frame; 998 marks the write after a failed
check. -/
def State.getWritten (s : State) (id n idx off : Nat) (fail : Option (Nat × Nat)) : State :=
  match s.findTxn id with
  | none => s
  | some t =>
    let s0 := s.updRRec t.cmd.dst t.xid t.qid t.seq (fun r => if idx < 128 then { r with wmap := r.wmap ||| 2 ^ idx } else r)
    match fail with
    | some f => s0.endTxn id f.1 (dataResult f.1 t.ep t.cmd.lreg (off + f.2) t.wrote)
    | none =>
      let s1 := s0.updTxn id (fun x => { x with wrote := x.wrote + n })
      let k := if t.cmd.flag fCNT ∧ idx ≠ 998 then s1.cntAdd t.cmd.sync t.slice n else (true, s1)
      let s2 := if k.1 then k.2 else k.2.endTxn id stSLICE t.cmd.dst
      let s3 := if nbit t.cmd.flags fCOMPLETE then s2.ackCheck t.cmd.dst t.xid t.qid t.seq else s2
      (s3.getCheck id).tryFinish id

/-- Is the GEN of an answer the one the command went with, and still the current one of its queue's partition (R129)? It is not
checked on answers to queue 0 (R240). -/
def State.genOk (s : State) (t : Txn) (p : Pkt) : Bool :=
  decide (t.qid = 0 ∨ (t.gen = p.h.gen.toNat ∧ t.gen = s.gen (portPart t.port)))
/-- The accepted GET a GET_DATA cell or frame belongs to (R245): tag, endpoints, generation, and for a frame QID and
SEQ. -/
def State.getOwner (s : State) (p : Pkt) : Option Txn :=
  let d := Desc.ofNat p.ext.toNat
  s.tp.txns.find? (fun t => decide (t.cmd.opc = opGET ∧ t.stage = .running ∧ t.xid = xidOf p ∧ t.ep = p.h.dst.toNat
    ∧ t.cmd.dst = p.h.src.toNat)
    && (if p.isFrame then decide (cidxOf p = 0 ∧ t.qid = d.qid ∧ t.seq = d.seq)
        else decide (cidxOf p < packetCount false true t.cmd.len)) && s.genOk t p)

/-- GET_DATA at the issuing node. -/
def State.rxGetData (s : State) (e : InEnt) : State :=
  let p := e.pkt
  match s.getOwner p with
  | none => s
  | some t =>
    if p.isFrame ∧ p.e2e ≠ p.e2eOf ∧ !e.struck then s.e2eFail
    else if t.cmd.flag fCNT ∧ !s.syncOwned t.cmd.sync t.slice then s.endTxn t.id stSLICE t.cmd.dst
    else if p.isFrame then
      let d := Desc.ofNat p.desc
      let src := p.h.src.toNat
      let s1 := s.openRRec e src t.xid t.qid t.seq
      match s1.findRRec src t.xid t.qid t.seq with
      | none => s1
      | some r =>
        if nbit r.bitmap d.fidx then s1.rxAgain r p
        else
          let m := s1.edgeMarked p
          let s2 := m.2.updRRec src t.xid t.qid t.seq (fun x =>
            { x with bitmap := x.bitmap ||| 2 ^ d.fidx, marks := x.marks + m.1.marks })
          if e.secondBad t.cmd.flags then s2.endTxn t.id stCHECK (resEp t.ep (8192 * d.fidx))
          else (s2.getTake t (8192 * d.fidx) d.fidx p.pay).ackCheck src t.xid t.qid t.seq
    else
      let r := packetRange false true t.cmd.len (cidxOf p)
      let s1 := (s.edgeMarked p).2.getTake t r.1 (cidxOf p) (p.pay.take r.2)
      s1.getCheck t.id

/-! ### ACK at a sender or issuer (R122, R245, R496) -/

/-- Frame bytes that a bitmap of acknowledged frames covers. -/
def coveredBytes (len bm : Nat) : Nat := sumBy (fun i => (packetRange true false len i).2) (bitsOf bm (cdiv len 8192))

/-- Mark the frames of a bitmap as acknowledged. -/
def Snd.ackUnits (bm : Nat) (x : Snd) : Snd :=
  { x with units := x.units.map (fun u => if nbit bm u.idx then { u with st := 2 } else u) }
/-- Every packet acknowledged. -/
def Snd.done (x : Snd) : Bool := x.units.all (fun u => decide (u.st = 2))

/-- The sender at a source or destination node that an ACK answers (R245). -/
def State.ackSnd (s : State) (p : Pkt) (a : Ack) : Option Snd :=
  s.tp.snds.find? (fun x => decide (x.role ≠ 0 ∧ cidxOf p = 0 ∧ x.xid = xidOf p ∧ x.qid = a.qid ∧ x.seq = a.seq
    ∧ x.src = p.h.dst.toNat ∧ x.dst = p.h.src.toNat ∧ x.gen = p.h.gen.toNat))

/-- The accepted command that an answer belongs to (R129, R245). -/
def State.ackTxn (s : State) (p : Pkt) (a : Ack) : Option Txn :=
  s.tp.txns.find? (fun t => decide (cidxOf p = 0 ∧ t.xid = xidOf p ∧ t.qid = a.qid ∧ t.seq = a.seq ∧ t.ep = p.h.dst.toNat)
    && s.genOk t p)

/-- An ACK for a COPY source or a GET sender. -/
def State.ackAtSnd (s : State) (x : Snd) (a : Ack) : State :=
  let s0 := s.rateMarked x.slice x.dst a.marks
  let stale : Bool := x.frames && x.role = 1 && (match x.genr with | some g => decide (g ≠ a.genr) | none => false)
  let upd (y : Snd) : Snd := { y with genr := y.genr <|> some a.genr, marks := y.marks + a.marks }
  if stale then
    let bytes := if nbit x.flags fCOMPLETE then coveredBytes x.desc.tlen a.bitmap else 0
    (s0.report { x with genr := some a.genr } stGENSTALE (resEp x.src bytes)).dropSnd x.id
  else if a.status ≠ stDONE then
    let s1 := s0.dropSnd x.id
    if x.role = 1 then s1.report (upd x) a.status a.result else s1
  else
    let y := if x.frames then (upd x).ackUnits a.bitmap else { upd x with units := x.units.map (fun u => { u with st := 2 }) }
    if y.done then
      let s1 := s0.dropSnd x.id
      if x.role = 1 then
        match x.pre with
        | some f => s1.report y f.1 f.2
        | none => s1.report y stDONE x.desc.tlen
      else s1
    else s0.updSnd x.id (fun _ => y)

/-- An ACK for a command at its issuer. The rate law is for the node that sent the data (R384): not the issuer of a GET or a COPY. -/
def State.ackAtTxn (s : State) (t : Txn) (p : Pkt) (a : Ack) : State :=
  let c := t.cmd
  let s0 := if c.opc = opGET ∨ c.opc = opCOPY then s else s.rateMarked t.slice p.h.src.toNat a.marks
  let s1 := s0.updTxn t.id (fun x => { x with cmb := x.cmb || p.flag fMRG })
  if t.stage = .held then
    -- a probe's answer (R151, R152)
    let d := p.h.src.toNat
    let fail := if a.status = stDONE ∨ t.relF.isSome then t.relF else some (2 ^ 64, a.status, a.result)
    let s2 := s1.updTxn t.id (fun x => { x with probes := x.probes.filter (· ≠ d), relF := fail })
    { s2 with tp := { s2.tp with dirty := s2.tp.dirty.filter (fun x => !decide (x.1 = t.qid ∧ x.2.1 = d ∧ x.2.2 < t.probed)) } }
  else if t.stage ≠ .running then s
  else if c.opc = opGET then
    if a.status = stDONE then (s1.updTxn t.id (fun x => { x with acked := true })).getCheck t.id
    else if a.status = stREGION ∨ a.status = stKEY then
      ((s1.updTxn t.id (fun x => { x with
        acked := true, expect := nfld a.result 40 24, relF := some (0, a.status, a.result) })).getFlush t.id).getCheck t.id
    else s1.endTxn t.id a.status a.result
  else if (c.opc = opPUT ∨ c.opc = opPUTI) ∧ inFrames c.len c.flags then
    if (match t.genr with | some g => decide (g ≠ a.genr) | none => false) then
      s1.endTxn t.id stGENSTALE (resEp c.dst (if c.flag fCOMPLETE then coveredBytes c.len a.bitmap else 0))
    else if a.status ≠ stDONE then s1.endTxn t.id a.status a.result
    else
      let s2 := s1.updTxn t.id (fun x => { x with
        genr := some a.genr, perf := if c.flag fCOMPLETE then coveredBytes c.len a.bitmap else 0 })
      let s3 := { s2 with tp := { s2.tp with
        snds := updFirst (fun x => decide (x.role = 0 ∧ x.txn = t.id)) (Snd.ackUnits a.bitmap) s2.tp.snds } }
      if s3.tp.snds.any (fun x => decide (x.role = 0 ∧ x.txn = t.id) && !x.done) then s3
      else s3.endTxn t.id stDONE c.len
  else if a.status ≠ stDONE then s1.endTxn t.id a.status a.result
  else if c.opc = opATOMIC then s1.endTxn t.id stDONE (if nbit c.subop 7 then a.result else 0)
  else if c.opc = opSYNCWAIT then s1.endTxn t.id stDONE a.result
  else if c.opc = opSYNCADD ∨ c.opc = opSYNCSET then s1.endTxn t.id stDONE 0
  else s1.endTxn t.id stDONE c.len

/-- An ACK delivered to this node (R122, R245). -/
def State.rxAck (s : State) (p : Pkt) : State :=
  let a := Ack.ofPkt p
  match s.ackTxn p a with
  | some t => s.ackAtTxn t p a
  | none =>
    match s.ackSnd p a with
    | some x => s.ackAtSnd x a
    | none => s

/-- COPY_RPT at the issuer: the COPY ends with its status (R102, R251). Its MARKS are not for the rate law: the source, which sent the
data, has acted on them, and R384 is for that node (log entry 121). -/
def State.rxCopyRpt (s : State) (p : Pkt) : State :=
  let a := Ack.ofPkt p
  match s.ackTxn p a with
  | none => s
  | some t =>
    if t.cmd.opc ≠ opCOPY ∨ t.stage ≠ .running then s
    else
      if a.status = stDONE then s.endTxn t.id stDONE t.cmd.len else s.endTxn t.id a.status a.result

/-! ### FAIL (R124) -/

/-- Is a packet pinned (R352)? -/
def State.pinned (s : State) (p : Pkt) : Bool :=
  !p.flag fMC && (p.flag fORDERED || nbit (s.sliceHdr p.h.ep.toNat p.h.slice.toNat) 1 || decide (p.cls = clMGT))

/-- RESULT of a command that a FAIL ends (R84, R124). -/
def failResult (st dst result perf : Nat) : Nat :=
  if st = stSLICE then dst % 2 ^ 16 else if st = stQUAR then result % 16 else resEp result perf

/-- A FAIL for a frame of a sender: does it end the transfer at once (R124)? -/
def State.failEnds (s : State) (x : Snd) (p : Pkt) (a : Ack) : Bool :=
  decide (a.status = stSLICE ∨ a.status = stQUAR ∨ epNode p.h.src.toNat = epNode x.dst)
    || (x.units.any (fun u => decide (u.idx = a.fidx) && s.pinned u.pkt))

/-- A FAIL for a later cell of a PUT or PUT_INLINE, or of COPY data, which names no QID and SEQ (log entry 106): the command or
sender is known by the TAG, and ends at once. -/
def State.rxFailCell (s : State) (p : Pkt) : State :=
  let a := Ack.ofPkt p
  let dst := p.h.dst.toNat
  match s.tp.txns.find? (fun t => decide (t.cmd.opc = opPUT ∨ t.cmd.opc = opPUTI) && !inFrames t.cmd.len t.cmd.flags
      && decide (t.stage = .running ∧ t.xid = xidOf p ∧ t.ep = dst ∧ cidxOf p < putCells t.cmd.len) && s.genOk t p) with
  | some t => s.endTxn t.id a.status (failResult a.status t.cmd.dst a.result t.perf)
  | none =>
    match s.tp.snds.find? (fun x => decide (x.role = 1 ∧ x.xid = xidOf p ∧ x.src = dst ∧ x.gen = p.h.gen.toNat) && !x.frames) with
    | some x => (s.dropSnd x.id).report x a.status (failResult a.status x.dst a.result 0)
    | none => s

/-- A FAIL cell that names its command, delivered to this node (R124, R245). -/
def State.rxFailNamed (s : State) (p : Pkt) : State :=
  let a := Ack.ofPkt p
  let bad (u : SUnit) : SUnit := if u.idx = a.fidx ∧ u.st = 1 then { u with fail := true } else u
  let mine (x : Snd) : Bool :=
    decide (x.xid = xidOf p ∧ x.qid = a.qid ∧ x.seq = a.seq ∧ x.src = p.h.dst.toNat ∧ x.gen = p.h.gen.toNat)
  match s.tp.snds.find? (fun x => mine x && x.frames) with
  | some x =>
    if s.failEnds x p a then
      let s1 := s.dropSnd x.id
      if x.role = 0 then
        match s1.findTxn x.txn with
        | some t => s1.endTxn t.id a.status (failResult a.status t.cmd.dst a.result t.perf)
        | none => s1
      else s1.report x a.status (failResult a.status x.dst a.result 0)
    else s.updSnd x.id (fun y => { y with units := y.units.map bad })
  | none =>
    match s.ackTxn p a with
    | some t =>
      if t.stage = .held then
        -- a probe was refused on its way (R124)
        s.updTxn t.id (fun x => { x with probes := [], relF := x.relF <|> some (2 ^ 64, a.status, failResult a.status t.cmd.dst a.result 0) })
      else if t.stage ≠ .running then s
      else (s.updTxn t.id (fun x => { x with cmb := x.cmb || p.flag fMRG })).endTxn t.id a.status
        (failResult a.status t.cmd.dst a.result t.perf)
    | none =>
      match s.tp.snds.find? mine with
      | some x => (s.dropSnd x.id).report x a.status (failResult a.status x.dst a.result 0)
      | none => s
/-- A FAIL cell delivered to this node (R124, R245). -/
def State.rxFail (s : State) (p : Pkt) : State := if cidxOf p = 0 then s.rxFailNamed p else s.rxFailCell p

/-! ### Atomics at the destination (R107, R110, R121) -/

/-- An ATOMIC cell at the atomic unit. -/
def State.rxAtomic (s : State) (e : InEnt) : State :=
  let p := e.pkt
  let d := Desc.ofNat p.desc
  let sub := bytesNat (slice p.pay 20 1)
  let n := atomicLen (sub % 16)
  match s.destFail p d 2 0 n 0 with
  | some f => s.ackReq e.part p f.1 f.2
  | none =>
    let m := s.edgeMarked p
    m.2.startAtomic e.chans (epPort p.h.dst.toNat) ((s.region d.rreg).base + d.roff) n sub (bytesNat (slice p.pay 24 8))
      (bytesNat (slice p.pay 32 8)) p.h.slice.toNat p.h.flags.toNat (.atomic m.1 e.part)

/-- An atomic has been answered: the count is added, then the cell acknowledged (R107, R121, R165). -/
def State.atomicDone (s : State) (p : Pkt) (part : Nat) (old : List Byte) (fail : Option (Nat × Nat)) : State :=
  let d := Desc.ofNat p.desc
  let sub := bytesNat (slice p.pay 20 1)
  let s1 := (s.suspDone part p.h.src.toNat d.qid).advance part syATU 0
  match fail with
  | some f => s1.ackReq part p f.1 (dataResult f.1 p.h.dst.toNat d.rreg 0 0)
  | none =>
    let k := if p.flag fMRG then bytesNat (slice p.pay 21 1) else 1
    let c := if p.flag fCNT then s1.cntAdd d.sync p.h.slice.toNat k else (true, s1)
    if c.1 then c.2.ackReq part p stDONE (if nbit sub 7 then bytesNat old else 0)
    else c.2.ackReq part p stSLICE p.h.dst.toNat

/-! ### Merged cells (R140, R383) -/

/-- An answer to a merged cell reaches the node that merged it: one ACK to each contributor but the first, whose cell
went on and whose acknowledgement goes on. -/
def State.fanOut (s : State) (n : Nat) (p : Pkt) : State :=
  let a := Ack.ofPkt p
  let mine (m : Merged) : Bool := decide (p.opc = opACK ∧ m.src = p.h.dst ∧ xidOf p = m.tag.toNat / 8 ∧ m.qid = a.qid ∧ m.seq = a.seq)
  match s.sw.merged.find? mine with
  | none => s
  | some m =>
    let s1 := { s with sw := { s.sw with merged := dropFirst mine s.sw.merged } }
    m.list.foldl (fun s c =>
      let h := s.hdr p.h.src.toNat c.src.toNat c.slice.toNat clRSP c.gen.toNat opACK (c.tag.toNat / 8 * 8) 0 (2 ^ fMRG)
      s.inject n (mkCell h (ackPay a.status a.marks c.qid c.seq 0 0 a.result 0)) none) s1

/-! ### Probes (R151) -/

/-- Has every write received from a queue been performed? COPY data comes under the endpoint of its source, so every PUT of the
queue's number counts (log entry 112). -/
def State.performed (s : State) (src qid : Nat) : Bool :=
  s.tp.rrecs.all (fun r => !(decide (r.qid = qid) && (decide (r.src = src) || decide (r.opc = opPUT)))
    || decide (r.bitmap = r.wmap) || decide (r.opc = opGETDATA))
  && !s.mv.jobs.any (fun j => match j.cont with | .rxWrite _ q _ _ _ _ _ _ => decide (q = qid) | _ => false)

/-- Answer a probe: the first failure since the last answer to that queue, or DONE. A failure under another endpoint is taken
for one of the queue's COPY data where QID and slice agree, and the queue has no failure of its own (log entry 112). -/
def State.answerProbe (s : State) (e : InEnt) : State :=
  let p := e.pkt
  let d := Desc.ofNat p.desc
  let src := p.h.src.toNat
  let own (w : WFail) : Bool := decide (w.src = src ∧ w.qid = d.qid ∧ src ∉ w.told)
  let copied (w : WFail) : Bool := decide (w.src ≠ src ∧ w.qid = d.qid ∧ w.slice = p.h.slice.toNat ∧ src ∉ w.told)
  match s.tp.wfail.find? own <|> s.tp.wfail.find? copied with
  | some w =>
    State.ackReq { s with tp := { s.tp with
      wfail := updAll (fun x => decide (x = w)) (fun x => { x with told := x.told ++ [src] }) s.tp.wfail } } e.part p w.status w.result
  | none => s.ackReq e.part p stDONE 0

/-- A probe arrives: answered at once, or kept until the writes are performed. -/
def State.rxProbe (s : State) (e : InEnt) : State :=
  let d := Desc.ofNat e.pkt.desc
  if s.performed e.pkt.h.src.toNat d.qid then s.answerProbe e
  else { s with tp := { s.tp with probes := s.tp.probes ++ [e] } }

/-- The first kept probe whose writes have all been performed. -/
def State.probeReady (s : State) : State :=
  let ok (e : InEnt) : Bool := s.performed e.pkt.h.src.toNat (Desc.ofNat e.pkt.desc).qid
  match s.tp.probes.find? ok with
  | none => s
  | some e => State.answerProbe { s with tp := { s.tp with probes := dropFirst ok s.tp.probes } } e

/-! ### Timers -/

/-- Retransmit frame `i` of sender `id` one RTI after its last transmission, within the transport timeout (R117, R124). -/
def State.retransmit (s : State) (id i : Nat) : State :=
  match s.findSnd id with
  | none => s
  | some x =>
    if x.role ≠ 0 ∧ x.start + x.tto ≤ s.now then s.dropSnd id
    else match x.units.find? (fun u => decide (u.idx = i)) with
      | none => s
      | some u =>
        if u.st = 1 ∧ x.frames ∧ s.due u.at' s.rtiNow ∧ s.now < x.start + x.tto then
          let q := { u.pkt with h := { u.pkt.h with ep := BitVec.ofNat 1 s.active } }
          let q1 := { q with e2e := q.e2eOf }
          (s.updSnd id (fun y => { y with units := y.units.map (fun v =>
            if v.idx = i then { v with pkt := q1, at' := s.now, fail := false } else v) })).send x.part q1
        else s

/-- The transport timer of a command reaches TTO (R122, R124). -/
def State.transportOut (s : State) (id : Nat) : State :=
  match s.findTxn id with
  | none => s
  | some t =>
    if t.cmd.opc ∈ [opSYNCWAIT, opFENCE, opGALC, opCOMB, opKVR] ∨ t.fstat.isSome ∨ !s.due t.acc t.tto then s
    else
      let refused := s.tp.snds.any (fun x => decide (x.role = 0 ∧ x.txn = id) && x.units.any (fun u => decide (u.st = 1) && u.fail))
      s.endTxn id (if refused then stUNREACH else stTRANSTO) (resEp t.cmd.dst t.perf)

/-- A SYNC_WAIT without an answer 1 µs past its deadline (R170). -/
def State.waitOut (s : State) (id : Nat) : State :=
  match s.findTxn id with
  | none => s
  | some t =>
    if t.cmd.opc ≠ opSYNCWAIT ∨ t.fstat.isSome ∨ s.fnow < t.accFt + us t.cmd.wto + us 1 then s
    else s.endTxn id stTRANSTO (resEp t.cmd.dst 0)

/-- The acknowledgement that has been due longest is sent (R116). -/
def State.ackDelay (s : State) : State :=
  match s.tp.rrecs.find? (fun r => r.ackDue.isSome) with
  | none => s
  | some r => s.ackRec r

/-- Receive records are dropped one transport timeout plus 2 ms after their first packet (R118). -/
def State.rrecExpire (s : State) : State :=
  { s with tp := { s.tp with rrecs := s.tp.rrecs.filter (fun r => !s.due r.first (s.ttoNow + ms 2)) } }

/-- Cells held for their cell 0 are dropped at the cell lifetime of 200 µs (R249, R328, R329). -/
def State.heldExpire (s : State) : State :=
  { s with tp := { s.tp with held := s.tp.held.filter (fun h => !s.aged h.2 false) } }

end Sys2Proof.Machine
end

