-- ==== Sys2Proof/Machine/Seal.lean ====
section
/-! DEFINITION. Link sealing and the opening of weight frames (spec/16_security.md R520 to R526, R531). -/

namespace Sys2Proof.Machine

/-- A key slot; a slot never loaded is empty (R510). -/
def State.keySlot (s : State) (k : Nat) : KSlot :=
  ((s.sec.keys.find? (fun x => x.1 = k)).map (·.2)).getD { p0 := none, p1 := none, tx := none, salt := 0 }
/-- Key of a phase. -/
def KSlot.key (x : KSlot) (ph : Bool) : Option (BitVec 256) := if ph then x.p1 else x.p0
/-- Key slots in slot order. -/
def State.setKeySlot (s : State) (k : Nat) (f : KSlot → KSlot) : State :=
  { s with sec := { s.sec with keys := sinsert k (f (s.keySlot k)) (serase s.sec.keys k) } }

/-- Direction d of a packet sent on port `c`, and of one received there (R520). -/
abbrev dirTx (c : Nat) : Nat := if c < 12 then 2 else c % 2
abbrev dirRx (c : Nat) : Nat := if c < 12 then 3 else 1 - c % 2

/-- The next record number of a slot, phase, port and direction (R524). -/
def State.recNo (s : State) (slot : Nat) (ph : Bool) (c : Nat) (rx : Bool) : Nat :=
  ((s.sec.recno.find? (fun x => decide (x.slot = slot ∧ x.ph = ph ∧ x.port = c ∧ x.rx = rx))).map (fun x => x.n)).getD 0
/-- Set it. -/
def State.setRecNo (s : State) (slot : Nat) (ph : Bool) (c : Nat) (rx : Bool) (n : Nat) : State :=
  let rest := s.sec.recno.filter (fun x => !decide (x.slot = slot ∧ x.ph = ph ∧ x.port = c ∧ x.rx = rx))
  { s with sec := { s.sec with recno := rest ++ [{ slot, ph, port := c, rx, n }] } }

/-- The IV of a record (R524). -/
def sealIv (node port : Nat) (endpoint : Bool) (rn : Nat) : BitVec 96 :=
  BitVec.ofNat 96 (node <<< 84 + port <<< 79 + endpoint.toNat <<< 78 + rn % 2 ^ 64)

/-- Header bytes and sealed bytes of a packet (R523): bytes 12 to L − 5. -/
def Pkt.head (p : Pkt) : List Byte := p.body.take 12
def Pkt.inner (p : Pkt) : List Byte := p.body.drop 12
/-- A packet as sent with its inner bytes replaced: the link CRC covers it as sent (R261). -/
def sealedBytes (p : Pkt) (ct : List Byte) : List Byte :=
  let b := p.head ++ ct
  b ++ natBytes 4 (crc32c b).toNat

/-- The two SEAL blocks of a record (R523); the tag is the leftmost 96 bits. -/
def sealBlocks (ph : Bool) (rn : Nat) (tag : BitVec 128) : List (BitVec 64) :=
  let t := tag.toNat / 2 ^ 32
  (List.range 2).map (fun h =>
    BitVec.ofNat 64 (0x70 + h <<< 8 + ph.toNat <<< 9 + (rn % 64) <<< 10 + (nfld t (48 * h) 48) <<< 16))

/-- Slot and phase that would seal a packet of slice `sl` on port `c` (R520, R526): none where it may not be sealed. -/
def State.sealPhase (s : State) (c sl : Nat) : Option (Nat × Bool × BitVec 256) :=
  let k := 4 * sl + dirTx c
  let x := s.keySlot k
  x.tx.bind (fun ph => (x.key ph).bind (fun key => if s.recNo k ph c false < 2 ^ 63 then some (k, ph, key) else none))
/-- May a packet leave on port `c`: in clear, or sealed (R521, R526)? -/
def State.canSeal (s : State) (c sl : Nat) : Bool := !s.conf sl || (s.sealPhase c sl).isSome

/-- A record begins: its number is used up, and WARN is set at 2^40 (R524, R526). -/
def State.useRecNo (s : State) (k : Nat) (ph : Bool) (c : Nat) : State :=
  let n := s.recNo k ph c false + 1
  let s1 := s.setRecNo k ph c false n
  if 2 ^ 40 ≤ n then s1.setFld (.slice (k / 4)) ⟨4 * (k % 4) + 3, 1⟩ 1 else s1

/-- Close the open cell record of a port: its SEAL blocks go out (R523). -/
def State.closeRec (s : State) (c : Nat) : State :=
  match s.sw.opens.find? (fun x => x.port = c) with
  | none => s
  | some r =>
    let s1 := { s with sw := { s.sw with opens := s.sw.opens.filter (fun x => x.port ≠ c) } }
    match (s.keySlot (4 * r.slice + dirTx c)).key r.ph with
    | none => s1
    | some key =>
      let ps := r.cells.map (·.2)
      let g := gcm key (sealIv s.node c false r.rn) (ps.flatMap Pkt.head) (ps.flatMap Pkt.inner) true
      (sealBlocks r.ph r.rn g.2).foldl (fun s b => s.linkEmit c (.ctl c b)) s1

/-- Send the bytes of a packet on a port with its LSEQ, sealed where its slice is confidential (R521, R523): a frame is a
record of its own; a cell joins the open record or begins one. A packet that cannot be sealed is discarded (R526). -/
def State.linkSend (s : State) (c lseq : Nat) (p : Pkt) : State :=
  let sl := p.h.slice.toNat
  let joins (r : OpenRec) : Bool := decide (r.port = c ∧ r.slice = sl) && !p.isFrame && s.conf sl
  let s0 := if s.sw.opens.any joins then s else s.closeRec c
  if !s.conf sl then s0.linkEmit c (.pkt c lseq p.bytes)
  else match s0.sw.opens.find? joins with
    | some r =>
      match (s.keySlot (4 * sl + dirTx c)).key r.ph with
      | none => { s0 with sw := { s0.sw with opens := s0.sw.opens.filter (fun x => x.port ≠ c) } }
      | some key =>
        let cells := r.cells ++ [(lseq, p)]
        let ps := cells.map (·.2)
        let ct := (gcm key (sealIv s.node c false r.rn) [] (ps.flatMap Pkt.inner) true).1
        let s1 := s0.linkEmit c (.pkt c lseq (sealedBytes p (ct.drop (48 * r.cells.length))))
        let s2 := { s1 with sw := { s1.sw with opens := updFirst joins (fun x => { x with cells }) s1.sw.opens } }
        if cells.length = 4 then s2.closeRec c else s2
    | none =>
      match s0.sealPhase c sl with
      | none => s0.count .secStat secStat_UNSEAL 1
      | some k =>
        let rn := s0.recNo k.1 k.2.1 c false
        let s1 := s0.useRecNo k.1 k.2.1 c
        let g := gcm k.2.2 (sealIv s.node c false rn) p.head p.inner true
        let s2 := s1.linkEmit c (.pkt c lseq (sealedBytes p g.1))
        if p.isFrame then (sealBlocks k.2.1 rn g.2).foldl (fun s b => s.linkEmit c (.ctl c b)) s2
        else { s2 with sw := { s2.sw with opens := s2.sw.opens ++ [{ port := c, slice := sl, ph := k.2.1, rn, cells := [(lseq, p)] }] } }

/-- Link CRC of arriving bytes, over the packet as sent (R261). -/
def linkCrcOk (l : List Byte) : Bool :=
  let n := l.length - 4
  decide (4 < l.length) && decide (bytesNat (l.drop n) = (crc32c (l.take n)).toNat)

/-- Slice of arriving bytes. -/
def sliceOfBytes (l : List Byte) : Nat := (Hdr.ofBits (BitVec.ofNat 96 (bytesNat (l.take 12)))).slice.toNat

/-- Open a sealed record that arrived on port `c` (R523 to R525): the packets in clear, each with a link CRC made again for
the bytes in clear, and the state with the expected record number moved on; `none` where verification fails. -/
def State.unseal (s : State) (c : Nat) (pkts : List (List Byte)) (t : SealTag) : Option (List (List Byte) × State) :=
  let sl := sliceOfBytes (pkts.headD [])
  let k := 4 * sl + dirRx c
  let ok := s.conf sl && pkts.all (fun l => decide (sliceOfBytes l = sl ∧ 16 ≤ l.length)) && decide (pkts.length ≤ 4)
  match (s.keySlot k).key t.ph with
  | none => none
  | some key =>
    let want := s.recNo k t.ph c true
    let rn := want + (t.rn.toNat + 64 - want % 64) % 64
    let node := if c < 12 then s.node else s.fld (statReg c) portStat_PEER
    let port := if c < 12 then c else if c % 2 = 0 then c + 1 else c - 1
    let iv := sealIv node port (decide (c < 12)) rn
    let inner (l : List Byte) : List Byte := (l.take (l.length - 4)).drop 12
    let ct := pkts.flatMap inner
    let g := gcm key iv (pkts.flatMap (fun l => l.take 12)) ct false
    if ok ∧ g.2.toNat / 2 ^ 32 = t.tag.toNat then
      let go := pkts.foldl (fun (a : List (List Byte) × List Byte) l =>
        let n := (inner l).length
        let b := l.take 12 ++ a.2.take n
        (a.1 ++ [b ++ natBytes 4 (crc32c b).toNat], a.2.drop n)) ([], g.1)
      some (go.1, s.setRecNo k t.ph c true (rn + 1))
    else none

/-! ### Weight fan-out (R531) -/

/-- The content slot bound to a gallery of a slice. -/
def State.wfanOf (s : State) (g sl : Nat) : Option Nat :=
  (List.range 16).find? (fun j => decide (s.fld (.wfan j) wfan_V = 1 ∧ s.fld (.wfan j) wfan_GAL = g
    ∧ s.fld (.wfan j) wfan_SLICE = sl))

/-- Open the payload of a frame for a member: the plaintext with its last 16 bytes zero, or `none` where the tag fails. -/
def State.openWeight (s : State) (j : Nat) (x : GExt) (pay : List Byte) : Option (List Byte) :=
  let k := s.keySlot (256 + j)
  match k.p0 with
  | none => none
  | some key =>
    let n := pay.length - 16
    let iv := BitVec.ofNat 96 (k.salt.toNat <<< 64 + (x.gal % 4096) <<< 52 + (x.sgen % 256) <<< 44 + (x.chunk % 2 ^ 24) <<< 20)
    let g := gcm key iv (natBytes 8 (x.toNat % 2 ^ 58)) (pay.take n) false
    if 16 ≤ pay.length ∧ g.2.toNat = beNat ((pay.drop n).map (·.toNat)) then some (g.1 ++ zeros 16) else none

end Sys2Proof.Machine
end

