-- ==== Sys2Proof/Machine/Route.lean ====
section
/-! DEFINITION. The torus as a node sees it: distances, the escape port, the dateline, and a packet on its way out
(spec/10_routing.md R350 to R355). -/

namespace Sys2Proof.Machine

/-- Size, own coordinate and a destination's coordinate on axis `a` (0 X, 1 Y, 2 Z). -/
def State.axisSize (s : State) (a : Nat) : Nat :=
  s.fld .node (if a = 0 then node_NXM1 else if a = 1 then node_NYM1 else node_NZM1) + 1
def coord (a j : Nat) : Nat := nfld j (8 - 4 * a) 4
/-- Distance in the + direction. -/
def State.dplus (s : State) (a j : Nat) : Nat := (coord a j + s.axisSize a - coord a s.node) % s.axisSize a
/-- Is torus port `t` (0 X+ to 5 Z−) productive toward node `j`? -/
def State.productive (s : State) (j t : Nat) : Bool :=
  let d := s.dplus (t / 2) j
  let m := s.axisSize (t / 2) - d
  decide (d ≠ 0) && (if t % 2 = 0 then decide (d ≤ m) else decide (m ≤ d))
/-- The flow hash (R350). -/
def State.flowHash (s : State) (p : Pkt) : Nat :=
  (crc32c (natBytes 2 p.h.dst.toNat ++ natBytes 2 p.h.src.toNat ++ natBytes 1 p.h.slice.toNat ++ [0#8]
    ++ natBytes 2 (s.seed p.h.ep.toNat))).toNat
/-- The escape port toward the packet's node, 0 to 5 (R351); none where the entry names none. -/
def State.escape (s : State) (p : Pkt) : Option Nat :=
  let j := epNode p.h.dst.toNat
  let esc := nfld (s.nodeEntry p.h.ep.toNat j) 1 5
  if 12 ≤ esc ∧ esc ≤ 17 then some (esc - 12)
  else if esc = 31 then
    ((List.range 3).find? (fun a => decide (s.dplus a j ≠ 0))).map (fun a =>
      if s.productive j (2 * a) ∧ s.productive j (2 * a + 1) then 2 * a + (nbit (s.flowHash p) a).toNat
      else if s.productive j (2 * a) then 2 * a else 2 * a + 1)
  else none
/-- Does a hop on torus port `t` cross the dateline of its axis? -/
def State.crosses (s : State) (t : Nat) : Bool :=
  let a := t / 2
  if t % 2 = 0 then decide (coord a s.node + 1 = s.axisSize a) else decide (coord a s.node = 0)
/-- A packet as it leaves on torus port `t` (R240, R355). `dl`: the DL it has so far in that direction. -/
def State.onTorus (s : State) (t dl : Nat) (p : Pkt) : Pkt :=
  { p with h := { p.h with dl := BitVec.ofNat 1 (if s.crosses t then 1 else dl), hop := p.h.hop + 1 } }
/-- The port opposite a torus port on its axis (R355). -/
abbrev opposite (c : Nat) : Nat := if c % 2 = 0 then c + 1 else c - 1

end Sys2Proof.Machine
end

