-- ==== Sys2Proof/Machine/Gallery.lean ====
section
/-! DEFINITION. Galleries: descriptors, entries, folding, emission, delivery, and the end of a step
(spec/05_galleries.md R180 to R206, R576; R209 to R236 through Num). -/

namespace Sys2Proof.Machine

/-! ### Entries (R186, R187) -/

/-- A sequencer entry: action, first chunk, chunk count, operand word. -/
structure GEntry where
  act : Nat
  chunk : Nat
  ccnt : Nat
  w1 : Nat
  deriving DecidableEq, Repr

/-- Read an entry (R186). -/
def GEntry.ofWords (a b : Nat) : GEntry := { act := nfld a 0 4, chunk := nfld a 8 24, ccnt := nfld a 32 24, w1 := b }
/-- Entry `e` of a gallery's range. -/
def State.gentry (s : State) (d : GDef) (e : Nat) : GEntry :=
  GEntry.ofWords (s.reg (.seq d.part (d.entry + e) 0)).toNat (s.reg (.seq d.part (d.entry + e) 1)).toNat
/-- All entries of a gallery's range. -/
def State.gentries (s : State) (d : GDef) : List GEntry := (List.range d.nent).map (s.gentry d)

/-! Action codes (R187). -/
abbrev actNOP : Nat := 0
abbrev actREDUCE : Nat := 1
abbrev actWAIT : Nat := 2
abbrev actSENDUP : Nat := 3
abbrev actMCAST : Nat := 4
abbrev actFORWARD : Nat := 5
abbrev actDISPATCH : Nat := 6
abbrev actDSWRITE : Nat := 7
abbrev actDSREAD : Nat := 8
abbrev actSYNCADD : Nat := 9
abbrev actADVANCE : Nat := 10

/-- Does an entry name chunk `j`? -/
def GEntry.names (x : GEntry) (j : Nat) : Bool := decide (x.chunk ≤ j ∧ j < x.chunk + x.ccnt)
/-- The port mask of an entry. -/
def GEntry.mask (x : GEntry) : Nat := nfld x.w1 0 18
/-- FROM of a FORWARD. -/
def GEntry.from' (x : GEntry) : Nat := nfld x.w1 24 5
/-- Does an entry deliver to port `c` (R576)? -/
def GEntry.delivers (x : GEntry) (c : Nat) : Bool :=
  decide (x.act = actDISPATCH) || (decide (x.act = actMCAST ∨ x.act = actFORWARD) && nbit x.mask c)

/-- Footprint and element count of a gallery's chunk (R212). -/
def GDef.foot (d : GDef) : Nat := footprint d.fmt d.csz
def GDef.elems (d : GDef) : Nat := chunkElems d.fmt d.csz
/-- The partition that accumulates chunk `j` (R181). -/
def GDef.home (d : GDef) (j : Nat) : Nat := if d.spread then j % 6 else d.part
/-- Does SENDUP emit binary32 (R190)? -/
def GDef.wideUp (d : GDef) : Bool := d.wide && decide (d.fmt ≤ 2)
/-- Step timeout (R181). -/
def GDef.timeout (d : GDef) : Nat := us (if d.sto = 0 then 100 else d.sto)

/-- First and last chunk of the result range of port `c`, if it is not empty (R576). -/
def State.resultRange (s : State) (d : GDef) (c : Nat) : Option (Nat × Nat) :=
  let es := (s.gentries d).filter (fun x => x.delivers c && decide (0 < x.ccnt))
  match es with
  | [] => none
  | x :: t => some (t.foldl (fun a y => min a y.chunk) x.chunk, t.foldl (fun a y => max a (y.chunk + y.ccnt - 1)) (x.chunk + x.ccnt - 1))

/-- Deliveries MCAST and FORWARD entries make to port `c` (R196). -/
def State.deliveries (s : State) (d : GDef) (c : Nat) : Nat :=
  sumBy (fun x => x.ccnt) ((s.gentries d).filter (fun x => decide (x.act ≠ actDISPATCH) && x.delivers c))

/-! ### The running part -/

/-- A gallery's running part at setup. -/
def Gal.init (g : Nat) : Gal :=
  { g, timer := none, next := none, skip := none, fin := [], runs := [], mem := [], heldC := [], accs := [], emits := [],
    frames := [], sentN := [], combN := [], failed := false }

/-- The running part of gallery `g`. -/
def State.gal (s : State) (g : Nat) : Gal := (s.gals.find? (fun x => x.g = g)).getD (Gal.init g)
/-- Change it. -/
def State.updGal (s : State) (g : Nat) (f : Gal → Gal) : State :=
  if s.gals.any (fun x => decide (x.g = g)) then { s with gals := updFirst (fun x => x.g = g) f s.gals }
  else { s with gals := s.gals ++ [f (Gal.init g)] }
/-- STATE and SGEN of a gallery (R185). -/
def State.gstate (s : State) (g : Nat) : Nat := s.fld (.galStat g) galStat_STATE
def State.gsgen (s : State) (g : Nat) : Nat := s.fld (.galStat g) galStat_SGEN
/-- The generation of the next step. -/
def State.gnext (s : State) (g : Nat) : Nat := (s.gsgen g + 1) % 256
abbrev gsIDLE : Nat := 0
abbrev gsARMED : Nat := 1
abbrev gsRUNNING : Nat := 2

/-- Is a delivery of entry `e` on chunk `j` under way? -/
def Gal.busy (x : Gal) (e j : Nat) : Bool := x.runs.any (fun r => decide (r.d.e = e ∧ r.d.j = j))
/-- Has entry `e` finished on chunk `j`, with nothing of it under way? -/
def Gal.done (x : Gal) (e j : Nat) : Bool := decide ((e, j) ∈ x.fin) && !x.busy e j
/-- Has entry `e` finished on every chunk it names? -/
def Gal.entryDone (x : Gal) (es : List GEntry) (e : Nat) : Bool :=
  match es[e]? with
  | none => true
  | some y =>
    !x.runs.any (fun r => decide (r.d.e = e))
      && (if y.ccnt = 0 then decide ((e, 0) ∈ x.fin) else decide (y.ccnt ≤ (x.fin.filter (fun f => f.1 = e)).length))
/-- May entry `e` act on chunk `j` (R189)? -/
def Gal.ready (x : Gal) (es : List GEntry) (e j : Nat) : Bool :=
  match es[e]? with
  | none => false
  | some y =>
    (List.range e).all (fun k =>
      match es[k]? with
      | none => true
      | some z => if y.ccnt = 0 then x.entryDone es k else !z.names j || x.done k j)
/-- The lowest entry not finished (PC of DX_GAL_STAT). -/
def Gal.pc (x : Gal) (es : List GEntry) : Nat :=
  ((List.range es.length).find? (fun e => !x.entryDone es e)).getD es.length
/-- The lowest chunk not finished (R201). -/
def Gal.lowChunk (x : Gal) (es : List GEntry) : Nat :=
  let cs := es.zipIdx.filterMap (fun y =>
    ((List.range y.1.ccnt).find? (fun i => decide ((y.2, y.1.chunk + i) ∉ x.fin))).map (fun i => y.1.chunk + i))
  match cs with
  | [] => 0
  | c :: t => t.foldl min c

/-- PC follows the finished entries. -/
def State.pcRefresh (s : State) (g : Nat) : State :=
  let d := s.gdef g
  s.setFld (.galStat g) galStat_PC (d.entry + (s.gal g).pc (s.gentries d))
/-- Entry `e` has finished on chunk `j`: an action of the home sequencer (R474). -/
def State.galFin (s : State) (g e j : Nat) : State :=
  ((s.updGal g (fun x => if (e, j) ∈ x.fin then x else { x with fin := x.fin ++ [(e, j)] })).pcRefresh g).advance (s.gdef g).part sySEQ 0

/-- The step starts: an ARMED gallery takes a member command or frame of its SGEN (R185, R199). -/
def State.galStart (s : State) (g : Nat) : State :=
  let s1 := if s.gstate g = gsARMED then (s.setFld (.galStat g) galStat_STATE gsRUNNING).pcRefresh g else s
  s1.updGal g (fun x => { x with timer := x.timer <|> some s.now })

/-! ### Packets of a gallery -/

/-- Gallery of a gallery packet. -/
def Pkt.galOf (p : Pkt) : Nat := if p.isFrame then nfld p.ext.toNat 0 12 else nfld (bytesNat (p.pay.take 4)) 0 12
/-- Generation of a gallery packet. -/
def Pkt.sgenOf (p : Pkt) : Nat := if p.isFrame then nfld p.ext.toNat 12 8 else nfld (bytesNat (p.pay.take 4)) 16 8
/-- Is it a gallery packet that a node takes part in (R256)? -/
def Pkt.isGal (p : Pkt) : Bool := decide (p.opc ∈ [opGALC, opCOMB, opKVR, opGALUP, opGALDOWN, opGALABORT])
/-- Is it a gallery frame? -/
def Pkt.galFrm (p : Pkt) : Bool := p.isFrame && p.isGal
/-- The gallery frame that a packet from port `c` carries. -/
def Pkt.gfrm (p : Pkt) (c : Nat) : GFrm :=
  { port := c, x := GExt.ofNat p.ext.toNat, dst := p.h.dst.toNat, pay := p.pay, dl := p.h.dl.toNat
    flags := p.h.flags.toNat % 128 }
/-- Is the gallery of a frame set up here and of the frame's slice (R198)? -/
def State.galHere (s : State) (p : Pkt) : Bool :=
  let d := s.gdef p.galOf
  decide (s.gstate p.galOf ≠ gsIDLE) && d.v && decide (d.slice = p.h.slice.toNat)

/-- The output of a port: partition and output index (R313). -/
def outOf (c : Nat) : Nat × Nat := (portPart c, if c < 12 then 1 + c % 2 else 0)
/-- Header of a packet that a gallery builds for a port (R240, R242, R256): MC = 1; DST is zero but in a frame that DISPATCH
sends on, which keeps it (log entry 16). -/
def State.galHdr (s : State) (d : GDef) (c cls opc : Nat) (dst flags : Nat := 0) : Hdr :=
  s.hdr (s.ep 14) dst d.slice cls (s.gen (portPart c)) opc 0 0 (2 ^ fMC + flags % 128)
/-- A gallery frame as this node builds it for port `c`, with the extension's WEIGHT zero (R254). The DL of a frame it carries on
straight along its axis stays (R355, R371). -/
def State.galPkt (s : State) (d : GDef) (c cls opc dst : Nat) (f : GFrm) : Pkt :=
  let h := { s.galHdr d c cls opc dst f.flags with dl := BitVec.ofNat 1 (if f.port = opposite c then f.dl else 0) }
  mkFrame h ({ f.x with flen := f.pay.length, weight := 0 }).toNat f.pay
/-- Send a gallery frame to one port. -/
def State.galFrame (s : State) (d : GDef) (c cls opc : Nat) (f : GFrm) (del : GDel) (dst : Nat := 0) : State :=
  s.inject (portPart c) (s.galPkt d c cls opc dst f) (some (outOf c)) false (some del)

/-- Abort cells to UPPORT and the torus ports of DOWNMASK, but not to `skip` (R200, R257). -/
def State.abortCells (s : State) (g : Nat) (d : GDef) (sgen reason skip : Nat) : State :=
  let pay := natBytes 4 (g + sgen <<< 16 + reason <<< 24)
  let ports := ((List.range 6).map (· + 12)).filter (fun c => (decide (c = d.up) || nbit d.down c) && decide (c ≠ skip))
  ports.foldl (fun s c =>
    s.inject (portPart c) (mkCell (s.galHdr d c (if c = d.up then clRUP else clRDN) opGALABORT) pay) (some (outOf c))) s

/-! ### Members (R196, R201, R202) -/

/-- End a member's command: SAT, UFL and SR of its record report what reached it (R233). -/
def State.memEnd (s : State) (m : GMem) (status result : Nat) : State :=
  (s.updTxn m.txn (fun t => { t with sat := m.sat, ufl := m.ufl, sr := m.sr })).endTxn m.txn status result

/-- Combine frames of generation `sg` taken from port `c`. -/
def Gal.combs (x : Gal) (c sg : Nat) : Nat := sumBy (fun y => y.2.2) (x.combN.filter (fun y => decide (y.1 = c ∧ y.2.1 = sg)))

/-- End a member's command with DONE (R196): the bytes written, and for COMBINE_CONTRIB the frames of its own that were taken at its
port (log entry 119). -/
def State.memDone (s : State) (g : Nat) (m : GMem) : State :=
  let sg := s.gsgen g
  let n := match s.findTxn m.txn with
    | some t => if t.cmd.opc = opCOMB then (s.gal g).combs m.port sg else m.wrote
    | none => m.wrote
  if m.deny then s.memEnd m stSLICE (s.ep m.port) else s.memEnd m stDONE (n % 2 ^ 32 + sg <<< 32)

/-- Drop a member from the step. -/
def State.memDrop (s : State) (g port : Nat) : State :=
  s.updGal g (fun x => { x with mem := x.mem.filter (fun m => m.port ≠ port) })

/-- A member whose every delivery is made completes; one that failed completes with its edge status (R196, R202). -/
def State.memCheck (s : State) (g port : Nat) : State :=
  match (s.gal g).mem.find? (fun m => m.port = port) with
  | none => s
  | some m =>
    if (s.findTxn m.txn).any s.writesOut then s
    else match m.fail with
      | some f => (s.memDrop g port).memEnd m f.1 f.2
      | none => if 0 < m.need ∧ m.frames = 0 then (s.memDrop g port).memDone g m else s

/-! ### The end of a step -/

/-- Drop copies that meet `p` from the output buffers. -/
def State.dropCopies (s : State) (p : Copy → Bool) : State :=
  { s with sw := { s.sw with copies := s.sw.copies.filter (fun x => !p x) } }
/-- Output index of the frames that wait in a sump outside every output queue (R198). -/
abbrev outHeld : Nat := 5
/-- Does a copy wait in a buffer for generation `sg` of gallery `g`: a frame held for that step (R198), or a result of it that
waits for its member (R576)? -/
def Copy.waitsFor (g sg : Nat) (x : Copy) : Bool :=
  (decide (x.out = outHeld ∧ x.pkt.galOf = g ∧ x.pkt.sgenOf = sg))
    || (match x.gwait with | some d => decide (d.g = g ∧ d.sg = sg) | none => false)

/-- Clear what the step held; the set of the ended step is cleared (R198, R214). -/
def Gal.endStep (sgen : Nat) (x : Gal) : Gal :=
  { x with
    timer := x.next, next := none, fin := [], runs := [], mem := []
    accs := x.accs.filter (fun a => a.par ≠ sgen % 2), emits := []
    frames := [], sentN := [], combN := x.combN.filter (fun y => y.2.1 ≠ sgen), failed := false }
/-- The current step of a gallery is over: SGEN advances, the gallery is ARMED, and what waited for the step is dropped (R185,
R198). -/
def State.stepOver (s : State) (g : Nat) : State :=
  let sg := s.gsgen g
  let s1 := (s.setFld (.galStat g) galStat_SGEN ((sg + 1) % 256)).setFld (.galStat g) galStat_STATE gsARMED
  ((s1.updGal g (Gal.endStep sg)).pcRefresh g).dropCopies (Copy.waitsFor g sg)

/-- Ports that the partitions of a gallery own: its UPPORT and DOWNMASK (R200). -/
def GDef.ports (d : GDef) : List Nat := (List.range 18).filter (fun c => decide (c = d.up) || nbit d.down c)

/-- Why a step cannot run: a partition that holds its sequencer or accumulators is out of service, or in reset or not
running (R492). -/
def State.galBlocked (s : State) (d : GDef) : Option Nat :=
  if d.partsOf.any (fun n => decide (s.pstate n = ptOOS)) then some grOOS
  else if d.partsOf.any (fun n => decide (1 ≤ s.pstate n ∧ s.pstate n ≤ 4)) then some grRESET
  else none

/-- Status and RESULT of a member whose step is aborted: its own failure where it has one; PARTITION_RESET where its own
partition is in the reset that aborts the step (R61, R201). -/
def State.memAborted (s : State) (m : GMem) (reason res : Nat) : Nat × Nat :=
  match m.fail with
  | some f => f
  | none =>
    let n := portPart m.port
    if reason = grRESET ∧ s.pstate n ≠ ptRUN then (stPRESET, (s.gen n + 1) % 16) else (reasonStatus reason, res)

/-- Abort the current step of a gallery (R185, R200, R201). `port`: the code for RESULT; `skip`: the port the abort came from. -/
def State.galAbort (s : State) (g reason port skip : Nat) : State :=
  let d := s.gdef g
  let x := s.gal g
  let sg := s.gsgen g
  if s.gstate g = gsIDLE then s
  else
    let res := resGal g reason sg (x.lowChunk (s.gentries d)) port
    let s1 := ((s.count (.galStat g) galStat_ABORTS 1).setFld (.galStat g) galStat_LASTRSN reason).stepOver g
    let s2 := x.mem.foldl (fun s m => let f := s.memAborted m reason res; s.memEnd m f.1 f.2) s1
    s2.abortCells g d sg reason skip

/-- The next step of a gallery aborts before it has become the current one: its held commands and frames end, and once it would
become the current step its generation is passed over. DESIGN CHOICE (log entry 96). -/
def State.nextAbort (s : State) (g reason : Nat) : State :=
  let x := s.gal g
  let d := s.gdef g
  let sg := s.gnext g
  if s.gstate g = gsIDLE ∨ x.skip = some sg then s
  else
    let res := resGal g reason sg ((Gal.init g).lowChunk (s.gentries d)) 31
    let s1 := (s.count (.galStat g) galStat_ABORTS 1).setFld (.galStat g) galStat_LASTRSN reason
    let s2 := (s1.updGal g (fun y => { y with
      next := none, skip := some sg, heldC := [], accs := y.accs.filter (fun a => a.par ≠ sg % 2) })).dropCopies
        (Copy.waitsFor g sg)
    (x.heldC.foldl (fun s id => s.endTxn id (reasonStatus reason) res) s2).abortCells g d sg reason 99

/-- Abort the step of generation `sg`, the current or the next (R200); of no other. -/
def State.sgenAbort (s : State) (g sg reason port : Nat) : State :=
  if s.gstate g = gsIDLE then s
  else if sg = s.gsgen g then s.galAbort g reason port 99
  else if sg = s.gnext g then s.nextAbort g reason
  else s

/-! ### Folding (R214 to R224) -/

/-- Accumulator words of a cleared chunk (R214). -/
def clearedAcc (d : GDef) (par j : Nat) : GAcc :=
  { par, chunk := j, words := List.replicate d.elems (if isInt d.fmt then BitVec.ofNat 64 (intClear d.fmt d.op) else 0),
    clamp := List.replicate d.elems false, count := 0, half := [], fl := 0 }

/-- Fold the elements of a payload into words from element `off` on. -/
def foldWords (d : GDef) (off : Nat) (w : Bool) (weight : Option Val) (pay : List Byte) (a : GAcc) : GAcc :=
  if isInt d.fmt then
    let xs := decodeInts d.fmt pay
    let r := (a.words.zip a.clamp).zipIdx.map (fun y =>
      if off ≤ y.2 ∧ y.2 < off + xs.length then foldInt d.fmt d.op d.ovf y.1.1.toNat y.1.2 (xs.getD (y.2 - off) 0)
      else (y.1.1.toNat, y.1.2))
    { a with words := r.map (fun y => BitVec.ofNat 64 y.1), clamp := r.map (·.2) }
  else
    let xs := decodeChunk d.fmt w pay
    let f (acc : Nat) (v : Val) : Nat :=
      if d.op = 1 then foldMinMax false acc v else if d.op = 2 then foldMinMax true acc v
      else foldSum acc (match weight with | some k => if d.op = 3 then v.mul k else v | none => v)
    { a with words := a.words.zipIdx.map (fun y =>
        if off ≤ y.2 ∧ y.2 < off + xs.length then BitVec.ofNat 64 (f y.1.toNat (xs.getD (y.2 - off) .nan)) else y.1) }

/-- Take one contribution to chunk `x.chunk` in the set of parity `par` (R191, R205, R222). -/
def GAcc.take (d : GDef) (port : Nat) (x : GExt) (weight : Option Val) (pay : List Byte) (a : GAcc) : GAcc :=
  let two := x.w && decide (8192 < 4 * d.elems)
  let a1 := if pay.isEmpty then a else foldWords d (if x.half then d.elems / 2 else 0) x.w weight pay a
  let fl := a1.fl ||| (x.satf.toNat + 2 * x.uflf.toNat + 4 * x.srf.toNat)
  if two then
    if (port, !x.half) ∈ a1.half then { a1 with count := a1.count + 1, half := a1.half.filter (· ≠ (port, !x.half)), fl }
    else { a1 with half := a1.half ++ [(port, x.half)], fl }
  else { a1 with count := a1.count + 1, fl }

/-- Change the accumulators of a chunk in the set of parity `par`; a cleared chunk comes into being with its first change. -/
def State.updAcc (s : State) (g par j : Nat) (f : GAcc → GAcc) : State :=
  let d := s.gdef g
  s.updGal g (fun y =>
    let has := y.accs.any (fun a => decide (a.par = par ∧ a.chunk = j))
    let l := if has then y.accs else y.accs ++ [clearedAcc d par j]
    { y with accs := updFirst (fun a => decide (a.par = par ∧ a.chunk = j)) f l })
/-- Fold a contribution into the accumulators of its chunk. -/
def State.galFold (s : State) (g par port : Nat) (x : GExt) (weight : Option Val) (pay : List Byte) : State :=
  let s1 := s.updAcc g par x.chunk (GAcc.take (s.gdef g) port x weight pay)
  if pay.isEmpty then s1 else s1.coresAdvance ((s.gdef g).home x.chunk)
/-- The accumulators of a chunk in the set of parity `par`. -/
def State.accOf (s : State) (g par j : Nat) : GAcc :=
  ((s.gal g).accs.find? (fun a => decide (a.par = par ∧ a.chunk = j))).getD (clearedAcc (s.gdef g) par j)
/-- The accumulators of a chunk in the current set. -/
def State.galAcc (s : State) (g j : Nat) : GAcc := s.accOf g (s.gsgen g % 2) j

/-- An accumulation tile of a valid gallery changes (R224): of the current set, or of the next step's. -/
def State.accStrike (s : State) (u : AccUpset) : State :=
  if !(s.gdef u.g).v then s
  else s.updAcc u.g ((if u.next then s.gnext u.g else s.gsgen u.g) % 2) u.chunk (fun a => { a with bad := some u.core })
/-- A core finds, as it reads an accumulation tile of chunk `j`, that its CRC fails; core `k` last wrote it (R224): one event
against that core. -/
def State.accEvent (s : State) (g j k : Nat) : State := s.event ((s.gdef g).home j) 0x11 ⟨syCORE, k⟩

/-- A core folds a contribution of step `sg` (R222). Where a tile that it reads fails its check, the step is aborted instead, with
FRAME_CHECK (R224); a frame without payload reads none. -/
def State.galReduce (s : State) (g sg port : Nat) (x : GExt) (weight : Option Val) (pay : List Byte) : State :=
  match (if pay.isEmpty then none else (s.accOf g (sg % 2) x.chunk).bad) with
  | some k => (s.accEvent g x.chunk k).sgenAbort g sg grCHECK 31
  | none => s.galFold g (sg % 2) port x weight pay

/-! ### Emission (R190, R204, R225 to R236) -/

/-- Emit chunk `j`, once per step and form; later actions reuse it. DESIGN CHOICE (log entry 115): under WIDE = 1 a SENDUP's binary32
form and the gallery's own format are two emissions, each counted and each with its own noise. -/
def State.galEmit (s : State) (g j : Nat) (wide : Bool) : GEmit × State :=
  match (s.gal g).emits.find? (fun e => decide (e.chunk = j ∧ e.wide = wide)) with
  | some e => (e, s)
  | none =>
    let d := s.gdef g
    let a := s.galAcc g j
    let n := d.home j
    let fix := s.fld (.noise n) noise_FIX
    let base := s.free
    let noise (i : Nat) : Nat := if fix = 1 then s.fld (.noise n) noise_NFIX else Config.freeNat (base + i) % 4096
    let r := emitChunk d.fmt wide d.rnd d.ovf noise (a.words.map (·.toNat)) a.clamp
    let sr := decide (d.rnd = 2) && !isInt d.fmt
    let fl := a.fl ||| ((decide (0 < r.2.1)).toNat + 2 * (decide (0 < r.2.2)).toNat + 4 * sr.toNat)
    let e : GEmit := { chunk := j, wide, data := r.1, fl }
    let s1 := if sr ∧ fix ≠ 1 then { s with free := s.free + d.elems } else s
    let s2 := (s1.count (.galCnt g) galCnt_SAT r.2.1).count (.galCnt g) galCnt_UFL r.2.2
    (e, (s2.updGal g (fun x => { x with emits := x.emits ++ [e] })).coresAdvance n)

/-- The core whose accumulation tile an emission of chunk `j` would find failing (R224). One made before is used again and reads
none. -/
def State.emitBad (s : State) (g j : Nat) (wide : Bool) : Option Nat :=
  if (s.gal g).emits.any (fun e => decide (e.chunk = j ∧ e.wide = wide)) then none else (s.galAcc g j).bad
/-- An action that emits chunk `j`; where a tile fails its check, the step is aborted and nothing is emitted (R224). -/
def State.emitting (s : State) (g j : Nat) (wide : Bool) (t : State) : State :=
  match s.emitBad g j wide with
  | some k => (s.accEvent g j k).galAbort g grCHECK 31 99
  | none => t

/-- The extension of a frame that carries an emission (R254, R255). -/
def State.emitExt (s : State) (g : Nat) (e : GEmit) (half : Bool) : GExt :=
  { gal := g, sgen := s.gsgen g, chunk := e.chunk, flen := 0, w := e.wide, satf := nbit e.fl 0, uflf := nbit e.fl 1,
    srf := nbit e.fl 2, half, token := 0, weight := 0 }

/-! ### Deliveries (R187, R196, R202) -/

/-- `k` more parts of a delivery are under way. -/
def State.runAdd (s : State) (d : GDel) (k : Nat) : State :=
  s.updGal d.g (fun x => { x with
    runs := if x.runs.any (fun r => r.d = d) then updFirst (fun r => r.d = d) (fun r => { r with left := r.left + k }) x.runs
            else x.runs ++ [{ d, left := k }] })

/-- One more frame of chunk `j` has been delivered, for WAIT (R187). -/
def Gal.sent (j : Nat) (x : Gal) : Gal :=
  let n := ((x.sentN.find? (fun y => y.1 = j)).elim 0 (fun y => y.2)) + 1
  { x with sentN := (x.sentN.filter (fun y => y.1 ≠ j)) ++ [(j, n)] }

/-- Part of a delivery is done: when all are, the entry has finished on the chunk (R187). Each part of a DISPATCH is a frame
delivered, all of a FORWARD are one. What an ended step left is nothing to the current one. -/
def State.partDone (s : State) (g : Nat) (d : GDel) : State :=
  match (s.gal g).runs.find? (fun r => r.d = d) with
  | none => s
  | some r =>
    let act := (s.gentry (s.gdef g) d.e).act
    let s1 := if act = actDISPATCH ∨ (act = actFORWARD ∧ r.left ≤ 1) then s.updGal g (Gal.sent d.j) else s
    if 1 < r.left then s1.updGal g (fun x => { x with
      runs := updFirst (fun y => y.d = d) (fun y => { y with left := y.left - 1 }) x.runs })
    else (s1.updGal g (fun x => { x with runs := dropFirst (fun y => y.d = d) x.runs })).galFin g d.e d.j

/-- Where a frame goes in a member's result region (R206, R576). -/
def State.resultAt (s : State) (d : GDef) (t : Txn) (j : Nat) (x : GExt) : Nat :=
  let c := t.cmd
  if c.opc = opKVR then c.roff + ((x.token + 2 ^ 24 - c.wstart) % 2 ^ 24 % c.wcnt) * c.tokb
  else c.roff + (j - ((s.resultRange d t.port).elim j (fun r => r.1))) * d.foot

/-- Flags of a frame as bits 0 to 2. -/
def GExt.fl (x : GExt) : Nat := x.satf.toNat + 2 * x.uflf.toNat + 4 * x.srf.toNat

/-- Deliver a frame to a member's port: written, or on its way to the port's output buffer, where it waits for the member's command
(R202, R576). A frame of a bound gallery is opened first; one whose tag fails writes nothing and aborts the step (R531). -/
def State.toMember (s : State) (g port : Nat) (d : GDel) (f : GFrm) : State :=
  let gd := s.gdef g
  match (s.gal g).mem.find? (fun m => m.port = port) with
  | none => s.galFrame gd port clRDN opGALDOWN f d
  | some m =>
    let use (h : GMem → GMem) (s : State) : State :=
      s.updGal g (fun x => { x with mem := updFirst (fun y => y.port = port) h x.mem })
    let s1 := use (fun y => { y with frames := y.frames - 1 }) s
    match s1.findTxn m.txn with
    | none => s1.partDone g d
    | some t =>
      if m.fail.isSome ∨ t.fstat.isSome then s1.partDone g d
      else
        let put (s : State) (pay : List Byte) : State :=
          s.startWrite (portPart port) port ((s.region t.cmd.rreg).base + s.resultAt gd t d.j f.x) pay gd.slice .direct
            (.galWrite d port m.txn pay.length f.x.fl) f.flags
        match s1.wfanOf g gd.slice with
        | none => put s1 f.pay
        | some j =>
          match s1.openWeight j f.x f.pay with
          | some pay => put s1 pay
          | none => (s1.count (.wfan j) wfan_TFAIL 1).doneJob (portPart port) (.dsWrite d) [] (some (stCHECK, 0))

/-- A write of a result has ended (R134, R193, R202, R233). A failure of a step that is over leaves the current one as it is. -/
def State.galWritten (s : State) (d : GDel) (port txn n fl : Nat) (fail : Option (Nat × Nat)) : State :=
  let use (h : GMem → GMem) (s : State) : State :=
    s.updGal d.g (fun x => { x with mem := updFirst (fun y => decide (y.port = port ∧ y.txn = txn)) h x.mem })
  let s1 := match s.findTxn txn with
    | none => s
    | some t =>
      match fail with
      | some f =>
        let res := (f.1, dataResult f.1 t.ep t.cmd.rreg f.2 0)
        (use (fun m => { m with fail := m.fail <|> some res }) s).updGal d.g
          (fun x => { x with failed := x.failed || decide (d.sg = s.gsgen d.g) })
      | none =>
        let okc := !t.cmd.flag fCNT || s.syncOwned t.cmd.sync t.slice
        let s0 := if t.cmd.flag fCNT then (s.cntAdd t.cmd.sync t.slice n).2 else s
        use (fun m => { m with
          wrote := m.wrote + n, deny := m.deny || !okc, sat := m.sat || nbit fl 0, ufl := m.ufl || nbit fl 1,
          sr := m.sr || nbit fl 2 }) s0
  ((s1.partDone d.g d).memCheck d.g port).tryFinish txn

/-- Deliver a frame to ports (R187): torus outputs and members. With none, the entry finishes. `dst`: the DST it keeps. -/
def State.deliver (s : State) (g : Nat) (d : GDel) (ports : List Nat) (f : GFrm) (dst : Nat := 0) : State :=
  let gd := s.gdef g
  if ports.isEmpty then (s.runAdd d 1).partDone g d
  else ports.foldl (fun s c => if c < 12 then s.toMember g c d f else s.galFrame gd c clRDN opGALDOWN f d dst)
    (s.runAdd d ports.length)

/-- Is port `c` named by a REDUCE entry for chunk `j` (R198)? -/
def State.reduceNames (s : State) (d : GDef) (c j : Nat) : Bool :=
  (s.gentries d).any (fun x => decide (x.act = actREDUCE) && nbit x.mask c && x.names j)

/-- Take a frame of the current step that has reached the cores: reduced, or kept for FORWARD and DISPATCH (R198). DESIGN CHOICE (log
entry 113): a frame that a REDUCE names is folded at once, also before that REDUCE has armed the chunk. -/
def State.galTake (s : State) (g : Nat) (f : GFrm) (weight : Option Val) : State :=
  let s1 := s.galStart g
  let d := s.gdef g
  match s.galBlocked d with
  | some r => s1.galAbort g r 31 99
  | none =>
    if s.reduceNames d f.port f.x.chunk then s1.galReduce g (s.gsgen g) f.port f.x weight f.pay
    else s1.updGal g (fun x => { x with frames := x.frames ++ [f] })

/-! ### Copies and their tiles (R325, R326) -/

/-- The 256 bytes of tile `i` of a copy as it was filled: zero beyond the packet (R325). -/
def Copy.tile (x : Copy) (i : Nat) : List Byte := padTo 256 (slice x.pkt.bytes (256 * i) 256)
/-- The bits of tile `i` that have changed since. -/
def Copy.flipsIn (x : Copy) (i : Nat) : List Nat := (x.flips.filter (fun f => f.1 = i)).map (·.2)
/-- Change bit `b` of some bytes. -/
def flipBit (l : List Byte) (b : Nat) : List Byte := l.set (b / 8) (l.getD (b / 8) 0 ^^^ BitVec.ofNat 8 (2 ^ (b % 8)))
/-- Tile `i` as it stands. -/
def Copy.tileNow (x : Copy) (i : Nat) : List Byte := (x.flipsIn i).foldl flipBit (x.tile i)
/-- Does tile `i` fail its CRC-32C? One none of whose bits has changed meets it. -/
def Copy.tileBad (x : Copy) (i : Nat) : Bool := !(x.flipsIn i).isEmpty && decide (crc32c (x.tileNow i) ≠ crc32c (x.tile i))
/-- The place of the first tile that fails, in packet order (R574). -/
def Copy.firstBad (x : Copy) : Option Nat := (List.range x.tiles.length).find? x.tileBad
/-- The packet as a reader finds it in tiles that meet their checks. -/
def Copy.read (x : Copy) : Pkt :=
  if x.flips.isEmpty then x.pkt
  else match Pkt.parse ((List.range x.tiles.length).flatMap x.tileNow |>.take x.pkt.size) with
    | some r => r.1
    | none => x.pkt

/-- A tile of a copy has failed its check: counted and reported (R326). -/
def State.tileEvent (s : State) (n : Nat) (p : Pkt) (t : Nat) : State :=
  (s.countSl n p.h.slice.toNat (.swcErr n) swcErr_TCRC).event n 0x10 ⟨syTILE, t⟩ (some p.h.slice.toNat)
/-- Read the tiles of a copy that its gallery takes; a tile that fails is one event and aborts its step (R326). -/
def State.galTiles (s : State) (x : Copy) (f : State → Pkt → State) : State :=
  match x.firstBad with
  | none => f s x.read
  | some i =>
    (s.tileEvent x.part x.pkt (x.tiles.getD i 0)).sgenAbort x.pkt.galOf x.pkt.sgenOf grCHECK 31

/-! ### Members join and the step goes on (R193, R198, R199) -/

/-- The results that wait for a member are written once it has joined (R576). -/
def State.lateResults (s : State) (g port : Nat) : State :=
  let late (x : Copy) : Bool := (match x.gwait with
    | some d => decide (d.g = g ∧ d.sg = s.gsgen g ∧ (x.part, x.out) = outOf port)
    | none => false)
  (s.sw.copies.filter late).foldl (fun s x =>
    if x ∉ s.sw.copies then s
    else match x.gwait with
      | some d => (s.dropCopies (fun y => decide (y = x))).galTiles x (fun s p => s.toMember g port d (p.gfrm 31))
      | none => s) s

/-- Members join the current step (R185, R193, R199). A gallery with DISPATCH entries ends its members with ADVANCE: how many frames
come is not the entries' to say. -/
def State.memJoin (s : State) (g : Nat) (ts : List Txn) : State :=
  let d := s.gdef g
  let disp := (s.gentries d).any (fun y => y.act = actDISPATCH)
  let mem (t : Txn) : GMem :=
    let n := if disp then 0 else s.deliveries d t.port
    { port := t.port, txn := t.id, wrote := 0, need := n, fail := none, deny := false, frames := n, sat := false, ufl := false,
      sr := false }
  let s1 := (s.galStart g).updGal g (fun x => { x with mem := x.mem ++ ts.map mem })
  match s.galBlocked d with
  | some r => s1.galAbort g r 31 99
  | none => ts.foldl (fun s t => s.lateResults g t.port) s1

/-- What waited for the step that has become the current one goes on (R193, R198): its held commands join, all at once, and held
frames start it. A step that has been aborted in advance is passed over (log entry 96). A held command of neither the current nor
the next step ends with GEN_MISMATCH. -/
def State.galResume (s : State) (g : Nat) : State :=
  let x := s.gal g
  let sg := s.gsgen g
  if s.gstate g = gsIDLE then s
  else if x.skip = some sg then (s.stepOver g).updGal g (fun y => { y with skip := none })
  else
    let ts := x.heldC.filterMap s.findTxn
    let now := ts.filter (fun t => t.cmd.sgen = sg)
    let lost := ts.filter (fun t => decide (t.cmd.sgen ≠ sg ∧ t.cmd.sgen ≠ s.gnext g))
    let s1 := if now.isEmpty ∧ lost.isEmpty then s else
      s.updGal g (fun y => { y with heldC := (ts.filter (fun t => t.cmd.sgen = s.gnext g)).map (·.id) })
    let s2 := lost.foldl (fun s t =>
      s.endTxn t.id stGALAB (resGal g grGENMIS sg (x.lowChunk (s.gentries (s.gdef g))) 31)) s1
    if !now.isEmpty then s2.memJoin g now
    else if s.gstate g = gsARMED ∧ s.sw.copies.any (fun y => decide (y.out = outHeld ∧ y.pkt.galOf = g ∧ y.pkt.sgenOf = sg)) then
      match s.galBlocked (s.gdef g) with
      | some r => (s2.galStart g).galAbort g r 31 99
      | none => s2.galStart g
    else s2

/-- ADVANCE: the step ends (R185, R196, R198). -/
def State.galAdvance (s : State) (g : Nat) : State :=
  ((s.gal g).mem.foldl (fun s m =>
    match m.fail with
    | some f => s.memEnd m f.1 f.2
    | none => s.memDone g m) (s.advance (s.gdef g).part sySEQ 0)).stepOver g

/-! ### Member commands (R192 to R195) -/

/-- The result range in bytes of a member's command: offset and length (R576). -/
def State.resultBytes (s : State) (d : GDef) (t : Txn) : Nat × Nat :=
  if t.cmd.opc = opKVR then (t.cmd.roff, t.cmd.wcnt * t.cmd.tokb)
  else match s.resultRange d t.port with
    | none => (0, 0)
    | some r => (t.cmd.roff, (r.2 - r.1 + 1) * d.foot)

/-- Is `n` a power of two from 16 to `m`? -/
def pow2Upto (n m : Nat) : Bool := decide (16 ≤ n ∧ n ≤ m) && decide (2 ^ Nat.log2 n = n)

/-- The checks of R193 in order: status and RESULT of the first failure. A region is checked also where no byte of it is used. -/
def State.galCheck (s : State) (t : Txn) : Option (Nat × Nat) :=
  let c := t.cmd
  let g := c.gal
  let d := s.gdef g
  let fmt (code off : Nat) : Option (Nat × Nat) := some (stFORMAT, resFmt code off)
  let rb := s.resultBytes d t
  let lenBad : Bool := decide (c.len % grain d.fmt ≠ 0 ∨ 2 ^ 24 * d.foot < c.len)
  match c.reservedFail with
  | some f => fmt f.1 f.2
  | none =>
    if c.opc = opCOMB ∧ !c.pushed then fmt 3 1
    else if c.scope = 3 ∧ (c.flag fRELEASE ∨ c.flag fACQUIRE) then fmt 3 3
    else if !d.v then fmt 3 32
    else if d.slice ≠ t.slice then some (stSLICE, t.ep)
    else if 12 ≤ t.port ∨ !nbit d.contrib t.port then fmt 3 32
    else if lenBad then fmt 3 8
    else if c.opc = opKVR ∧ !pow2Upto c.tokb d.foot then fmt 3 43
    else if c.opc = opKVR ∧ c.len % c.tokb ≠ 0 then fmt 3 8
    else if c.opc = opKVR ∧ c.wcnt = 0 then fmt 3 51
    else if !s.localCheck c.rreg t.slice t.port 1 rb.1 rb.2 then some (stREGION, resReg t.ep c.rreg 0)
    else if !c.pushed ∧ !s.localCheck c.lreg t.slice t.port 0 (if c.len = 0 then 0 else c.loff) c.len then
      some (stREGION, resReg t.ep c.lreg 0)
    else if c.flag fCNT ∧ !s.syncOwned c.sync t.slice then some (stSLICE, t.ep)
    else if (c.sgen ≠ s.gsgen g ∧ c.sgen ≠ s.gnext g) ∨ (s.gal g).skip = some c.sgen then
      some (stGALAB, resGal g grGENMIS (s.gsgen g) ((s.gal g).lowChunk (s.gentries d)) 31)
    else none

/-- The contribution of a member that the controller reads (R194): it starts once the RELEASE, if any, is met. -/
def State.galSend (s : State) (t : Txn) : State :=
  let c := t.cmd
  let s1 := s.updTxn t.id (fun x => { x with stage := .running, acked := false })
  if c.pushed ∨ c.len = 0 then s1
  else
    s1.startRead (portPart t.port) t.port ((s.region c.lreg).base + c.loff) c.len t.slice .direct
      (.galRead c.gal t.id c.sgen)

/-- A held gallery command whose RELEASE is met goes on (R151, R194). -/
def State.galRelease (s : State) (t : Txn) : State :=
  if t.stage ≠ .held ∨ t.fstat.isSome then s
  else if !t.cmd.releases then s.galSend t
  else if !t.waits.isEmpty then s
  else if !t.acked then
    let ds := s.probeSet t
    if ds.isEmpty ∧ t.relF.isNone then s.galSend t
    else
      let f := s.fresh
      ds.foldl (fun s d => s.send (s.tPart t) (s.probeCell t d))
        (f.2.updTxn t.id (fun x => { x with acked := true, probes := ds, probed := f.1 }))
  else if !t.probes.isEmpty then s
  else match t.relF with
    | some f => (s.memDrop t.cmd.gal t.port).endTxn t.id f.2.1 f.2.2
    | none => s.galSend t

/-- Start a gallery command: checks, then it joins the step or is held for the next one (R193). -/
def State.galBegin (s : State) (t : Txn) : State :=
  match s.galCheck t with
  | some f => s.endTxn t.id f.1 f.2
  | none =>
    let g := t.cmd.gal
    let s1 := s.updTxn t.id (fun x => { x with stage := .held })
    if t.cmd.sgen = s.gsgen g then
      let s2 := s1.memJoin g [t]
      match s2.findTxn t.id with
      | some u => s2.galRelease u
      | none => s2
    else s1.updGal g (fun x => { x with heldC := x.heldC ++ [t.id], next := x.next <|> some s.now })

/-! ### Abort cells (R200, R257) -/

/-- The port a frame came from: its arrival port, or for a frame of this node the port of its sender. -/
def InEnt.port (e : InEnt) : Nat := e.inPort.getD (epPort e.pkt.h.src.toNat)

/-- A GAL_ABORT cell. DESIGN CHOICE (log entry 114): the port in RESULT is the one the cell came from. -/
def State.rxAbort (s : State) (e : InEnt) : State :=
  let g := e.pkt.galOf
  if s.gstate g = gsIDLE ∨ e.pkt.sgenOf ≠ s.gsgen g then s else s.galAbort g grREMOTE e.port e.port

/-! ### Actions (R187) -/

/-- May entry `e` of the running step, whose action is `act`, act on chunk `j` now (R189)? -/
def State.mayAct (s : State) (g e j act : Nat) : Bool :=
  let d := s.gdef g
  let es := s.gentries d
  match es[e]? with
  | none => false
  | some y =>
    decide (s.gstate g = gsRUNNING ∧ y.act = act) && d.partsOf.all s.runs
      && (if y.ccnt = 0 then decide (j = 0) else y.names j) && (s.gal g).ready es e j
/-- The same, where it has not acted yet. -/
def State.actReady (s : State) (g e j act : Nat) : Bool :=
  s.mayAct g e j act && decide ((e, j) ∉ (s.gal g).fin) && !(s.gal g).busy e j

/-- Act where `actReady` holds; otherwise nothing. -/
def State.act (s : State) (g e j act : Nat) (f : GDef → GEntry → State) : State :=
  if s.actReady g e j act then f (s.gdef g) (s.gentry (s.gdef g) e) else s

/-- Tiles that the valid galleries of the slices that meet `p` hold against a partition's sump (R183). -/
def State.acctOf (s : State) (n : Nat) (p : Nat → Bool) : Nat :=
  sumBy (fun (x : Gal) => let d := s.gdef x.g; if d.v ∧ n ∈ d.partsOf ∧ p d.slice then d.acct else 0) s.gals
/-- Tiles of all of them. -/
def State.acctHeld (s : State) (n : Nat) : Nat := s.acctOf n (fun _ => true)

/-- WAIT's condition on chunk `j` (R187). -/
def State.waitMet (s : State) (g j n : Nat) : Bool :=
  let es := s.gentries (s.gdef g)
  if es.any (fun y => decide (y.act = actREDUCE) && y.names j) then decide (n ≤ (s.galAcc g j).count)
  else decide (n ≤ ((s.gal g).sentN.find? (fun y => y.1 = j)).elim 0 (fun y => y.2))

/-- A delivery of the current step. -/
def State.gdel (s : State) (g e j : Nat) : GDel := ⟨g, e, j, s.gsgen g⟩

/-- SENDUP: one frame, or two halves of a wide chunk (R190, R191). -/
def State.sendup (s : State) (g e j : Nat) (d : GDef) : State :=
  let r := s.galEmit g j d.wideUp
  let del := s.gdel g e j
  let pay := r.1.data
  let ps := if 8192 < pay.length then [(false, pay.take 8192), (true, pay.drop 8192)] else [(false, pay)]
  ps.foldl (fun s q => s.galFrame d d.up clRUP opGALUP { port := 31, x := s.emitExt g r.1 q.1, dst := 0, pay := q.2 } del)
    (r.2.runAdd del ps.length)

/-- MCAST: the emitted chunk to every port of MASK. -/
def State.mcast (s : State) (g e j : Nat) (y : GEntry) : State :=
  let r := s.galEmit g j false
  r.2.deliver g (s.gdel g e j) (bitsOf y.mask 18) { port := 31, x := r.2.emitExt g r.1 false, dst := 0, pay := r.1.data }

/-- Deep-store address of a chunk for DSWRITE and DSREAD (R187). -/
def dsAddr (d : GDef) (y : GEntry) (j : Nat) : Nat := d.dsbase + nfld y.w1 0 40 + (j - y.chunk) * d.foot

/-- DSWRITE of an emitted chunk. -/
def State.dswrite (s : State) (g e j : Nat) (d : GDef) (y : GEntry) : State :=
  let r := s.galEmit g j false
  (r.2.runAdd (s.gdel g e j) 1).startWrite (d.home j) 12 (dsAddr d y j) r.1.data d.slice .frame (.dsWrite (s.gdel g e j))
/-- DSREAD of a chunk. -/
def State.dsread (s : State) (g e j : Nat) (d : GDef) (y : GEntry) : State :=
  (s.runAdd (s.gdel g e j) 1).startRead (d.home j) 12 (dsAddr d y j) d.foot d.slice .frame (.dsRead (s.gdel g e j))

/-! ### FORWARD and DISPATCH (R187, R256, R315) -/

/-- The entry that sends on a frame of the current step: the first FORWARD from its port that has not acted on its chunk, else a
DISPATCH. -/
def State.fwdEntry (s : State) (g : Nat) (f : GFrm) : Option Nat :=
  let es := s.gentries (s.gdef g)
  let x := s.gal g
  let j := f.x.chunk
  let hit (p : GEntry → Nat → Bool) : Option Nat := (es.zipIdx.find? (fun y => y.1.names j && p y.1 y.2)).map (·.2)
  hit (fun y e => decide (y.act = actFORWARD ∧ y.from' = f.port ∧ (e, j) ∉ x.fin) && !x.busy e j)
    <|> hit (fun y _ => decide (y.act = actDISPATCH) && nbit y.mask f.port)
/-- Does entry `e` send the frame on? -/
def GEntry.sends (y : GEntry) (f : GFrm) : Bool :=
  y.names f.x.chunk && ((decide (y.act = actFORWARD ∧ y.from' = f.port)) || (decide (y.act = actDISPATCH) && nbit y.mask f.port))
/-- Where an entry sends a frame: FORWARD to MASK; DISPATCH to the member that its DST names, or toward the DST's node by the escape
port (log entry 16). -/
def State.fwdPorts (s : State) (d : GDef) (y : GEntry) (f : GFrm) : List Nat :=
  if y.act ≠ actDISPATCH then bitsOf y.mask 18
  else if epNode f.dst = s.node then [epPort f.dst].filter (· < 12)
  else (s.escape (s.galPkt d 0 clRDN opGALDOWN f.dst f)).toList.map (12 + ·)
/-- DST of a frame that an entry sends on: kept by DISPATCH (log entry 16). -/
def GEntry.dstOf (y : GEntry) (f : GFrm) : Nat := if y.act = actDISPATCH then f.dst else 0
/-- An entry sends on a frame that is kept at the cores. -/
def State.sendKept (s : State) (g e : Nat) (d : GDef) (y : GEntry) (f : GFrm) : State :=
  (s.updGal g (fun x => { x with frames := dropFirst (fun z => decide (z = f)) x.frames })).deliver g (s.gdel g e f.x.chunk)
    (s.fwdPorts d y f) f (y.dstOf f)

end Sys2Proof.Machine
end

