-- ==== Sys2Proof/Machine/Links.lean ====
section
/-! DEFINITION. What the link layer does to a port: states and masks, control blocks, credits, replay, silence and loss
(spec/08_lanes_links.md R268 to R307). -/

namespace Sys2Proof.Machine

/-! ### Control blocks (R272, R273) -/

abbrev ctSTART : Nat := 0x10
abbrev ctCREDIT : Nat := 0x20
abbrev ctACK : Nat := 0x30
abbrev ctNAK : Nat := 0x31
abbrev ctIDLE : Nat := 0x50

/-- Payload of a START, ACK or NAK block. -/
def ctlLseq (t n : Nat) : BitVec 64 := BitVec.ofNat 64 (t + (n % 65536) <<< 8)
/-- Payload of a CREDIT block. -/
def ctlCredit (ch g : Nat) : BitVec 64 := BitVec.ofNat 64 (ctCREDIT + ch <<< 8 + (g % 65536) <<< 16)

/-- Make a control block pending (R273). A newer ACK or CREDIT of the same channel takes the place of one still
waiting: both are cumulative (R284, R291). -/
def State.pendCtl (s : State) (c : Nat) (b : BitVec 64) : State :=
  let key (x : BitVec 64) : Nat :=
    let t := x.toNat % 256
    if t = ctACK then t else if t = ctCREDIT then t + 256 * nfld x.toNat 8 4 else 0
  s.setLink c (fun l =>
    { l with ctl := (if key b = 0 then l.ctl else l.ctl.filter (fun x => key x.1 ≠ key b)) ++ [(b, s.now)] })

/-- Place every pending control block of a port, in order. -/
def State.placeCtl (s : State) (c : Nat) : State :=
  (s.link c).ctl.foldl (fun s b => s.linkEmit c (.ctl c b.1)) (s.setLink c (fun l => { l with ctl := [] }))

/-! ### Masks and states (R271, R274 to R276) -/

/-- Lanes of a port that are locked, aligned and not fenced: the mask in its TRAIN blocks. -/
def State.ownMask (s : State) (c : Nat) : BitVec 16 :=
  let f := s.fencedLanes c
  BitVec.ofNat 16 ((List.range (portLanes c)).foldl (fun m j =>
    let x := s.lane (portLane0 c + j)
    if x.locked ∧ x.aligned ∧ !f.getLsbD j then m ||| 2 ^ j else m) 0)
/-- The agreed mask (R276), once a partner TRAIN block has passed. -/
def State.agreed (s : State) (c : Nat) : Option (BitVec 16) := (s.link c).partner.map (fun p => p &&& s.ownMask c)
/-- READY of the port's own TRAIN blocks: its agreed lanes are deskewed at a MARK, and in RETRAIN every lane of the
previous mask is aligned again or has been fenced (R278). -/
def State.ownReady (s : State) (c : Nat) : Bool :=
  let l := s.link c
  match s.agreed c with
  | none => false
  | some m =>
    decide (portMin c ≤ popcount m.toNat 16) && decide (m &&& ~~~l.marked = 0)
      && (decide (s.pst c ≠ psRETRAIN) || decide (l.prev &&& ~~~(s.fencedLanes c) &&& ~~~(s.ownMask c) = 0))

/-- The TRAIN block a port sends on its lane `j` (R264, R272, TYPE 0x60): a switch takes ROLE 1. -/
def State.trainBlock (s : State) (c j : Nat) : BitVec 64 :=
  BitVec.ofNat 64 (0x60 + s.fld (cfgReg c) portCfg_REACH <<< 8 + 1 <<< 10 + (s.ownReady c).toNat <<< 11 + (j % 16) <<< 12
    + (s.ownMask c).toNat <<< 16 + s.node <<< 32)
/-- The lane mask a port holds: the active one in UP, else the agreed one (R272, R276, R312); before the partner's first TRAIN
block after an entry to RETRAIN, what is left of the previous one. -/
def State.heldMask (s : State) (c : Nat) : Option (BitVec 16) :=
  if s.up c then some (BitVec.ofNat 16 (s.fld (statReg c) portStat_ACTIVE))
  else match s.agreed c with
    | some m => some m
    | none => if s.pst c = psRETRAIN then some ((s.link c).prev &&& s.ownMask c) else none
/-- The MARK block of lane `j` (R270, R272, TYPE 0x40). -/
def State.markBlock (s : State) (c j : Nat) : BitVec 64 :=
  BitVec.ofNat 64 (0x40 + (j % 16) <<< 8 + ((s.heldMask c).getD 0).toNat <<< 16)
/-- What a port's lane `j` carries in block position `k` while the port trains (R270, R274): TRAIN, and in ALIGN and RETRAIN a MARK
in the last of every 64 positions on each lane of the agreed mask. A fenced lane's transmitter is off (R305), and after a loss all
are silent for 1 µs (R303, R304). -/
def State.laneSends (s : State) (c j k : Nat) : Option (BitVec 64) :=
  if s.pst c ∈ [psLOCK, psMISMATCH, psALIGN, psRETRAIN] ∧ !(s.fencedLanes c).getLsbD j ∧ (s.link c).mute ≤ s.now then
    if s.pst c ∈ [psALIGN, psRETRAIN] ∧ k % 64 = 63 ∧ ((s.heldMask c).getD 0).getLsbD j then some (s.markBlock c j)
    else some (s.trainBlock c j)
  else none
/-- The lanes that carry the pilot (R296): in announced idle every active lane, but no fenced one. -/
def State.pilotLanes (s : State) (c : Nat) : BitVec 16 :=
  if s.up c ∧ s.fld (statReg c) portStat_TXIDLE = 1 then BitVec.ofNat 16 (s.fld (statReg c) portStat_ACTIVE) &&& ~~~(s.fencedLanes c)
  else 0
/-- What lane `j` carries in position `k` of the burst that ends announced idle (R298): TRAIN with READY = 1, MARK, IDLE, and START
with the next LSEQ. -/
def State.burstBlock (s : State) (c j k : Nat) : BitVec 64 :=
  if k < 384 then s.trainBlock c j ||| 0x800
  else if k = 384 then s.markBlock c j
  else if k < 399 then 0
  else ctlLseq ctSTART (s.link c).next
/-- The dock words of active lane `j` of a port, for the first `n` block positions of the stream that outputs `l` make: the blocks
are dealt round-robin with a MARK in the last of every 16,384 positions, and coded by the port's reach class (R265, R270, R288). -/
def State.laneWords (s : State) (c j n : Nat) (l : List Out) : List (BitVec 128) :=
  let m := s.fld (statReg c) portStat_ACTIVE
  let w := popcount m 16
  let reach := s.fld (cfgReg c) portCfg_REACH
  let bs := (List.range n).map (fun p => dealt w (popcount m j) p (.ctl (s.markBlock c j)) (l.flatMap (Out.blks w)))
  dockWords ((chunks (unitBlks reach) bs).flatMap (unitEncode reach))
/-- Bit `i` of the PRBS stream of a lane under test (R308, R310): injection inverts one bit in every 2^k. Which bits the pattern has
is the SerDes macro's ("SerDes control bus"). -/
def Lane.testBit (x : Lane) (prbs : Nat → Bool) (i : Nat) : Bool :=
  if x.inj ≠ 0 ∧ i % 2 ^ x.inj = 2 ^ x.inj - 1 then !prbs i else prbs i

/-- Enter a state. -/
def State.setPst (s : State) (c st : Nat) : State :=
  (s.setFld (statReg c) portStat_STATE st).setLink c (fun l => { l with since := s.now })
/-- Show the active mask; every change of width is an event (R307). -/
def State.setActive (s : State) (c : Nat) (m : BitVec 16) : State :=
  let w := popcount m.toNat 16
  let old := s.fld (statReg c) portStat_WIDTH
  let s1 := (s.setFld (statReg c) portStat_ACTIVE m.toNat).setFld (statReg c) portStat_WIDTH w
  if old ≠ w then s1.portEvent c 0x0D else s1

/-- Has the node of a torus port's expected peer (R344)? -/
def State.expectedPeer (s : State) (c : Nat) : Nat :=
  let nx := s.fld .node node_NXM1 + 1
  let ny := s.fld .node node_NYM1 + 1
  let nz := s.fld .node node_NZM1 + 1
  let n := s.node
  let x := nfld n 8 4
  let y := nfld n 4 4
  let z := nfld n 0 4
  let mv (a k : Nat) : Nat := if c % 2 = 0 then (a + 1) % k else (a + k - 1) % k
  if c < 14 then 256 * mv x nx + 16 * y + z else if c < 16 then 256 * x + 16 * mv y ny + z else 256 * x + 16 * y + mv z nz
/-- Set or clear PEERBAD of a torus port (R345). -/
def State.peerCheck (s : State) (c : Nat) : State :=
  if c < 12 then s
  else
    let p : Pos := ⟨58 + (c - 12), 1⟩
    let bad := s.up c && decide (s.fld (statReg c) portStat_PEER ≠ s.expectedPeer c)
    let was := s.fld .routeStat p
    let s1 := s.setFld .routeStat p bad.toNat
    if bad ∧ was = 0 then s1.portEvent c 0x06 else s1
/-- Is a port marked PEERBAD? -/
def State.peerBad (s : State) (c : Nat) : Bool := decide (12 ≤ c) && decide (s.fld .routeStat ⟨58 + (c - 12), 1⟩ = 1)

/-! ### Credits (R282 to R287) -/

/-- Channels a port receives on (R281). -/
def portChans (c : Nat) : List Nat := if c < 12 then [0, 2, 4, 6] else List.range 12
/-- Shared pool and cap per channel, in units (R282). -/
abbrev poolUnits (c : Nat) : Nat := if c < 12 then 3584 else 14848
abbrev chanCap (c : Nat) : Nat := if c < 12 then 2048 else 8192

/-- Units of a channel held in the receive stage. -/
def State.heldUnits (s : State) (c ch : Nat) : Nat :=
  sumBy (fun (x : RxEnt) => x.units) (s.sw.rx.filter (fun x => decide (x.port = c ∧ x.chan = ch)))

/-- Element `i` of a list of counters. -/
def nthD (l : List Nat) (i : Nat) : Nat := l.getD i 0

/-- Is the push buffer of an edge port full while a push waits in it for a context slot (R73, log entry 98)? Pushes delivered
behind the one that waits stand in it too. -/
def State.pushFull (s : State) (c : Nat) : Bool :=
  let waits := s.tp.pushW.filter (fun w => decide (w.port = c))
  let behind := s.sw.inbox.filter (fun e => decide (e.pkt.opc = opPUSH ∧ e.port = c))
  waits.any (fun w => !w.slot) && decide (Config.pushBuffer ≤ waits.length + behind.length)

/-- Grant again what a channel has free (R284, R285): 128 dedicated units; an unused grant below 256 is raised to 256
from the shared pool, up to the cap (log entry 17). A port whose push buffer is full gets no REQ credits (R73). A changed G
makes a CREDIT block pending. -/
def State.regrant (s : State) (c : Nat) : State :=
  (portChans c).foldl (fun s ch =>
    let l := s.link c
    let held := s.heldUnits c ch
    let unused (k : Nat) : Nat := (nthD l.grantG k + 65536 - nthD l.arrU k) % 65536
    let lent := sumBy (fun k => (s.heldUnits c k + unused k) - 128) ((portChans c).filter (· ≠ ch))
    let most := min (chanCap c) (128 + (poolUnits c - lent))
    let want := if ch / 2 = clREQ ∧ s.pushFull c then unused ch else max (unused ch) (min 256 (most - held))
    let add := want - unused ch
    if add = 0 then s
    else
      let g := (nthD l.grantG ch + add) % 65536
      (s.setLink c (fun x => { x with grantG := x.grantG.set ch g })).pendCtl c (ctlCredit ch g)) s

/-! ### Replay (R292 to R295) -/

/-- The packets a port has sent and not had acknowledged, oldest first. -/
def State.unacked (s : State) (c : Nat) : List Rep := s.sw.replay.filter (fun r => r.port = c)
/-- LSEQ of the oldest unacknowledged packet, or the next one. -/
def State.oldest (s : State) (c : Nat) : Nat :=
  match s.unacked c with
  | r :: _ => r.lseq
  | [] => (s.link c).next

/-- Send START and every held packet from `n` on (R279, R293); sealed packets go as new records (R525). -/
def State.resend (s : State) (c n : Nat) : State :=
  let ps := (s.unacked c).filter (fun r => !serialBefore r.lseq n)
  let s0 := { s with sw := { s.sw with opens := s.sw.opens.filter (fun x => x.port ≠ c) } }
  let s1 := s0.linkEmit c (.ctl c (ctlLseq ctSTART n))
  (ps.foldl (fun s r => s.linkSend c r.lseq r.pkt) s1).setLink c (fun l =>
    { l with ackAt := s.now, lastTx := s.now })

/-- The receive stream of a port begins anew: nothing of a packet or a record is held. -/
def State.rxFresh (s : State) (c : Nat) : State :=
  let s1 := (List.range (portLanes c)).foldl (fun s j => s.setLane (portLane0 c + j) (fun x => { x with strm := false })) s
  s1.setLink c (fun l => { l with rxPart := [], rxRec := [], rxSeal := none, late := 0, burst := none })
/-- Lanes of a port are fenced: their receivers are ignored (R305). -/
def State.lanesFenced (s : State) (c : Nat) (m : BitVec 16) : State :=
  (bitsOf m.toNat 16).foldl (fun s j => s.setLane (portLane0 c + j) (fun x =>
    { x with locked := false, aligned := false, dock := [], buf := [], good := 0, hist := [], blks := [] })) s
/-- The block stream a port sends begins now (R270). -/
def State.txFresh (s : State) (c : Nat) : State := s.setLink c (fun l => { l with txAt := s.now, txN := 0 })

/-- Enter RETRAIN (R274, R279). -/
def State.enterRetrain (s : State) (c : Nat) : State :=
  if !s.up c then s
  else
    let m := BitVec.ofNat 16 (s.fld (statReg c) portStat_ACTIVE)
    let s1 := ((s.setPst c psRETRAIN).count (errReg c) portErr_RETRAIN 1).portEvent c 0x03
    let s2 := (s1.setFld (statReg c) portStat_TXIDLE 0).setFld (statReg c) portStat_RXIDLE 0
    ((s2.setLink c (fun l => { l with prev := m, marked := 0, pready := false, partner := none })).rxFresh c).peerCheck c

/-- A replay starts (R293, R295): the eighth in a row at one LSEQ sends the port to RETRAIN instead. -/
def State.replayFrom (s : State) (c n : Nat) : State :=
  let l := s.link c
  let k := if l.repSeq = n ∧ 0 < l.repN then l.repN + 1 else 1
  let s1 := ((s.count (errReg c) portErr_REPLAY 1).portEvent c 0x02).setLink c (fun x => { x with repSeq := n, repN := k })
  if 8 ≤ k then (s1.setLink c (fun x => { x with repN := 0 })).enterRetrain c else s1.resend c n

/-! ### Training (R274 to R279) -/

/-- Enter UP from ALIGN: sequence numbers and credits start from 0 (R274), and START goes before the first packet (R272). -/
def State.linkUp (s : State) (c : Nat) (m : BitVec 16) : State :=
  let s1 := (s.setPst c psUP).setActive c m
  let s2 := s1.setLink c (fun l => { l with
    next := 0, eseq := 0, cur := 0, resync := false, granted := zeros12, grantG := zeros12, arrU := zeros12
    usedU := zeros12, ackAt := s.now, repSeq := 0, repN := 0, lastTx := s.now, refAt := s.now, ctl := [] })
  let s3 := ((s2.rxFresh c).txFresh c).linkEmit c (.ctl c (ctlLseq ctSTART 0))
  (s3.regrant c).peerCheck c

/-- Go on with training as far as the port's lanes and its partner allow (R274, R276, R277, R279); the replay at the end of RETRAIN
counts as one (R295). -/
def State.train (s : State) (c : Nat) : State :=
  match s.agreed c with
  | none => s
  | some m =>
    let st := s.pst c
    let ready (s : State) : Bool := s.ownReady c && (s.link c).pready
    if st = psLOCK then
      if portMin c ≤ popcount (s.ownMask c).toNat 16 then
        (s.setPst c psALIGN).setLink c (fun l => { l with marked := 0 })
      else s
    else if st = psALIGN then
      if popcount m.toNat 16 < portMin c then (s.setPst c psLOCK).setLink c (fun l => { l with lockAt := s.now })
      else if ready s then s.linkUp c m
      else s
    else if st = psRETRAIN then
      if ready s then
        let s1 := ((((s.setPst c psUP).setActive c m).rxFresh c).txFresh c).peerCheck c
        if (s1.unacked c).isEmpty then s1.resend c (s1.oldest c) else s1.replayFrom c (s1.oldest c)
      else s
    else s

/-- Start training: LOCK, with the training timer running from now (R277). -/
def State.enterLock (s : State) (c : Nat) : State :=
  (s.setPst c psLOCK).setLink c (fun l => { l with lockAt := s.now, partner := none, pready := false, marked := 0 })

/-- The fenced lanes of a port have changed, `ret` of them returned to service (R306): in UP it retrains, and the lock wait is for
the returned lanes too (R278). -/
def State.lanesChanged (s : State) (c : Nat) (ret : BitVec 16) : State :=
  let s1 := s.enterRetrain c
  let s2 := if s1.pst c = psRETRAIN then s1.setLink c (fun l => { l with prev := l.prev ||| ret }) else s1
  if s.up c then s2 else s2.train c

/-- Is a port fenced by the fault aggregator (R463)? -/
def State.portFenced (s : State) (c : Nat) : Bool :=
  nbit (s.fld (.fltFence (portPart c)) fltFence_PORTS) (portK c)
/-- May a port leave OFF (R567)? -/
def State.mayTrain (s : State) (c : Nat) : Bool :=
  nbit (s.fld .ctl ctl_PORTEN) c && s.runs (portPart c) && !s.portFenced c
/-- Ports in OFF that may train do (R567). -/
def State.trainPorts (s : State) (l : List Nat) : State :=
  l.foldl (fun s c => if s.pst c = psOFF ∧ s.mayTrain c then s.enterLock c else s) s
/-- The three ports of a partition. -/
def partPorts (n : Nat) : List Nat := [12 + n, 2 * n, 2 * n + 1]

/-! ### Silence and loss (R55, R56, R303, R304) -/

/-- The request of an edge packet counts as sent from now: its 4 µs run (R134). -/
def State.ereqSent (s : State) (x : Option (Nat × Nat)) : State :=
  match x with
  | none => s
  | some k => { s with mv := { s.mv with
      ereq := updFirst (fun r => decide (r.port = k.1 ∧ r.etag = some k.2)) (fun r => { r with sent := r.sent <|> some s.now }) s.mv.ereq } }

/-- Is a copy bound for port `c`? -/
def Copy.boundFor (c : Nat) (x : Copy) : Bool := decide ((x.part, x.out) = outOf c)

/-- The port's transmitters stop, its receive direction is ignored, nothing it had in training stands. -/
def State.silence (s : State) (c st : Nat) : State :=
  let s1 := ((s.setPst c st).setFld (statReg c) portStat_TXIDLE 0).setFld (statReg c) portStat_RXIDLE 0
  let s2 := (s1.setActive c 0).setLink c (fun l => { l with partner := none, pready := false, marked := 0, ctl := [], resync := false })
  let s3 := (List.range (portLanes c)).foldl (fun s j => s.setLane (portLane0 c + j) (fun x => { x with blks := [] })) s2
  ((s3.rxFresh c).emit (.quiet c)).peerCheck c

/-- Galleries that run a step through a port abort it (R200). -/
def State.galsAtPort (s : State) (c reason : Nat) : State :=
  (s.gals.map (·.g)).foldl (fun s g =>
    if s.gstate g = gsRUNNING ∧ c ∈ (s.gdef g).ports then s.galAbort g reason c 99 else s) s

/-- A port is lost (R303): the packets it held are discarded, the traffic is failed, edge requests outstanding get no answer
any more (R59), and gallery steps abort. -/
def State.portDead (s : State) (c st : Nat) : State :=
  let reps := s.unacked c
  let cps := s.sw.copies.filter (Copy.boundFor c)
  let s1 := s.silence c st
  let s2 := { s1 with sw := { s1.sw with
    replay := s1.sw.replay.filter (fun r => r.port ≠ c)
    copies := s1.sw.copies.filter (fun x => !x.boundFor c)
    opens := s1.sw.opens.filter (fun x => x.port ≠ c) } }
  let s2' : State := { s2 with mv := { s2.mv with
    ereq := updAll (fun r => decide (r.port = c) && r.etag.isSome) (fun r => { r with lost := true }) s2.mv.ereq } }
  let s3 := cps.foldl (fun s x => s.ereqSent x.ereq) s2'
  let s4 := if c < 12 then s3
    else (reps.map (·.pkt) ++ cps.map (·.pkt)).foldl (fun s p => s.failCell (portPart c) p stUNREACH) s3
  s4.galsAtPort c grLINK
/-- Link loss (R303): counted, and one event; the transmitters stay silent for 1 µs. -/
def State.portLoss (s : State) (c st : Nat) : State :=
  (((s.count (errReg c) portErr_LOSS 1).portEvent c 0x04).portDead c st).setLink c (fun l => { l with mute := s.now + us 1 })

/-- Switch a port off with the effects of R303 (R304). -/
def State.portOff (s : State) (c : Nat) : State := if s.pst c = psOFF then s else s.portLoss c psOFF

end Sys2Proof.Machine
end

