-- ==== Sys2Proof/Machine/Sump.lean ====
section
/-! DEFINITION. Output buffers: reserves, the sump, tiles and quotas (spec/09_switch_core.md R313, R319 to R323, R574;
R183). -/

namespace Sys2Proof.Machine

/-- Tiles of a partition's buffer and of one bank. -/
abbrev bufTiles : Nat := 98304
abbrev bankTiles : Nat := 16384

/-- The queue of output `o` that a packet joins (R313): a channel on TOR, one queue on an edge output, a class on ENG
and NODE. -/
def queueOf (o cls dl : Nat) : Nat := if o = 0 then 2 * cls + dl else if o ≤ 2 then 0 else cls
/-- The class whose reserve a queue has. -/
def queueClass (o q : Nat) : Nat := if o = 0 then q / 2 else if o ≤ 2 then clREQ else q
/-- Queues of an output. -/
def queuesOf (o : Nat) : List Nat := List.range (if o = 0 then 12 else if o ≤ 2 then 1 else 6)
/-- The field of DX_RSV of a class. -/
def rsvPos (cls : Nat) : Pos := ⟨10 * cls, 10⟩
/-- The reserve of a queue (R319), as a register value `r` of DX_RSV gives it. -/
def rsvIn (r : Word) (o q : Nat) : Nat := fget r (rsvPos (queueClass o q))
/-- The reserve in force of a queue. -/
def State.reserve (s : State) (n o q : Nat) : Nat := rsvIn (s.reg (.rsv n o)) o q
/-- Reserves of an output under a register value. -/
def rsvSum (r : Word) (o : Nat) : Nat := sumBy (rsvIn r o) (queuesOf o)
/-- Reserves of a partition. -/
def State.reserves (s : State) (n : Nat) : Nat := sumBy (fun o => rsvSum (s.reg (.rsv n o)) o) (List.range 5)
/-- Is a tile fenced, alone or with its bank (R327)? -/
def State.tileOff (s : State) (n t : Nat) : Bool :=
  decide (t ∈ (s.part n).fenced) || nbit (s.fld (.fltFence n) fltFence_BANKS) (t / bankTiles)
/-- Fenced tiles. -/
def State.tilesFenced (s : State) (n : Nat) : Nat :=
  let b := s.fld (.fltFence n) fltFence_BANKS
  bankTiles * popcount b 6 + ((s.part n).fenced.filter (fun t => !nbit b (t / bankTiles))).length
/-- Fenced tiles that are out of the sump: one that a copy holds leaves it with that copy (R327). -/
def State.tilesOff (s : State) (n : Nat) : Nat :=
  s.tilesFenced n - (((s.sw.copies.filter (fun x => decide (x.part = n))).flatMap (fun x => x.tiles)).filter (s.tileOff n)).length
/-- Sump size (R319). -/
def State.sumpSize (s : State) (n : Nat) : Nat := bufTiles - s.reserves n - s.tilesOff n

/-- Copies of a queue. -/
def State.qCopies (s : State) (n o q : Nat) : List Copy :=
  s.sw.copies.filter (fun x => decide (x.part = n ∧ x.out = o ∧ x.chan = q))
/-- Tiles a list of copies holds. -/
def tilesIn (l : List Copy) : Nat := sumBy (fun (x : Copy) => x.tiles.length) l
/-- Tiles of a queue that came from its reserve. -/
def State.qRes (s : State) (n o q : Nat) : Nat := tilesIn ((s.qCopies n o q).filter (fun x => x.fromRes))
/-- Tiles that an increased reserve of a queue waits for (R322). -/
def State.shortOf (s : State) (n o q : Nat) : Nat :=
  sumBy (fun y => y.2.2) ((s.part n).short.filter (fun y => decide (y.1 = o ∧ y.2.1 = q)))
/-- The tiles that a queue's reserve has (R322). -/
def State.reserveHas (s : State) (n o q : Nat) : Nat := s.reserve n o q - s.shortOf n o q
/-- Sump tiles of a queue, those beyond what its reserve has included (R322). -/
def State.qSump (s : State) (n o q : Nat) : Nat :=
  tilesIn ((s.qCopies n o q).filter (fun x => !x.fromRes)) + (s.qRes n o q - s.reserveHas n o q)
/-- Depth of a queue (R335). -/
def State.qDepth (s : State) (n o q : Nat) : Nat := tilesIn (s.qCopies n o q)
/-- Depth of an output. -/
def State.outDepth (s : State) (n o : Nat) : Nat := tilesIn (s.sw.copies.filter (fun x => decide (x.part = n ∧ x.out = o)))
/-- Sump tiles of a slice in a partition (R321). -/
def State.sliceSump (s : State) (n sl : Nat) : Nat :=
  tilesIn (s.sw.copies.filter (fun x => decide (x.part = n ∧ x.pkt.h.slice.toNat = sl) && !x.fromRes))
/-- Sump tiles in use: packets, gallery frames held for their next step (R198), and accumulation tiles of valid galleries
(R319). -/
def State.sumpUsed (s : State) (n : Nat) : Nat :=
  sumBy (fun o => sumBy (fun q => s.qSump n o q) (queuesOf o)) (List.range 5) + s.acctHeld n + s.outDepth n outHeld
/-- Free tiles of the sump. -/
def State.sumpFree (s : State) (n : Nat) : Nat := s.sumpSize n - s.sumpUsed n

/-- Keep the first `k` of the tiles that reserves wait for. -/
def shortTo : Nat → List (Nat × Nat × Nat) → List (Nat × Nat × Nat)
  | _, [] => []
  | 0, _ :: _ => []
  | k + 1, y :: t => (y.1, y.2.1, min y.2.2 (k + 1)) :: shortTo (k + 1 - y.2.2) t
/-- Reserves of partition `n` take the tiles of the sump that have become free: they wait for as many as it still lacks (R322). -/
def State.shortRefresh (s : State) (n : Nat) : State :=
  if (s.part n).short.isEmpty then s
  else s.setPart n (fun p => { p with short := shortTo (s.sumpUsed n - s.sumpSize n) p.short })
/-- The reserves of output `o` have been written, `old` before (R322): what they grew by waits for tiles of the sump. -/
def State.reserveWritten (s : State) (n o : Nat) (old : Word) : State :=
  let grown := (queuesOf o).filterMap (fun q =>
    let k := s.reserve n o q - rsvIn old o q
    if k = 0 then none else some (o, q, k))
  let kept (l : List (Nat × Nat × Nat)) : List (Nat × Nat × Nat) :=
    l.map (fun y => if y.1 = o then (y.1, y.2.1, y.2.2 - (rsvIn old o y.2.1 - s.reserve n o y.2.1)) else y)
  (s.setPart n (fun p => { p with short := kept p.short ++ grown })).shortRefresh n

/-! ### Strict partition mode (R323, R374) -/

/-- Is strict partition mode in force? -/
def State.strictOn (s : State) : Bool := decide (s.fld .strict strict_EN = 1)
/-- Sum of the quotas of the slices in use (ACTIVE or in teardown). -/
def State.quotaSum (s : State) : Nat :=
  sumBy (fun sl => if s.fld (.slice sl) slice_STATE = 0 then 0 else s.fld (.squota sl) squota_QUOTA) (List.range 64)
/-- The quota of a slice in a partition, scaled under strict mode where the quotas sum to more than the sump. -/
def State.quota (s : State) (n sl : Nat) : Nat :=
  let q := s.fld (.squota sl) squota_QUOTA
  if s.strictOn then
    let sum := s.quotaSum
    if s.sumpSize n < sum then q * s.sumpSize n / sum else q
  else q
/-- Count the scaling of quotas (R323) in the partitions where it holds, or will once every copy has left the fenced tiles. -/
def State.quotaCheck (s : State) (l : List Nat) : State :=
  l.foldl (fun s n =>
    if s.strictOn ∧ bufTiles - s.reserves n - s.tilesFenced n < s.quotaSum then s.event n 0x15 ⟨0, n⟩ else s) s
/-- PEND of DX_STRICT: some slice exceeds its quota in some partition. -/
def State.strictPend (s : State) : Bool :=
  (List.range 6).any (fun n => (List.range 64).any (fun sl => decide (s.quota n sl < s.sliceSump n sl)))

/-! ### Taking tiles (R321) -/

/-- 2^(ALPHA − 3) times `x`, compared with `y`: is `y` at most that? -/
def alphaOk (alpha x y : Nat) : Bool := decide (8 * y ≤ 2 ^ alpha * x)

/-- The second case of R321: can a copy of `k` tiles of slice `sl` take them all from the sump? -/
def State.sumpAdmits (s : State) (n o q sl k : Nat) : Bool :=
  let own := s.sliceSump n sl
  let free := if s.strictOn then s.quota n sl - own else s.sumpFree n
  decide (k ≤ free) && alphaOk (s.fld (.sumpCfg n) sumpCfg_ALPHA) free (s.qSump n o q + k)
    && decide (own + k ≤ s.quota n sl)
/-- Can the sump of `n` take `k` tiles of a gallery frame of slice `sl` that belongs to no queue (R198)? The share of a queue does
not apply. -/
def State.sumpHolds (s : State) (n sl k : Nat) : Bool :=
  let own := s.sliceSump n sl
  decide (k ≤ (if s.strictOn then s.quota n sl - own else s.sumpFree n) ∧ own + k ≤ s.quota n sl)
/-- The first case: from the reserve. -/
def State.resAdmits (s : State) (n o q k : Nat) : Bool := decide (s.qRes n o q + k ≤ s.reserveHas n o q)

/-- The `k` lowest tiles from `t` on that are free, with fuel. -/
def pickTiles (busy : Nat → Bool) : Nat → Nat → Nat → List Nat
  | 0, _, _ => []
  | _ + 1, _, 0 => []
  | f + 1, t, k + 1 => if busy t then pickTiles busy f (t + 1) (k + 1) else t :: pickTiles busy f (t + 1) k

/-- Free tiles for a copy: the lowest-numbered free ones (log entry 18). -/
def State.takeTiles (s : State) (n k : Nat) : List Nat :=
  let held := (s.sw.copies.filter (fun x => decide (x.part = n))).flatMap (fun x => x.tiles)
  pickTiles (fun t => decide (t ∈ held) || s.tileOff n t) bufTiles 0 k

/-- Tiles of the copies of partition `n` that meet `p`, of the slice that its telemetry counts (R396). -/
def State.telTiles (s : State) (n : Nat) (p : Copy → Bool) : Nat :=
  tilesIn (s.sw.copies.filter (fun y => decide (y.part = n) && s.telCounts n y.pkt.h.slice.toNat && p y))
/-- USED of DX_SUMP_STAT: sump tiles in use, of the counted slice (R319, R396). -/
def State.usedShown (s : State) (n : Nat) : Nat :=
  if s.fld (.telFilt n) telFilt_EN = 0 then s.sumpUsed n
  else s.telTiles n (fun y => !y.fromRes) + s.acctOf n (s.telCounts n)
/-- DEPTH of DX_TEL_Q (R396). -/
def State.depthShown (s : State) (n o : Nat) : Nat := s.telTiles n (fun y => decide (y.out = o))
/-- Raise the high-water mark of a sump (R396). -/
def State.sumpHigh (s : State) (n : Nat) : State := s.high (.sumpStat n) sumpStat_HWM (s.usedShown n)
/-- Store a copy in an output queue, or in the sump outside every queue (R198), and raise the high-water marks (R321, R396). -/
def State.store (s : State) (n o : Nat) (x : Copy) (fromRes : Bool) : State :=
  let s1 := State.sumpHigh
    { s with sw := { s.sw with copies := s.sw.copies ++ [{ x with tiles := s.takeTiles n x.pkt.tiles, fromRes }] } } n
  if 5 ≤ o then s1 else s1.high (.telQ n o) telQ_HWM (s1.depthShown n o)

end Sys2Proof.Machine
end

