-- ==== Sys2Proof/Machine/Dump.lean ====
section
/-! DEFINITION. The crash dump (spec/15_recovery.md R481 to R489, R577). -/

namespace Sys2Proof.Machine

/-- Slot bytes, and the first byte of records in a slot (R483). -/
abbrev slotBytes : Nat := 0x800000
abbrev slotAddr (i : Nat) : Nat := 0x10000000 + i * slotBytes

/-- A 16-byte dump item (R577): kind, SUB, KEY in bytes 1 to 7, VALUE. -/
def dumpItem (kind sub key val : Nat) : List Byte :=
  natBytes 1 (kind % 16 + 16 * (sub % 16)) ++ natBytes 7 key ++ natBytes 8 val
/-- A register item. -/
def State.regItem (s : State) (r : Reg) : List Byte := dumpItem 0 0 r.addr (s.reg r).toNat
/-- A packet-header item. -/
def hdrItem (idx : Nat) (p : Pkt) : List Byte :=
  natBytes 1 (5 + 16 * (idx % 16)) ++ zeros 3 ++ natBytes 12 p.h.bits.toNat
/-- A command item. -/
def cmdItem (src qid seq opc tag : Nat) : List Byte :=
  dumpItem 2 0 (src % 2 ^ 16 + (qid % 2 ^ 20) <<< 16 + (seq % 2 ^ 16) <<< 36) (opc % 256 + (tag % 2 ^ 16) <<< 16)

/-- A record header (table of R487): RLEN, UTYPE, UIDX, RSTAT, TCODE, TIME. -/
def dumpHead (len st idx rstat tcode time : Nat) : List Byte :=
  natBytes 8 (len % 2 ^ 16 + (st % 16) <<< 16 + (idx % 2 ^ 20) <<< 20 + (rstat % 8) <<< 40 + (tcode % 2 ^ 16) <<< 48)
    ++ natBytes 8 time

/-- The engines of a partition: 8 cores, 2 copy engines, atomic unit, sequencer (R485). -/
def engineList : List (Nat × Nat) :=
  (List.range 8).map (fun j => (syCORE, j)) ++ [(syCPE, 0), (syCPE, 1), (syATU, 0), (sySEQ, 0)]

/-- Freeze the engines of Pn at step 1 of a reset (R490). -/
def State.freeze (s : State) (n : Nat) : State :=
  let l := engineList.flatMap (fun e => (s.heldNow n e.1 e.2).map (fun k => (e, k)))
  s.setPart n (fun p => { p with frozen := l })
/-- Commands an engine holds: in a reset, those it was frozen with. -/
def State.held (s : State) (n st idx : Nat) : List (Nat × Nat × Nat × Nat × Nat) :=
  if (s.part n).rst then ((s.part n).frozen.filter (fun y => y.1 = (st, idx))).map (·.2) else s.heldNow n st idx

/-- Queues whose contexts a dump of Pn reads (R485): INFL not 0 and bound to a port of Pn, or with a command started in
Pn. -/
def State.dumpQueues (s : State) (n : Nat) : List QCtx :=
  s.allCtx.filter (fun c => decide (fget c.w2 qINFL ≠ 0)
    && (decide (portPart (fget c.w0 qPORT) = n) || s.tp.snds.any (fun x => decide (x.qid = c.qid ∧ x.part = n ∧ epNode x.iss = s.node))))

/-- Contents of a unit's record (R485, R577). What an engine's own registers hold is free (log entry 3). -/
def State.unitData (s : State) (n st idx : Nat) : List Byte :=
  if st = syPART then
    s.regItem (.fltStat n) ++ (List.range 32).flatMap (fun i => (List.range 4).flatMap (fun w => s.regItem (.cairn n i w)))
  else if st = syCORE ∨ st = syCPE ∨ st = syATU ∨ st = sySEQ then
    dumpItem 0 0 0x80000000 (Config.engineWord st idx 0).toNat ++ dumpItem 1 0 0 (s.progOf n st idx).n
      ++ (s.held n st idx).flatMap (fun k => cmdItem k.1 k.2.1 k.2.2.1 k.2.2.2.1 k.2.2.2.2)
  else if st = syUNIT ∧ idx = 0 then
    (s.dumpQueues n).flatMap (fun c =>
      dumpItem 3 0 c.qid c.w0.toNat ++ dumpItem 3 1 c.qid c.w1.toNat ++ dumpItem 3 2 c.qid c.w2.toNat ++ dumpItem 3 3 c.qid 0
        ++ (s.tp.txns.filter (fun (t : Txn) => t.qid = c.qid)).flatMap (fun t => cmdItem t.ep t.qid t.seq t.cmd.opc t.cmd.tag))
  else if st = syUNIT then
    let qs := (s.dumpQueues n).map (·.qid)
    (s.tp.waits.filter (fun w => decide (epNode w.src.toNat = s.node ∧ w.qid ∈ qs))).flatMap (fun w =>
      let key := w.sync % 2 ^ 16 + (w.qid % 2 ^ 20) <<< 16 + w.src.toNat <<< 36 + (w.cmp % 8) <<< 52
      dumpItem 4 0 key w.target ++ dumpItem 4 1 key w.deadline)
  else if st = syPORT then
    s.regItem (statReg idx) ++ s.regItem (errReg idx)
      ++ (portChans idx).flatMap (fun ch => match s.sw.rx.find? (fun x => decide (x.port = idx ∧ x.chan = ch)) with
          | some x => hdrItem ch x.pkt
          | none => [])
  else if st = syOUT then
    (queuesOf idx).flatMap (fun q => dumpItem 6 q idx (s.qDepth n idx q)
      ++ (match s.qCopies n idx q with | x :: _ => hdrItem q x.pkt | [] => []))
  else
    (List.range 4).flatMap (fun w => s.regItem (.galDesc idx w)) ++ s.regItem (.galStat idx)

/-- Is a unit fenced, so that it is not read (R486)? -/
def State.unitOff (s : State) (n st idx : Nat) : Bool :=
  let r := s.reg (.fltFence n)
  (decide (st = syCORE) && nbit (fget r fltFence_CORES) idx) || (decide (st = syCPE) && nbit (fget r fltFence_CPE) idx)
    || (decide (st = syPORT) && s.portFenced idx)

/-- The units of a dump in order, fenced ones last (R485). -/
def State.dumpUnits (s : State) (n : Nat) : List (Nat × Nat) :=
  let eng := engineList
  let stalled := match (s.part n).stalled with | some e => [e] | none => []
  let gs := (s.gals.filter (fun x => let d := s.gdef x.g; d.v && decide (n ∈ d.partsOf ∨ n = d.part))).map (fun x => (syGAL, x.g))
  let l := (syPART, n) :: stalled ++ eng.filter (fun e => e ∉ stalled) ++ [(syUNIT, 0), (syUNIT, 1)]
    ++ (partPorts n).map (fun c => (syPORT, c)) ++ (List.range 5).map (fun o => (syOUT, o)) ++ gs
  let off (e : Nat × Nat) : Bool := s.unitOff n e.1 e.2
  l.filter (fun e => !off e) ++ l.filter off

/-- Write bytes of a dump slot on the block's own channels (R482). -/
def State.slotWrite (s : State) (slot off : Nat) (d : List Byte) (cont : Cont) : State :=
  s.startWrite 0 12 (slotAddr slot + off) d 0 .direct cont

/-- Word 0 of a slot header. -/
def dumpWord0 (st part gen code seq : Nat) : List Byte :=
  natBytes 8 (st + part <<< 4 + gen <<< 8 + (code % 256) <<< 16 + (seq % 2 ^ 16) <<< 24)

/-- Start a dump of Pn: `cmd` is DUMP on queue 0, else the dump of a reset (R483, R488). -/
def State.dumpStart (s : State) (n : Nat) (cmd : Option Cmd) : State :=
  let v := s.fld .dumpStat dumpStat_VALID
  let pick := (List.range 8).find? (fun i => !nbit v i)
  let slot := pick.getD ((s.fld .dumpStat dumpStat_LAST + 1) % 8)
  let s1 := if pick.isNone then s.count .dumpStat dumpStat_OVW 1 else s
  let s2 := s1.setFld .dumpStat dumpStat_VALID (v ||| 2 ^ slot)
  let s3 := (s2.setFld .dumpStat dumpStat_LAST slot).setFld .dumpStat dumpStat_BUSY 1
  let p := s.part n
  let code := if cmd.isSome then 0xFD else p.cause
  let seq := if cmd.isSome ∨ p.cause = 0xFF then 0 else p.causeSeq
  let d : Dump := { part := n, cmd, slot, code, seq, start := s.now, units := s.dumpUnits n, askAt := s.now, askFt := s.fnow, bytes := 0
                    unread := 0, recs := 0, hdr := BitVec.ofNat 64 s.fnow, ending := none }
  let s4 := { s3 with mg := { s3.mg with dump := some d } }
  let s5 := if cmd.isNone then s4.setFld (.rcvStat n) rcvStat_PSTATE ptDUMPING else s4
  s5.slotWrite slot 0 (dumpWord0 1 n (s.gen n) code seq) .dumpEnd

/-- Start the first dump that waits, if none runs (R484). -/
def State.dumpNext (s : State) : State :=
  if s.mg.dump.isSome then s
  else match s.mg.engDump with
    | [] => s
    | e :: t => State.dumpStart { s with mg := { s.mg with engDump := t } } e.1 e.2

/-- Append a record to the slot: where it does not fit, the dump ends with STATE 3 (R487). TIME is when the unit was first
read: a unit that did not answer, when it was asked. -/
def State.dumpAdd (s : State) (d : Dump) (st idx rstat tcode : Nat) (data : List Byte) : State :=
  let r := dumpHead data.length st idx rstat tcode (if rstat = 1 then d.askFt else s.fnow) ++ data
  if slotBytes < 0x1000 + d.bytes + r.length then
    { s with mg := { s.mg with dump := some { d with ending := some 3 } } }
  else
    let d1 : Dump := { d with
      units := d.units.drop 1, askAt := s.now, askFt := s.fnow, bytes := d.bytes + r.length, recs := d.recs + 1
      unread := if rstat = 0 then d.unread else d.unread + 1 }
    (State.slotWrite { s with mg := { s.mg with dump := some d1 } } d.slot (0x1000 + d.bytes) r .dumpEnd)

/-- End a dump with STATE `st`: unread units get their headers, then words 1 to 3 are written (R487). -/
def State.dumpClose (s : State) (st : Nat) : State :=
  match s.mg.dump with
  | none => s
  | some d0 =>
    let s1 := d0.units.foldl (fun s u => match s.mg.dump with
      | some d => s.dumpAdd d u.1 u.2 3 0 []
      | none => s) s
    match s1.mg.dump with
    | none => s1
    | some d =>
      let w := natBytes 8 d.hdr.toNat ++ natBytes 8 s.fnow
        ++ natBytes 8 (d.bytes % 2 ^ 32 + (d.unread % 2 ^ 16) <<< 32 + (d.recs % 2 ^ 16) <<< 48)
      (State.slotWrite { s1 with mg := { s1.mg with dump := some { d with ending := some st } } } d.slot 8 w .dumpEnd)

/-- Writes of the running dump still unanswered. -/
def State.dumpWrites (s : State) : Bool := s.mv.jobs.any (fun j => match j.cont with | .dumpEnd => true | _ => false)

/-- The final word 0, once every other write has been answered (R488): the dump is over, DUMP completes, and a reset goes
on to CLEARING. -/
def State.dumpFinish (s : State) : State :=
  match s.mg.dump with
  | none => s
  | some d =>
    match d.ending with
    | none => s
    | some st =>
      if s.dumpWrites then s
      else
        let s1 := s.slotWrite d.slot 0 (dumpWord0 st d.part (s.gen d.part) d.code d.seq) .drop
        let s2 := State.setFld { s1 with mg := { s1.mg with dump := none } } .dumpStat dumpStat_BUSY 0
        match d.cmd with
        | some c => s2.mgmtRec c stDONE (d.slot + st <<< 8)
        | none =>
          if s2.pstate d.part = ptDUMPING then s2.setFld (.rcvStat d.part) rcvStat_PSTATE ptCLEARING else s2

/-- A reset line or a block reset stops a dump at once (R489): STATE 4. A DUMP on queue 0 so stopped completes with it. -/
def State.dumpAbandon (s : State) : State :=
  match s.mg.dump with
  | none => s
  | some d =>
    let s1 := s.slotWrite d.slot 0 (dumpWord0 4 d.part (s.gen d.part) d.code d.seq) .drop
    let s2 := State.setFld { s1 with mg := { s1.mg with dump := none } } .dumpStat dumpStat_BUSY 0
    match d.cmd with
    | some c => s2.mgmtRec c stDONE (d.slot + 4 <<< 8)
    | none => s2

end Sys2Proof.Machine
end

