-- ==== Sys2Proof/Machine/Reset.lean ====
section
/-! DEFINITION. Partition resets: take, clear and release (spec/15_recovery.md R490 to R505). -/

namespace Sys2Proof.Machine

/-! ### The pace level -/

/-- Is a partition dormant, so that its sensors and demands are ignored (R49, R429)? -/
def State.dormant (s : State) (n : Nat) : Bool := decide (s.pwState n = 3)

/-- S is the largest of the three demands (R429). -/
def State.paceLevel (s : State) (n : Nat) : State :=
  let v := s.reg (.paceStat n)
  s.setFld (.paceStat n) paceStat_S (max (fget v paceStat_SDROOP) (max (fget v paceStat_SPWR) (fget v paceStat_STHERM)))

/-- Set a demand; S follows. -/
def State.setDemand (s : State) (n : Nat) (p : Pos) (v : Nat) : State := (s.setFld (.paceStat n) p v).paceLevel n

/-- The droop demand of a partition whose sensors assert their trips is at least DSTEP (R430), whatever has just returned
its register to reset: the pace stays stretched for as long as a trip is asserted (R48). -/
def State.tripDemand (s : State) (n : Nat) : State :=
  if (s.part n).trips.isEmpty then s
  else s.setDemand n paceStat_SDROOP (max (s.fld (.paceStat n) paceStat_SDROOP) (s.fld .paceCfg paceCfg_DSTEP))

/-- The sensors of a partition that leaves dormancy are looked at again (R49): a droop level still asserted is a trip of this
moment, and the 100 µs of R47 start anew (log entry 104). -/
def State.sensorsBack (s : State) (n : Nat) : State :=
  let k := (s.part n).trips.length
  let s1 := s.setPart n (fun p => { p with trips := p.trips.map (fun x => (x.1, s.now)), stuck := [] })
  let wake : Therm := { lastAt := s.now, hotAt := none }
  let s2 : State := { s1 with therms := [2 * n, 2 * n + 1].foldl (fun v m => v.setIfInBounds m wake) s1.therms }
  ((if k = 0 then s2 else s2.count (.paceStat n) paceStat_DROOPS k)).tripDemand n

/-! ### Take -/

/-- The commands of this node that a packet belongs to: a request by its SRC, an answer by its DST (R245). -/
def State.pktTxns (s : State) (p : Pkt) : List Nat :=
  let ans := decide (p.opc ∈ [opACK, opGETDATA, opFAIL, opCOPYRPT])
  let e := if ans then p.h.dst.toNat else p.h.src.toNat
  if p.flag fMC ∨ !(p.opc ∈ [opPUT, opPUTI, opGET, opCOPY, opATOMIC, opSYNCADD, opSYNCSET, opSYNCWAIT, opPROBE] || ans) then []
  else (s.tp.txns.filter (fun (t : Txn) => decide (t.ep = e ∧ t.xid = xidOf p))).map (·.id)

/-- The command of this node that a transfer key belongs to. -/
def State.keyTxns (s : State) (src xid qid seq : Nat) : List Nat :=
  (s.tp.txns.filter (fun (t : Txn) => decide (t.ep = src ∧ t.xid = xid ∧ t.qid = qid ∧ t.seq = seq))).map (·.id)

/-- Commands of this node a data move works for. -/
def State.contTxns (s : State) (c : Cont) : List Nat :=
  match c with
  | .sndData x => match s.tp.snds.find? (fun y => y.id = x) with
    | some y => if y.role = 0 then [y.txn] else s.keyTxns y.iss y.ixid y.qid y.seq
    | none => []
  | .rxWrite src qid seq xid _ _ _ _ => s.keyTxns src xid qid seq
    ++ (s.tp.txns.filter (fun (t : Txn) => decide (t.cmd.opc = opCOPY ∧ t.cmd.srcep = src ∧ t.qid = qid ∧ t.seq = seq))).map (·.id)
  | .getWrite t _ _ _ => [t]
  | .atomic p _ => s.pktTxns p
  | .galRead _ t _ => [t]
  | .galWrite _ _ t _ _ => [t]
  | _ => []

/-- Packets held in Pn: receive stages, waiting packets, copies, replay buffers, deliveries. -/
def State.pktsIn (s : State) (n : Nat) : List Pkt :=
  (s.sw.rx.filter (fun x => decide (portPart x.port = n))).map (·.pkt)
    ++ (s.sw.inj.filter (fun x => decide (x.part = n))).map (·.pkt)
    ++ (s.sw.copies.filter (fun x => decide (x.part = n))).map (·.pkt)
    ++ (s.sw.replay.filter (fun x => decide (portPart x.port = n))).map (·.pkt)
    ++ (s.sw.inbox.filter (fun x => decide (x.part = n))).map (·.pkt)

/-- Jobs with an edge request on a port of Pn or a request in its deep-store channels. -/
def State.jobsIn (s : State) (n : Nat) : List Nat :=
  (s.mv.ereq.filter (fun r => decide (portPart r.port = n))).map (·.job)
    ++ (s.st.reqs.filter (fun r => decide (r.part = some n))).map (·.job)

/-- Commands of this node with work held in Pn (R490 step 1, R493). -/
def State.heldTxns (s : State) (n : Nat) : List Nat :=
  let js := s.jobsIn n
  ((s.pktsIn n).flatMap s.pktTxns
    ++ (s.mv.jobs.filter (fun j => decide (j.id ∈ js))).flatMap (fun j => s.contTxns j.cont)
    ++ (s.tp.snds.filter (fun x => decide (x.part = n))).flatMap (fun x => s.contTxns (.sndData x.id))).dedup

/-- Is a command's queue bound to a port of Pn (R493)? -/
def Txn.boundTo (n : Nat) (t : Txn) : Bool := decide (t.qid ≠ 0 ∧ portPart t.port = n)

/-- RWIN follows the resets in the window (R501). -/
def State.rwin (s : State) (n : Nat) : State :=
  s.setFld (.rcvStat n) rcvStat_RWIN (min 15 (s.part n).resetAt.length)

/-- Bus cycles of LANE_TEST that waited for the DX_SDB access go out in order (R27). -/
def State.sdbFlush (s : State) : State :=
  let q := s.sdb.queue
  q.foldl (fun s x => s.emit (.sdb x.1 x.2.1 true x.2.2)) { s with sdb := { s.sdb with acc := none, queue := [] } }

/-- End the DX_SDB access in progress, with or without success (R23, R24, R28). -/
def State.sdbEnd (s : State) (ok : Bool) : State :=
  let s1 := s.setFld .sdbCmd sdbCmd_GO 0
  (if ok then s1 else s1.setFld .sdbCmd sdbCmd_ERR 1).sdbFlush

/-- A reset of Pn ends an access to one of its lanes (R28). -/
def State.sdbReset (s : State) (n : Nat) : State :=
  match s.sdb.acc with
  | some (l, _) => if portPart (lanePort l) = n then s.sdbEnd false else s
  | none => s

/-- Step 1 of a reset (R490): ports silent, gallery steps aborted, receive records freed, commands with work in Pn ended. -/
def State.takeStep (s : State) (n : Nat) : State :=
  let s0 := (s.freeze n).sdbReset n
  let s1 := (partPorts n).foldl (fun s c => if s.pst c = psOFF then s else s.silence c psOFF) s0
  let uses (g : Nat) : Bool := let d := s1.gdef g; decide (n ∈ d.partsOf ∨ n = d.part) || d.ports.any (fun c => decide (portPart c = n))
  let s2 := (s1.gals.map (·.g)).foldl (fun s g =>
    if s.gstate g = gsRUNNING ∧ uses g then s.galAbort g grRESET 31 99 else s) s1
  let s3 := { s2 with tp := { s2.tp with
    rrecs := s2.tp.rrecs.filter (fun r => !decide (epPort r.dst < 12 ∧ portPart (epPort r.dst) = n)) } }
  (s3.heldTxns n).foldl (fun s id => match s.findTxn id with
    | some t => if t.boundTo n then s else s.endTxn id stPRESET ((s.gen n + 1) % 16)
    | none => s) s3

/-- The reset is counted: RESETS, RWIN, LASTCODE. -/
def State.resetCount (s : State) (n cause seq : Nat) (win : Bool) : State :=
  let s1 := (s.count (.rcvStat n) rcvStat_RESETS 1).setFld (.rcvStat n) rcvStat_LASTCODE cause
  let s2 := s1.setPart n (fun p => { p with
    rst := true, gened := false, cleared := false, thermOos := false, wasOos := !win, cause, causeSeq := seq
    resetAt := if win then p.resetAt ++ [s.now] else p.resetAt })
  s2.rwin n

/-- The partition's domain is enabled, where the block domain's supply allows it (R52). -/
def State.enable (s : State) (n : Nat) : State :=
  if s.voltOk then s.setPart n (fun p => { p with dark := false }) else s

/-- A partition in or near dormancy runs again when a reset takes it: its domain is enabled first (R45, R557). -/
def State.leaveDormant (s : State) (n : Nat) : State :=
  let s1 := if s.pstate n = ptDORMANT then (s.setFld (.rcvStat n) rcvStat_PSTATE ptRUN).enable n else s
  let s2 := (s1.setFld (.pstate n) pstate_STATE 0).setFld (.pstate n) pstate_REQ 0
  if s.pstate n = ptDORMANT then s2.sensorsBack n else s2

/-- Take a reset of a running Pn with a crash dump (R481, R484, R490). -/
def State.resetDump (s : State) (n cause seq : Nat) : State :=
  let s1 := ((s.resetCount n cause seq true).setFld (.rcvStat n) rcvStat_PSTATE ptDUMPWAIT).takeStep n
  State.dumpNext { s1 with mg := { s1.mg with engDump := s1.mg.engDump ++ [(n, none)] } }

/-- Pn's wait for a dump ends without one. -/
def State.dropDump (s : State) (n : Nat) : State :=
  let s1 := { s with mg := { s.mg with engDump := s.mg.engDump.filter (fun e => !decide (e.1 = n ∧ e.2 = none)) } }
  match s1.mg.dump with
  | some d => if d.part = n then s1.dumpAbandon.dumpNext else s1
  | none => s1

/-- Take a reset by line (R42, R44, R45, R489, R503, R505). -/
def State.resetLine (s : State) (n : Nat) : State :=
  let st := s.pstate n
  let held (s : State) : State := s.setFld (.rcvStat n) rcvStat_PSTATE ptHELD
  if st = ptHELD then s
  else if st = ptDUMPWAIT ∨ st = ptDUMPING then held (s.dropDump n)
  else if st = ptCLEARING then held (s.setPart n (fun p => { p with cleared := false }))
  else if st = ptOOS then held ((s.resetCount n 0 0 false).sdbReset n)
  else (held (((s.leaveDormant n).resetCount n 0 0 true).dropDump n)).takeStep n

/-- Take Pn out of service at once (R502): step 1 without a dump. While a reset runs, it ends out of service. -/
def State.outOfService (s : State) (n : Nat) : State :=
  if (s.part n).rst then s.setPart n (fun p => { p with thermOos := true })
  else if s.pstate n = ptOOS then s
  else ((s.leaveDormant n).setFld (.rcvStat n) rcvStat_PSTATE ptOOS).takeStep n

/-! ### Clear (R490 steps 3 and 4) -/

/-- Bits of "–" fields that show present conditions and no event resets (R560). -/
def Reg.live : Reg → Word
  | .therm _ => fmask therm_TEMP ||| fmask therm_STALE
  | .paceStat _ => fmask paceStat_DTRIPS ||| fmask paceStat_MEAS
  | _ => 0

/-- The value of a register after an event. -/
def Reg.afterLive (r : Reg) (e : KeepEvent) (v : Word) : Word := (r.after e v &&& ~~~r.live) ||| (v &&& r.live)

/-- Apply an event's retention to the registers that meet `p` (R16). -/
def State.retain (s : State) (e : KeepEvent) (p : Reg → Bool) : State :=
  (s.regs.map (fun x => x.1)).foldl (fun s a => match Reg.ofAddr a with
    | some r => if p r then s.setReg r (r.afterLive e (s.reg r)) else s
    | none => s) s

/-- The cancelled writes of Pn's deep-store channels: whether one's data had reached its tile is free (R32, R33). -/
def State.cancelReqs (s : State) (p : MReq → Bool) : State :=
  let gone := s.st.reqs.filter p
  let s1 := { s with st := { s.st with reqs := turnsFrom s.now s.st.reqs (s.st.reqs.filter (fun r => !p r)) } }
  gone.foldl (fun s r =>
    if r.kind = .write then
      let d := s.draw
      if d.1 % 2 = 1 then { d.2 with st := d.2.st.write (4096 * r.tile + r.lo) r.data } else d.2
    else s) s1

/-- INFL of every queue bound to Pn is 0 (R493). -/
def State.zeroInfl (s : State) (n : Nat) : State :=
  (s.allCtx.filter (fun c => decide (portPart (fget c.w0 qPORT) = n ∧ fget c.w2 qINFL ≠ 0))).foldl (fun s c =>
    s.updCtx c.qid (fun x => { x with w2 := fset x.w2 qINFL 0 })) s

/-- Is a data move gone with Pn: one of its requests was, or it worked for a queue bound to Pn? -/
def State.jobGone (s : State) (n : Nat) (js : List Nat) (j : Job) : Bool :=
  decide (j.id ∈ js) || (match j.cont with
    | .record r => decide (r.qid ≠ 0 ∧ portPart r.port = n)
    | .sndData x => s.tp.snds.any (fun y => decide (y.id = x ∧ y.part = n))
    | .atomic _ k => decide (k = n)
    | _ => false)

/-- What Pn holds is discarded; its commands end (R324, R33, R490, R493). -/
def State.discardPart (s : State) (n : Nat) : State :=
  let js := s.jobsIn n
  let mine (c : Nat) : Bool := decide (portPart c = n)
  let s0 := (s.sw.copies.filter (fun x => decide (x.part = n))).foldl (fun s x => s.ereqSent x.ereq) s
  let used := s0.mv.ereq.filterMap (fun r => if mine r.port then r.etag.map (fun e => (r.port, e, s.now)) else none)
  let s1 : State := { s0 with
    sw := { s0.sw with
      rx := s0.sw.rx.filter (fun x => !mine x.port)
      inj := s0.sw.inj.filter (fun x => x.part ≠ n)
      copies := s0.sw.copies.filter (fun x => x.part ≠ n)
      replay := s0.sw.replay.filter (fun x => !mine x.port)
      inbox := s0.sw.inbox.filter (fun x => x.part ≠ n)
      opens := s0.sw.opens.filter (fun x => !mine x.port) }
    mv := { s0.mv with
      jobs := s0.mv.jobs.filter (fun j => !s0.jobGone n js j)
      ereq := s0.mv.ereq.filter (fun r => !mine r.port)
      cool := s0.mv.cool ++ used }
    tp := { s0.tp with
      txns := s0.tp.txns.filter (fun t => !t.boundTo n)
      snds := s0.tp.snds.filter (fun x => x.part ≠ n)
      held := s0.tp.held.filter (fun h => h.1.part ≠ n)
      probes := s0.tp.probes.filter (fun e => e.part ≠ n)
      pushW := s0.tp.pushW.filter (fun w => !mine w.port) }
    gals := s0.gals.map (fun x =>
      let d := s0.gdef x.g
      { x with
        accs := x.accs.filter (fun a => d.home a.chunk ≠ n)
        mem := x.mem.filter (fun m => !mine m.port)
        heldC := x.heldC.filter (fun id => !s0.tp.txns.any (fun t => decide (t.id = id) && t.boundTo n)) }) }
  (s1.cancelReqs (fun r => decide (r.part = some n))).zeroInfl n

/-! ### Suspects and quarantine (R497, R499) -/

/-- Enter a suspect key with LEFT = PROBN, if there is room. -/
def State.suspect1 (s : State) (n src qid : Nat) : State :=
  match (List.range 64).find? (fun i => decide (s.fld (.susp n i) susp_V = 0)) with
  | none => s
  | some i =>
    let r := fset (fset (fset (fset 0 susp_V 1) susp_LEFT (s.fld .hangCfg hangCfg_PROBN)) susp_QID qid) susp_SRC src
    (s.setReg (.susp n i) r).setFld (.rcvStat n) rcvStat_SUSP (s.fld (.rcvStat n) rcvStat_SUSP + 1)
/-- Free a suspect entry. -/
def State.unsuspect (s : State) (n i : Nat) : State :=
  (s.setReg (.susp n i) 0).setFld (.rcvStat n) rcvStat_SUSP (s.fld (.rcvStat n) rcvStat_SUSP - 1)
/-- Quarantine a key whose command stalled an engine again (R499); one that finds DX_QUAR full goes on probation again, and an event
is counted (log entry 42). -/
def State.quarantine (s : State) (n src qid i : Nat) : State :=
  if epNode src = s.node then
    let s1 := s.unsuspect n i
    let s2 := if qid ≠ 0 ∧ s1.qstate qid = qsACTIVE then s1.setQState qid qsQUAR else s1
    ((s2.tp.txns.filter (fun (t : Txn) => t.qid = qid)).map (·.id)).foldl (fun s id => s.endTxn id stQUAR (s.gen n)) s2
  else match (List.range 64).find? (fun k => decide (s.fld (.quar n k) quar_V = 0)) with
    | some k =>
      let r := fset (fset (fset 0 quar_V 1) quar_QID qid) quar_SRC src
      ((s.unsuspect n i).setReg (.quar n k) r).setFld (.rcvStat n) rcvStat_QUAR (s.fld (.rcvStat n) rcvStat_QUAR + 1)
    | none => (s.setFld (.susp n i) susp_LEFT (s.fld .hangCfg hangCfg_PROBN)).setPart n (fun p => { p with quarN := p.quarN + 1 })
/-- List the suspects a stalled engine held, after the clear (R497, R499). A key bound to a port of Pn is not entered. -/
def State.listSuspects (s : State) (n : Nat) : State :=
  let ks := (s.part n).suspects
  let s1 := s.setPart n (fun p => { p with suspects := [], stalled := none, frozen := [] })
  ks.foldl (fun s k =>
    if epNode k.1 = s.node ∧ epPort k.1 < 12 ∧ portPart (epPort k.1) = n then s
    else match s.suspAt n k.1 k.2 with
      | some i => s.quarantine n k.1 k.2 i
      | none => s.suspect1 n k.1 k.2) s1

/-- Restart the snoop channels of Pn's ports and engines (R422). -/
def State.restartSnoop (s : State) (n : Nat) : State :=
  (List.range 24).foldl (fun s k =>
    let r := s.reg (.crcCh k)
    let i := fget r crcCh_SIDX
    let mine := if fget r crcCh_STYPE = 4 then decide (i / 2 = n) else decide (portPart i = n)
    if fget r crcCh_EN = 1 ∧ fget r crcCh_MODE = 0 ∧ mine then
      State.setReg { s with crcRun := s.crcRun.filter (fun x => x.1 ≠ k) } (.crcVal k) 0
    else s) s

/-- Step 3: GEN advances, once per reset (R490, R494, R505). -/
def State.advanceGen (s : State) (n : Nat) : State :=
  if (s.part n).gened then s
  else
    let g := s.gen n
    (s.setFld (.rcvStat n) rcvStat_GEN ((g + 1) % 16)).setPart n (fun p => { p with
      gened := true, genEnd := (p.genEnd.filter (fun x => x.1 ≠ g)) ++ [(g, s.now)] })

/-- Steps 3 and 4 of a reset of Pn (R490). The reserves and fences of step 4 are read from their registers. DESIGN CHOICE (log entry
117): a LANE_TEST on one of Pn's lanes goes on (R308). -/
def State.clearStep (s : State) (n : Nat) : State :=
  let s1 := (((s.enable n).sdbReset n).discardPart n).advanceGen n
  let s2 := s1.retain .partitionReset (fun r => decide (r.owner = some n))
  let s3 := (s2.listSuspects n).restartSnoop n
  s3.setPart n (fun p => { p with cleared := true, gate := false, prog := [] })

/-! ### Release (R490 step 5, R495, R501) -/

/-- Has the current generation been out of use for 4 ms (R495)? -/
def State.genRested (s : State) (n : Nat) : Bool :=
  (s.part n).genEnd.all (fun x => decide (x.1 ≠ s.gen n) || s.due x.2 (ms 4))

/-- Does the reset end out of service (R501 to R503)? A block reset does not count (R501), and takes every partition back to
service (R503). -/
def State.endsOos (s : State) (n : Nat) : Bool :=
  let p := s.part n
  p.wasOos || p.thermOos
    || (decide (p.cause ≠ 0xFE) && decide (s.fld .hangCfg hangCfg_ESCN ≤ s.fld (.rcvStat n) rcvStat_RWIN))

end Sys2Proof.Machine
end

