-- ==== Sys2Proof/Machine/Faults.lean ====
section
/-! DEFINITION. Fault units: taking events, raising faults, reactions, fences and the cairn (spec/14_faults.md R455 to
R470, R473). -/

namespace Sys2Proof.Machine

/-! Classes and causes (R461, R470). -/
abbrev clsCORR : Nat := 1
abbrev clsCONT : Nat := 2
abbrev clsFATAL : Nat := 3
abbrev csTHRESH : Nat := 0
abbrev csSECOND : Nat := 1
abbrev csTIMER : Nat := 2
abbrev csLIMIT : Nat := 3

/-- The class of the fault an event code raises (R460). -/
def codeClass (k : Nat) : Nat :=
  if k ∈ [0x2B, 0x38, 0x39] then clsFATAL
  else if k ∈ [0x04, 0x11, 0x19, 0x1A, 0x20, 0x22, 0x23, 0x33, 0x34] then clsCONT
  else clsCORR

/-- Is a source of unit `u` fenced (R457)? -/
def State.srcFenced (s : State) (u : Nat) (x : Src) : Bool :=
  let r := s.reg (.fltFence u)
  if x.st = syLANE then (s.fencedLanes (lanePort x.idx)).getLsbD (laneLocal x.idx)
  else if x.st = syPORT then s.portFenced x.idx
  else if x.st = syTILE then s.tileOff u x.idx
  else if x.st = syBANK then nbit (fget r fltFence_BANKS) x.idx
  else if x.st = syCORE then nbit (fget r fltFence_CORES) x.idx
  else if x.st = syCPE then nbit (fget r fltFence_CPE) x.idx
  else if x.st = syMEM then nbit (s.fld .dsStat dsStat_PFENCE) x.idx
  else false

/-- The enclosing source (R458). -/
def enclosing (u : Nat) (x : Src) : Src :=
  if x.st = syTILE then ⟨syBANK, x.idx / bankTiles⟩ else if x.st = syLANE then ⟨syPORT, lanePort x.idx⟩ else ⟨syPART, u⟩

/-- Does unit `u` take events now (R456)? Sensor events, thermal-critical ones
included, are taken while the partition is in reset. -/
def State.takesEvents (s : State) (u k : Nat) (x : Src) : Bool :=
  if 6 ≤ u then true
  else if s.pstate u = ptOOS ∨ s.pstate u = ptDORMANT ∨ s.pwState u = 3 then false
  else !(s.part u).rst || decide (x.st = sySENS ∨ k = 0x2B)

/-! ### Fences (R463, R464) -/

/-- The bank whose 64th fenced tile tile `t` would be, if it would be (R463). -/
def State.tileAsBank (s : State) (u t : Nat) : Bool :=
  decide (63 ≤ ((s.part u).fenced.filter (fun y => y / bankTiles = t / bankTiles)).length)

/-- What a reaction fences: `none` where it fences nothing (R462). -/
def State.fenceTarget (s : State) (u : Nat) (x : Src) (c : Nat) : Option Src :=
  if 6 ≤ u then if x.st = syMEM ∧ clsCONT ≤ c then some x else none
  else if c = clsFATAL then none
  else if x.st = syLANE then some (if c = clsCORR then x else ⟨syPORT, lanePort x.idx⟩)
  else if x.st = syPORT then if c = clsCORR then none else some x
  else if x.st = syTILE then
    some (if c = clsCORR ∧ !s.tileAsBank u x.idx then x else ⟨syBANK, x.idx / bankTiles⟩)
  else if x.st = syBANK ∨ x.st = syCORE then some x
  else if x.st = syCPE then if c = clsCORR then none else some x
  else none

/-- Would fencing `x` leave its partition below a limit (R464)? A fence in place breaks none. -/
def State.breaksLimit (s : State) (u : Nat) (x : Src) : Bool :=
  let r := s.reg (.fltFence u)
  !s.srcFenced u x &&
    (if x.st = syLANE then
      let c := lanePort x.idx
      decide (portLanes c - popcount (s.fencedLanes c).toNat (portLanes c) ≤ portMin c)
    else if x.st = syBANK then
      let left := ((s.part u).fenced.filter (fun t => t / bankTiles = x.idx)).length
      decide (bufTiles - (s.tilesFenced u + (bankTiles - left)) < s.reserves u + 16384)
    else if x.st = syCORE then decide (8 - popcount (fget r fltFence_CORES) 8 ≤ 4)
    else if x.st = syCPE then decide (2 - popcount (fget r fltFence_CPE) 2 ≤ 1)
    else false)

/-- Clear the entries of a source (R459). -/
def State.clearEntries (s : State) (u : Nat) (x : Src) : State :=
  s.setFunit u (fun f => { f with tab := f.tab.filter (fun e => e.src ≠ x) })

/-- Make a fence (R305, R327, R408, R463). -/
def State.fence (s : State) (u : Nat) (x : Src) : State :=
  if s.srcFenced u x then s
  else
    let s1 := s.clearEntries u x
    let set (p : Pos) : State := s1.setFld (.fltFence u) p (s1.fld (.fltFence u) p ||| 2 ^ x.idx)
    if x.st = syLANE then
      let c := lanePort x.idx
      ((s1.setFld (statReg c) portStat_HWFENCE (s1.fld (statReg c) portStat_HWFENCE ||| 2 ^ laneLocal x.idx)).lanesFenced c
        (BitVec.ofNat 16 (2 ^ laneLocal x.idx))).lanesChanged c 0
    else if x.st = syPORT then
      (s1.setFld (.fltFence u) fltFence_PORTS (s1.fld (.fltFence u) fltFence_PORTS ||| 2 ^ portK x.idx)).portOff x.idx
    else if x.st = syTILE then
      let s2 := s1.setPart u (fun p => { p with fenced := p.fenced ++ [x.idx] })
      (s2.setFld (.fltFence u) fltFence_TILES (s2.part u).fenced.length).quotaCheck [u]
    else if x.st = syBANK then State.quotaCheck (set fltFence_BANKS) [u]
    else if x.st = syCORE then set fltFence_CORES
    else if x.st = syCPE then set fltFence_CPE
    else if x.st = syMEM then s1.setFld .dsStat dsStat_PFENCE (s1.fld .dsStat dsStat_PFENCE ||| 2 ^ x.idx)
    else s1

/-! ### Raising (R461, R462) -/

/-- The pending bit of a class. -/
def pendPos (c : Nat) : Pos := if c = clsCORR then fltStat_PCORR else if c = clsCONT then fltStat_PCONT else fltStat_PFATAL
/-- Is a class pending? -/
def State.isPending (s : State) (u c : Nat) : Bool := decide (s.fld (.fltStat u) (pendPos c) = 1)

/-- The class and cause a raise ends with: the second-fault and limit rules (R461), with fuel. -/
def State.raiseTo (s : State) (u : Nat) (x : Src) : Nat → Nat → Nat → Nat × Nat
  | 0, c, cs => (c, cs)
  | f + 1, c, cs =>
    if c < clsFATAL ∧ s.isPending u c then s.raiseTo u x f (c + 1) csSECOND
    else match s.fenceTarget u x c with
      | some y => if s.breaksLimit u y ∧ c < clsFATAL then s.raiseTo u x f (c + 1) csLIMIT else (c, cs)
      | none => (c, cs)

/-- ACTION of the cairn entry (R470); a fence already in place is recorded with 1 (R464). -/
def State.actionOf (s : State) (u : Nat) (x : Src) (c code : Nat) (quiet : Bool) : Nat :=
  if quiet then 0
  else if 6 ≤ u then
    if c = clsFATAL then 5 else if (s.fenceTarget u x c).isSome then 1 else 0
  else if c = clsFATAL then if code = 0x2B then 4 else 3
  else match s.fenceTarget u x c with
    | none => 0
    | some y => if y = x ∨ s.srcFenced u y then 1 else 2

/-- Write the cairn entry of fault `q` (R470). -/
def State.cairnWrite (s : State) (u q code c cause action : Nat) (slc : Option Nat) (count : Nat) (x : Src) : State :=
  let i := q % 32
  let gen := if u < 6 then s.gen u else 0
  let w1 := q % 2 ^ 16 + (code % 256) <<< 16 + c <<< 24 + cause <<< 26 + action <<< 28
    + (match slc with | some v => 2 ^ 31 + (v % 64) <<< 32 | none => 0) + gen <<< 38 + (min count 255) <<< 48
  let s1 := s.setReg (.cairn u i 0) (BitVec.ofNat 64 s.fnow)
  let s2 := s1.setReg (.cairn u i 2) (BitVec.ofNat 64 (x.st + x.idx <<< 8))
  (s2.setReg (.cairn u i 3) 0).setReg (.cairn u i 1) (BitVec.ofNat 64 w1)

/-- Apply the reaction of class `c` (R462, R465, R502). `q`: the fault's sequence number. -/
def State.react (s : State) (u : Nat) (x : Src) (c code q : Nat) : State :=
  let fenceIt (s : State) : State := match s.fenceTarget u x c with
    | some y =>
      if u < 6 ∧ (s.part u).rst then s.setPart u (fun p => { p with defer := p.defer ++ [{ src := y, enclosing := decide (y ≠ x) }] })
      else s.fence u y
    | none => s
  if 6 ≤ u ∨ c < clsFATAL then fenceIt s
  else if code = 0x2B then s.outOfService u
  else if (s.part u).rst ∨ s.pstate u = ptOOS then s
  else (s.leaveDormant u).resetDump u code q

/-- Raise a fault (R461). `quiet`: no reaction (R503). -/
def State.raise (s : State) (u c : Nat) (x : Src) (code cause count : Nat) (slc : Option Nat) (quiet : Bool) : State :=
  let r := s.raiseTo u x 6 c cause
  let st := s.reg (.fltStat u)
  let q := fget st fltStat_NEXTSEQ
  let s1 := s.setFld (.fltStat u) fltStat_NEXTSEQ (q + 1)
  let s2 := s1.cairnWrite u q code r.1 r.2 (s.actionOf u x r.1 code quiet) slc count x
  let s3 := if s2.isPending u r.1 then s2
    else
      let p : FPend := { seq := q, deadline := s.fnow + us (s.fld .fltCtl fltCtl_ATO), src := x, code, count, slice := slc }
      (s2.setFld (.fltStat u) (pendPos r.1) 1).setFunit u (fun f => { f with pend := f.pend.filter (fun y => y.1 ≠ r.1) ++ [(r.1, p)] })
  let s4 := s3.setFld (.fltStat u) fltStat_STATE (max (s3.fld (.fltStat u) fltStat_STATE) r.1)
  let s5 := s4.setFunit u (fun f => { f with lastAt := s.fnow })
  if quiet then s5 else s5.react u x r.1 code q

/-! ### Taking an event (R457, R458) -/

/-- Count an event in an entry; the entry afterwards, and whether its source is severe, with the count. -/
def FEnt.hit (ft n w : Nat) (e : FEnt) : FEnt × Bool × Nat :=
  let e1 := if us w ≤ ft - e.start then { e with count := 0, start := ft } else e
  let k := e1.count + 1
  if n ≤ k then ({ e1 with count := 0, start := ft }, true, k) else ({ e1 with count := k }, false, k)

/-- The entry of a source and code in a table; a full table gives one whose window has elapsed (R457). -/
def takeEntry (tab : List FEnt) (cap : Nat) (x : Src) (k ft : Nat) (wOf : Nat → Nat) : Option (FEnt × List FEnt) :=
  match tab.find? (fun e => decide (e.src = x ∧ e.code = k)) with
  | some e => some (e, tab.filter (fun y => !decide (y.src = x ∧ y.code = k)))
  | none =>
    let e : FEnt := { src := x, code := k, count := 0, start := ft }
    if tab.length < cap then some (e, tab)
    else match tab.find? (fun y => decide (us (wOf y.code) ≤ ft - y.start)) with
      | some y => some (e, dropFirst (fun z => decide (z = y)) tab)
      | none => none

/-- Take an event of code `k` from source `x` (R457, R458). Fuel: the levels of enclosure. -/
def State.takeEvent (s : State) (u k : Nat) (slc : Option Nat) : Nat → Src → State
  | 0, _ => s
  | f + 1, x =>
    let n := s.fld (.fltThr k) fltThr_N
    let w := s.fld (.fltThr k) fltThr_W
    if n = 0 ∨ s.srcFenced u x then s
    else
      let fu := s.funit u
      let ft := s.fnow
      let own := decide (x.st = syPART)
      match takeEntry (if own then fu.ded else fu.tab) 64 x k ft (fun c => s.fld (.fltThr c) fltThr_W) with
      | none => s.takeEvent u k slc f (enclosing u x)
      | some y =>
        let h := y.1.hit ft n w
        let s1 := s.setFunit u (fun z => if own then { z with ded := h.1 :: y.2 } else { z with tab := h.1 :: y.2 })
        if h.2.1 then s1.raise u (codeClass k) x k csTHRESH h.2.2 slc false else s1

/-- Does an event go before another of the same moment: the lower code first, then the lower source index (R456)? -/
def Ev.goesBefore (a b : Ev) : Bool := decide (a.code < b.code ∨ (a.code = b.code ∧ a.src.idx < b.src.idx))
/-- The event that the fault unit of the oldest one takes first (R456), and those that stay. -/
def nextEvent : List Ev → Option (Ev × List Ev)
  | [] => none
  | e :: t =>
    let x := t.foldl (fun a b => if b.unit = e.unit ∧ b.goesBefore a then b else a) e
    some (x, dropFirst (fun y => decide (y = x)) (e :: t))
/-- One queued event at its fault unit. -/
def State.oneEvent (s : State) (e : Ev) : State :=
  if s.takesEvents e.unit e.code e.src then s.takeEvent e.unit e.code e.slice 4 e.src else s

/-- Fences asked for during a reset are made at its end (R465). -/
def State.deferred (s : State) (n : Nat) : State :=
  let l := (s.part n).defer
  l.foldl (fun s d => s.fence n d.src) (s.setPart n (fun p => { p with defer := [] }))

end Sys2Proof.Machine
end

