-- ==== Sys2Proof/Machine/Tables.lean ====
section
/-! DEFINITION. Writes of the controller's tables: queue contexts, regions, sequencer entries, routing tables, gallery
descriptors (spec/02_command_queues.md R62 to R67; spec/03_remote_operations.md R99, R100; spec/05_galleries.md R181 to
R188, R207; spec/10_routing.md R346, R347, R362; spec/12_deep_store.md R399, R401; spec/16_security.md R534). A refusal is
a reason code and the byte offset of the field within the command (R84). -/

namespace Sys2Proof.Machine

/-- The bits of `w` outside the given fields. -/
def outside (l : List Pos) (w : Word) : Word := w &&& ~~~(l.foldl (fun m p => m ||| fmask p) 0)
/-- A non-zero reserved field of a word with the fields `l`, at byte `at'` of the command: reason 0x02 and where it starts. -/
def badBits (l : List Pos) (w : Word) (at' : Nat) : Option (Nat × Nat) :=
  if outside l w = 0 then none else some (2, at' + fieldByte (cutsOf l) (outside l w))
/-- The first true condition: reason 0x03 at its offset. -/
def firstBad (l : List (Bool × Nat)) : Option (Nat × Nat) := (l.find? (fun x => x.1)).map (fun x => (3, x.2))

/-! ### Queue contexts -/

/-- The fields of word 0 of a context entry (R62). -/
def ctxFields : List Pos := [qSTATE, qPIN, qSLICE, qPORT, qCLOG2, qCREDITS]
/-- Reserved fields of words 0 and 1 of a context entry. -/
def ctxReserved (a b : Word) : Option (Nat × Nat) := badBits ctxFields a 24 <|> badBits [⟨12, 52⟩] b 32

/-- Contexts with PIN set, other than that of queue `q` (R64). -/
def State.pinned' (s : State) (q : Nat) : Nat :=
  (s.allCtx.filter (fun c => decide (c.qid ≠ q ∧ fget c.w0 qPIN = 1))).length

/-- Range faults of a context entry (R63). -/
def ctxRange (a b : Word) : Option (Nat × Nat) :=
  let cl := fget a qCLOG2
  let cr := fget a qCREDITS
  firstBad [(decide (5 ≤ fget a qSTATE), 24), (decide (12 ≤ fget a qPORT), 26), (decide (cl < 4 ∨ 16 < cl), 27),
    (decide (cr = 0 ∨ 2 ^ cl ≤ cr), 28), (decide (b.toNat % max 4096 (16 * 2 ^ cl) ≠ 0), 33)]

/-- Does a written word 0 or 1 change a field other than STATE (R66)? The first such field. -/
def ctxChange (c : QCtx) (a b : Word) : Option (Nat × Nat) :=
  let d := (c.w0 ^^^ a) &&& ~~~(fmask qSTATE)
  if d ≠ 0 then some (3, 24 + fieldByte (cutsOf ctxFields) d)
  else if c.w1 ≠ b then some (3, 33) else none

/-- Why a TABLE_WRITE of queue `q`'s context is refused (R63 to R67, R534). -/
def State.ctxRefused (s : State) (q : Nat) (a b : Word) : Option (Nat × Nat) :=
  let c := s.ctx q
  let st := fget c.w0 qSTATE
  let w := fget a qSTATE
  if q = 0 ∨ 1048576 ≤ q then some (3, 17)
  else ctxReserved a b <|>
    (if st = qsFREE then
      firstBad [(decide (2 ≤ w), 24), (decide (fget a qPIN = 1 ∧ 16384 ≤ s.pinned' q), 24),
        (decide (w = qsACTIVE) && !s.sliceActive (fget a qSLICE), 25)] <|> ctxRange a b
    else if w ≠ qsFREE then some (3, 24)
    else if st = qsACTIVE then ctxRange a b <|> ctxChange c a b
    else if st = qsDRAINING then some (3, 24)
    else none)

/-- Write a context that is not refused (R62, R67). Words 2 and 3 belong to the controller. -/
def State.ctxWrite (s : State) (q : Nat) (a b : Word) : State :=
  let st := s.qstate q
  if st = qsFREE then
    s.updCtx q (fun c => { c with
      w0 := a, w1 := b, w2 := if fget a qSTATE = qsACTIVE then BitVec.ofNat 64 (2 ^ qPH.lo) else c.w2 })
  else s.setQState q qsDRAINING

/-! ### Regions -/

/-- Why a TABLE_WRITE of a region entry is refused (R100, R399, R534). DESIGN CHOICE (log entry 120): where BASE + NPG × 4,096 goes
beyond the store, the offending field is BASE. -/
def State.regionRefused (s : State) (a b : Word) : Option (Nat × Nat) :=
  let e := Region.ofWords a.toNat b.toNat
  let hi := e.base + 4096 * e.npg
  let inArea : Bool := decide ((0x0F000000 ≤ e.base ∧ hi ≤ 0x10000000) ∨ (0x10000000 ≤ e.base ∧ hi ≤ 0x14000000))
  if !e.v then none
  else badBits [⟨0, 4⟩, ⟨8, 6⟩, ⟨16, 4⟩, ⟨24, 16⟩, ⟨40, 24⟩] a 24 <|> badBits [⟨12, 52⟩] b 32 <|>
    firstBad [(!s.sliceActive e.slice, 25), (decide (e.port = 13 ∨ e.port = 15), 26), (decide (e.npg = 0), 29),
      (decide (e.port = 12 ∧ dsEnd < hi), 33),
      (decide (e.port = 12 ∧ e.base < 0x20000000)
        && !(inArea && decide (e.slice = 0) && !e.wr && !e.at'), 33)]

/-- Write region entry `r` (R99, R398). -/
def State.regionWrite (s : State) (r : Nat) (a b : Word) : State :=
  { s with st := s.st.writeSys (regionAddr r) (natBytes 8 a.toNat ++ natBytes 8 b.toNat) }

/-! ### Sequencer entries -/

/-- Is entry `e` of Pn's table in the range of a gallery that is not IDLE (R207)? -/
def State.seqBusy (s : State) (n e : Nat) : Bool :=
  s.gals.any (fun x => let d := s.gdef x.g
    decide (s.gstate x.g ≠ gsIDLE ∧ d.part = n ∧ d.entry ≤ e ∧ e < d.entry + d.nent))

/-- Write a sequencer entry. -/
def State.seqWrite (s : State) (n e : Nat) (a b : Word) : State := (s.setReg (.seq n e 0) a).setReg (.seq n e 1) b

/-! ### Routing tables -/

/-- Why a written word of a table set is refused (R347); `w` is the word's index in the set. -/
def rtabBad (w : Nat) (v : Word) : Option (Nat × Nat) :=
  if w < 4096 then
    badBits [⟨0, 6⟩, ⟨8, 6⟩] v 24 <|>
      (let esc := nfld v.toNat 1 5
       if (12 ≤ esc ∧ esc ≤ 17) ∨ esc = 31 then none else some (3, 24))
  else if 0x2000 ≤ w ∧ w < 0x2040 then badBits [⟨0, 2⟩] v 24
  else if w = 0x2040 then badBits [⟨0, 16⟩] v 24
  else firstBad ((List.range 4).map (fun k => (v.getLsbD (16 * k + 15), 24 + 2 * k)))

/-- Why a write of word `w` of epoch `e`'s table set is refused (R347, R362). -/
def State.rtabRefused (s : State) (e w : Nat) (v : Word) : Option (Nat × Nat) :=
  rtabBad w v <|> (if s.fld .routeCtl routeCtl_EN = 1 ∧ s.live e then some (3, 17) else none)

/-- Write a word of a table set, and queue its mirror copy (R402). -/
def State.rtabWrite (s : State) (e w : Nat) (v : Word) : State := (s.setReg (.rtab e w) v).mirror (.rtab e w)

/-! ### Gallery descriptors (R181 to R185) -/

/-- Reserved bits of the four descriptor words, held in command words 3 to 6. -/
def gdefReserved (a b c d : Word) : Option (Nat × Nat) :=
  badBits [⟨0, 4⟩, ⟨8, 6⟩, ⟨16, 3⟩, ⟨20, 11⟩, ⟨32, 15⟩, ⟨48, 14⟩] a 24 <|> badBits [⟨0, 5⟩, ⟨8, 18⟩, ⟨32, 12⟩, ⟨48, 15⟩] b 32
    <|> badBits [⟨0, 9⟩, ⟨16, 3⟩, ⟨32, 32⟩] c 40 <|> badBits [⟨12, 52⟩] d 48

/-- Bits of word 1 that an action uses (R187). -/
def actFields (act : Nat) : List Pos :=
  if act = actREDUCE ∨ act = actMCAST ∨ act = actDISPATCH then [⟨0, 18⟩]
  else if act = actWAIT then [⟨0, 24⟩]
  else if act = actFORWARD then [⟨0, 18⟩, ⟨24, 5⟩]
  else if act = actDSWRITE ∨ act = actDSREAD then [⟨0, 40⟩]
  else if act = actSYNCADD then [⟨0, 48⟩]
  else []

/-- Does an entry meet R188 in gallery `d`? `last`: it is the last of the range. -/
def State.entryOk (s : State) (d : GDef) (n e : Nat) (last : Bool) : Bool :=
  let w0 := s.reg (.seq n e 0)
  let w1 := s.reg (.seq n e 1)
  let y := GEntry.ofWords w0.toNat w1.toNat
  let up := if d.up < 18 then 2 ^ d.up else 0
  let within (m all : Nat) : Bool := decide (m &&& all = m)
  let off := nfld y.w1 0 40
  decide (outside [⟨0, 4⟩, ⟨8, 48⟩] w0 = 0) && decide (y.act ≤ 10) && decide (outside (actFields y.act) w1 = 0)
    && decide (y.chunk + y.ccnt ≤ 2 ^ 24)
    && decide ((y.ccnt = 0) ↔ (y.act = actNOP ∨ y.act = actSYNCADD ∨ y.act = actADVANCE))
    && (decide (y.act ≠ actREDUCE ∧ y.act ≠ actDISPATCH) || within y.mask (d.down ||| up))
    && (decide (y.act ≠ actMCAST ∧ y.act ≠ actFORWARD)
        || (within y.mask d.down && within (y.mask % 4096) d.contrib))
    && (decide (y.act ≠ actFORWARD) || decide (y.from' = d.up) || (decide (y.from' < 18) && nbit d.down y.from'))
    && (decide (y.act ≠ actWAIT) || decide (nfld y.w1 0 24 ≠ 0))
    && (decide (y.act ≠ actSENDUP) || !d.root)
    && (decide (y.act ≠ actDSWRITE ∧ y.act ≠ actDSREAD) || decide (d.dsbase + off + y.ccnt * d.foot ≤ dsEnd))
    && (decide (y.act ≠ actDSWRITE) || decide (off % 4096 = 0))
    && (decide (y.act ≠ actSYNCADD) || s.syncOwned (nfld y.w1 0 16) d.slice)
    && decide (decide (y.act = actADVANCE) = last)

/-- Insert an interval in order of its start. -/
def insIval (x : Nat × Nat) : List (Nat × Nat) → List (Nat × Nat)
  | [] => [x]
  | y :: t => if x.1 ≤ y.1 then x :: y :: t else y :: insIval x t

/-- Chunks of `[lo, hi)` that partition `n` accumulates. -/
def GDef.chunksIn (d : GDef) (n lo hi : Nat) : Nat :=
  if d.spread then (hi + 5 - n) / 6 - (lo + 5 - n) / 6 else if n = d.part then hi - lo else 0

/-- Chunks that the REDUCE entries `es` place in partition `n`, each once (R183). -/
def GDef.chunkCount (d : GDef) (n : Nat) (es : List GEntry) : Nat :=
  let iv := (es.filter (fun y => y.act = actREDUCE)).foldl (fun l y => insIval (y.chunk, y.chunk + y.ccnt) l) []
  (iv.foldl (fun (acc : Nat × Nat) x =>
    let lo := max acc.2 x.1
    if x.2 ≤ lo then acc else (acc.1 + d.chunksIn n lo x.2, x.2)) (0, 0)).1

/-- Valid galleries other than `g`. -/
def State.validGals (s : State) (g : Nat) : List GDef :=
  (s.gals.filter (fun x => x.g ≠ g)).filterMap (fun x => let d := s.gdef x.g; if d.v then some d else none)

/-- Can the bandwidth of gallery `d` be reserved at its outputs (R183)? -/
def State.bwOk (s : State) (g : Nat) (d : GDef) : Bool :=
  d.ports.all (fun c =>
    decide (sumBy (fun (y : GDef) => if c ∈ y.ports then y.bw else 0) (s.validGals g) + d.bw ≤ (if c < 12 then 200 else 400)))

/-- Do its accumulation tiles suffice and fit (R183)? -/
def State.acctOk (s : State) (d : GDef) (es : List GEntry) : Bool :=
  d.partsOf.all (fun n => decide (2 * (d.chunkCount n es * (d.elems / 32)) ≤ d.acct
    ∧ s.acctHeld n + d.acct ≤ s.sumpSize n))

/-- Why a GALLERY_SETUP with V = 1 is refused (R182, R188, R221, R401, R534). -/
def State.setupRefused (s : State) (g : Nat) (a b c w : Word) : Option (Nat × Nat) :=
  let d := GDef.ofWords a.toNat b.toNat c.toNat w.toNat
  let fits : Bool := decide (1 ≤ d.nent ∧ d.entry + d.nent ≤ 16384)
  let idx := if fits then List.range d.nent else []
  let es := idx.map (s.gentry d)
  let ds := es.any (fun y => decide ((y.act = actDSWRITE ∨ y.act = actDSREAD) ∧ d.dsbase + nfld y.w1 0 40 < 0x20000000))
  gdefReserved a b c w <|> firstBad
    [(decide (s.gstate g ≠ gsIDLE), 16), (!s.sliceActive d.slice, 25), (decide (6 ≤ d.part ∨ 11 ≤ d.fmt), 26),
     (decide (4 ≤ d.op ∨ 3 ≤ d.rnd ∨ (d.op = 3 ∧ isInt d.fmt)), 27), (decide (d.nent = 0 ∨ 16384 < d.nent), 28),
     (!fits || !idx.all (fun i => s.entryOk d d.part (d.entry + i) (decide (i + 1 = d.nent))), 30),
     (decide (if d.root then d.up ≠ 31 else d.up < 12 ∨ 17 < d.up), 32),
     (decide (d.up < 18) && nbit d.down d.up, 33), (decide (d.contrib &&& d.down ≠ d.contrib), 36),
     (decide (16384 < d.acct) || !s.acctOk d es, 38), (decide (400 < d.bw) || !s.bwOk g d, 40), (decide (6 ≤ d.csz), 42),
     (decide (10000000 < d.sto), 44), (ds, 49)]

/-- Write the four words of a descriptor and queue their mirror copies. -/
def State.gdefWrite (s : State) (g : Nat) (a b c w : Word) : State :=
  [(0, a), (1, b), (2, c), (3, w)].foldl (fun s x => (s.setReg (.galDesc g x.1) x.2).mirror (.galDesc g x.1)) s

/-- Set a gallery up (R185): its accumulation tiles count in USED at once (R319). -/
def State.galSetup (s : State) (g : Nat) (a b c w : Word) : State :=
  let s1 := s.gdefWrite g a b c w
  let s2 := (s1.setFld (.galStat g) galStat_STATE gsARMED).setFld (.galStat g) galStat_SGEN (fget c ⟨56, 8⟩)
  let d := s1.gdef g
  d.partsOf.foldl (fun s n => s.sumpHigh n)
    ((State.updGal { s2 with gals := s2.gals.filter (fun x => x.g ≠ g) } g (fun x => x)).pcRefresh g)

/-- Return a gallery to IDLE (R184): its step is aborted, held commands end, held frames are gone. -/
def State.galRemove (s : State) (g : Nat) (a b c w : Word) : State :=
  let s1 := if s.gstate g = gsRUNNING then s.galAbort g grTEAR 31 99 else s
  let low := (Gal.init g).lowChunk (s1.gentries (s1.gdef g))
  let s2 := (s1.gal g).heldC.foldl (fun s id =>
    match s.findTxn id with
    | some t => s.endTxn id stGALAB (resGal g grTEAR t.cmd.sgen low 31)
    | none => s) s1
  let waits (x : Copy) : Bool :=
    decide (x.out = outHeld ∧ x.pkt.galOf = g) || (match x.gwait with | some d => decide (d.g = g) | none => false)
  let s3 := State.setFld { s2 with
    gals := s2.gals.filter (fun x => x.g ≠ g)
    sw := { s2.sw with
      creds := s2.sw.creds.filter (fun x => x.g ≠ g)
      copies := s2.sw.copies.filter (fun x => !waits x) } } (.galStat g) galStat_STATE gsIDLE
  s3.gdefWrite g a b c w

end Sys2Proof.Machine
end

