-- ==== Sys2Proof/Machine/Engines.lean ====
section
/-! DEFINITION. The engines behind the management opcodes: scrub, scan, attestation mailbox, epoch swap, slice teardown,
mirror (spec/10_routing.md R365 to R369; spec/12_deep_store.md R402, R407, R415 to R417, R423, R424;
spec/16_security.md R513 to R515, R533, R535; spec/17_management.md R544, R548, R549). -/

namespace Sys2Proof.Machine

/-- FORMAT_ERROR of a management command. -/
def State.mgmtBad (s : State) (c : Cmd) (f : Nat × Nat) : State := s.mgmtRec c stFORMAT (resFmt f.1 f.2)
/-- A record with the node's management endpoint in RESULT. -/
def State.mgmtEp (s : State) (c : Cmd) (st : Nat) : State := s.mgmtRec c st (s.ep 14)
/-- The record of a command, where there is one. -/
def State.recOpt (s : State) (c : Option Cmd) (st result : Nat) : State :=
  match c with
  | some x => s.mgmtRec x st result
  | none => s
/-- Write management processor memory for an engine. -/
def State.mgWrite (s : State) (addr : Nat) (d : List Byte) (cont : Cont) : State :=
  s.startWrite (s.servePart 0) 14 addr d 0 .direct cont
/-- Read it. -/
def State.mgRead (s : State) (addr len : Nat) (cont : Cont) : State :=
  s.startRead (s.servePart 0) 14 addr len 0 .direct cont

/-! ### Slice teardown after its clear (R535 steps 4 and 5) -/

/-- Step 5: the slice is free and the commands complete. -/
def State.tearFree (s : State) (t : Tear) : State :=
  let s1 := State.setFld { s with mg := { s.mg with tear := none } } (.slice t.slice) slice_STATE 0
  t.cmds.foldl (fun s c => s.mgmtRec c stDONE 0) s1

/-! ### SCRUB (R415 to R417) -/

/-- Issue the next tile write of the running scrub; a tile on a fenced port fails and is passed over. Fuel: a port per
tile, so that sixteen passed over in a row mean that every port is fenced. -/
def State.scrubIssue : Nat → State → State
  | 0, s => s
  | f + 1, s =>
    match s.mg.scrub with
    | none => s
    | some (a, e, c) =>
      if e ≤ a then s
      else if s.tileFenced (a / 4096) then
        State.scrubIssue f { s with mg := { s.mg with scrub := some (a + 4096, e, c), scrubF := s.mg.scrubF <|> some a } }
      else
        let j := State.newJob { s with st := s.st.dropLine (a / 4096) } 0 1 .scrub
        j.2.addMem none (a / 4096) .write 0 4096 (zeros 4096) j.1 0

/-- Start the first waiting scrub. -/
def State.scrubNext (s : State) : State :=
  if s.mg.scrub.isSome then s
  else match s.mg.engScrub with
    | [] => s
    | x :: t =>
      State.scrubIssue 16 (State.setFld { s with mg := { s.mg with engScrub := t, scrub := some x, scrubF := none } }
        .dsStat dsStat_SCRUB 1)

/-- A scrub that a teardown asked for has ended: the next range, or step 5. -/
def State.tearScrubbed (s : State) : State :=
  match s.mg.tear with
  | none => s
  | some t =>
    let r := t.ranges.drop 1
    let t1 : Tear := { t with ranges := r }
    if r.isEmpty then s.tearFree t1 else { s with mg := { s.mg with tear := some t1 } }

/-- End the running scrub where nothing of it is outstanding: DONE, or CHECK_FAIL at its first failing tile. -/
def State.scrubEnd (s : State) : State :=
  match s.mg.scrub with
  | none => s
  | some (_, _, c) =>
    let f := s.mg.scrubF
    let s1 := State.setFld { s with mg := { s.mg with scrub := none, scrubF := none } } .dsStat dsStat_SCRUB 0
    let s2 := match c with
      | some x => match f with
        | some a => s1.mgmtRec x stCHECK (resEp (s.ep 12) (a - x.fld 2 0 40))
        | none => s1.mgmtRec x stDONE 0
      | none => s1.tearScrubbed
    s2.scrubNext

/-- Is a scrub's write outstanding? -/
def State.scrubOut (s : State) : Bool := s.mv.jobs.any (fun j => decide (j.cont = .scrub))

/-- A tile write of the scrub has been answered. -/
def State.scrubStep (s : State) (fail : Option (Nat × Nat)) : State :=
  match s.mg.scrub with
  | none => s
  | some (a, e, c) =>
    let s1 := State.scrubIssue 16 { s with mg := { s.mg with
      scrub := some (a + 4096, e, c), scrubF := if fail.isSome then s.mg.scrubF <|> some a else s.mg.scrubF } }
    if s1.scrubOut then s1 else s1.scrubEnd

/-- Give the engine a range. -/
def State.scrubAdd (s : State) (a n : Nat) (c : Option Cmd) : State :=
  let s1 := State.scrubNext { s with mg := { s.mg with engScrub := s.mg.engScrub ++ [(a, a + n, c)] } }
  if s1.scrubOut then s1 else s1.scrubEnd

/-! ### The attestation mailbox (R513 to R515, R548) -/

/-- Base of the mailbox. -/
def State.mbox (s : State) : Nat := (s.reg .attMbox).toNat
/-- Header word 0. -/
def mboxWord0 (seq state subop len : Nat) : List Byte :=
  natBytes 8 (seq % 2 ^ 16 + state <<< 16 + subop <<< 20 + (len % 2 ^ 32) <<< 32)
/-- SUBOP and LEN of an exchange. -/
def Att.subop (a : Att) : Nat := if a.fw then 15 else a.cmd.elim 0 (fun c => c.subop)
def Att.len (a : Att) : Nat := if a.fw then 8 else a.cmd.elim 0 (fun c => c.fld 4 0 16)

/-- Change the running exchange. -/
def State.setAtt (s : State) (a : Option Att) : State := { s with mg := { s.mg with att := a } }

/-- Begin an exchange: an ATTEST reads its request, an activation writes DIG. -/
def State.attBegin (s : State) (cmd : Option Cmd) (fw : Bool) (dig : Nat) : State :=
  let a : Att :=
    { cmd, fw, seq := (s.mg.attSeq + 1) % 65536, start := s.now, stage := if fw then 1 else 0, rlen := 0, pollAt := s.now }
  let s1 := State.setAtt { s with mg := { s.mg with attSeq := (s.mg.attSeq + 1) % 65536 } } (some a)
  if fw then s1.mgWrite (s.mbox + 0x40) (natBytes 8 dig) .attest
  else match cmd with
    | some c => s1.mgRead c.w2.toNat (c.fld 4 0 16) .attest
    | none => s1

/-- Start what waits for the mailbox: a restart of the interpreter (R549), else the next ATTEST. The digest of the staged
image, which a restart names, is not given: free. -/
def State.attNext (s : State) : State :=
  if s.mg.att.isSome then s
  else if s.mg.interp = .restarting then
    let d := s.draw
    d.2.attBegin none true d.1
  else match s.mg.engAtt with
    | [] => s
    | c :: t => State.attBegin { s with mg := { s.mg with engAtt := t } } (some c) false 0

/-- End the running exchange with a record; `empty` writes STATE = EMPTY. -/
def State.attEnd (s : State) (empty : Bool) (st result : Nat) : State :=
  match s.mg.att with
  | none => s
  | some a =>
    let s1 := s.setAtt none
    let s2 := if empty then s1.mgWrite s.mbox (mboxWord0 a.seq 0 a.subop a.len) .drop else s1
    (s2.recOpt a.cmd st result).attNext

/-- An access to management memory of the exchange has ended (R514, R548). One that is left unanswered ends an ATTEST
with TARGET_TIMEOUT; an activation goes on to its own limit of 1 ms. -/
def State.attStep (s : State) (data : List Byte) (fail : Option (Nat × Nat)) : State :=
  match s.mg.att with
  | none => s
  | some a =>
    let stage (k : Nat) (s : State) : State := s.setAtt (some { a with stage := k })
    if fail.isSome then (if a.fw then s else s.attEnd true stTGTTO (s.ep 14))
    else if a.stage = 0 then (stage 1 s).mgWrite (s.mbox + 0x40) data .attest
    else if a.stage = 1 then (stage 2 s).mgWrite s.mbox (mboxWord0 a.seq 1 a.subop a.len) .attest
    else if a.stage = 2 then s.setAtt (some { a with stage := 3, start := s.now, pollAt := s.now })
    else if a.stage = 4 then
      match a.cmd with
      | some c => (stage 5 s).mgWrite c.w3.toNat (data.take a.rlen) .attest
      | none => s
    else if a.stage = 5 then s.attEnd true stDONE a.rlen
    else s

/-- One read of the header (R514): `w0` and `w1` as they stand there. -/
def State.attPoll (s : State) (w0 w1 : Word) : State :=
  match s.mg.att with
  | none => s
  | some a =>
    if a.fw ∨ a.stage ≠ 3 ∨ !s.due a.pollAt (us 1) then s
    else
      let state := nfld w0.toNat 16 4
      let rlen := nfld w1.toNat 0 32
      let cap := a.cmd.elim 0 (fun c => c.fld 4 16 16)
      if state = 3 then s.attEnd false stKEY (s.ep 14)
      else if state = 2 then
        if cap < rlen then s.attEnd false stFORMAT (resFmt 3 34)
        else if rlen = 0 then s.attEnd true stDONE 0
        else (s.setAtt (some { a with stage := 4, rlen })).mgRead (s.mbox + 0x8000) rlen .attest
      else s.setAtt (some { a with pollAt := s.now })

/-! ### The mirror (R402, R515) -/

/-- MVALID and MSEQ of header word 3. -/
def State.mboxWord3 (s : State) : List Byte := natBytes 8 (s.sec.mirror.mseq % 2 ^ 16 + s.sec.mirror.mvalid.toNat <<< 16)
/-- Change the mirror's state. -/
def State.setMirror (s : State) (f : Mirror → Mirror) : State := { s with sec := { s.sec with mirror := f s.sec.mirror } }

/-- The copy is brought up to date (R402), under a hold too: the hold keeps back only new writes of the tables. -/
def State.mirrorApply (s : State) : State :=
  let m := s.sec.mirror
  let s1 := m.pend.foldl (fun (s : State) x =>
    { s with st := s.st.writeSys (0x0F000000 + x.1) (natBytes 8 x.2.toNat) }) s
  (s1.setMirror (fun m => { m with pend := [] })).setFld .dsStat dsStat_MSYNC (s.fld .dsStat dsStat_SYSRDY)

/-- HOLD (R515). -/
def State.mirrorHold (s : State) : State :=
  let s1 := (s.setMirror (fun m => { m with held := some s.now, scanned := false, mvalid := false })).setFld
    .secStat secStat_HOLD 1
  s1.mgWrite (s1.mbox + 24) s1.mboxWord3 .drop

/-- The scan of a hold has ended with CRC `crc`: MCRC, the next MSEQ and MVALID are written, if the hold stands. -/
def State.mirrorScanned (s : State) (crc : Nat) : State :=
  if s.sec.mirror.held.isNone then s
  else
    let s1 := s.setMirror (fun m => { m with mseq := (m.mseq + 1) % 65536, mvalid := true })
    s1.mgWrite (s1.mbox + 16) (natBytes 8 crc ++ s1.mboxWord3) .drop

/-! ### SCAN_CRC (R423, R424) -/

/-- End the running scan with a status and RESULT. -/
def State.scanEnd (s : State) (st result : Nat) : State :=
  match s.mg.scan with
  | none => s
  | some (_, _, _, c) =>
    let s1 : State := { s with mg := { s.mg with scan := none } }
    match c with
    | some x => s1.mgmtRec x st result
    | none => if st = stDONE then s1.mirrorScanned result else s1

/-- Read the scan's next tile, or end it. -/
def State.scanIssue (s : State) : State :=
  match s.mg.scan with
  | none => s
  | some (a, n, poly, _) =>
    let p := s.mg.scanPos
    if a + n ≤ p then s.scanEnd stDONE (s.mg.scanAcc ^^^ polyXor poly)
    else if s.tileFenced (p / 4096) then s.scanEnd stCHECK (resEp (s.ep 12) (p - a))
    else
      let j := s.newJob 0 1 .scan
      j.2.addMem none (p / 4096) .read (p % 4096) (min (4096 - p % 4096) (a + n - p)) [] j.1 0

/-- Start the first waiting scan. -/
def State.scanNext (s : State) : State :=
  if s.mg.scan.isSome then s
  else match s.mg.engScan with
    | [] => s
    | x :: t =>
      State.scanIssue { s with mg := { s.mg with
        engScan := t, scan := some x, scanPos := x.1, scanAcc := polyInit x.2.2.1 } }

/-- A tile of the scan has been read, or has failed R404. -/
def State.scanStep (s : State) (data : List Byte) (fail : Option (Nat × Nat)) : State :=
  match s.mg.scan with
  | none => s
  | some (a, _, poly, _) =>
    match fail with
    | some f => (s.scanEnd f.1 (resEp (s.ep 12) (s.mg.scanPos - a))).scanNext
    | none =>
      let s1 := State.scanIssue { s with mg := { s.mg with
        scanAcc := Sys2Proof.Machine.crcRun poly s.mg.scanAcc data, scanPos := s.mg.scanPos + data.length } }
      s1.scanNext

/-- Give the scan engine a range. -/
def State.scanAdd (s : State) (a n poly : Nat) (c : Option Cmd) : State :=
  State.scanNext { s with mg := { s.mg with engScan := s.mg.engScan ++ [(a, n, poly, c)] } }

/-! ### EPOCH_SWAP at the coordinating node (R365 to R369) -/

abbrev epPREPARE : Nat := 1
abbrev epSWITCH : Nat := 2
abbrev epPOLL : Nat := 3
abbrev epRETIRE : Nat := 4

/-- The swap set of a target epoch: the own node first, then every node whose entry has V = 1. -/
def State.swapSet (s : State) (target : Nat) : List Nat :=
  let lo := 0x1000000 + 0x800000 * target
  s.node :: (s.regs.filterMap (fun x =>
    if lo ≤ x.1 ∧ x.1 < lo + 0x8000 ∧ x.2.getLsbD 0 then some ((x.1 - lo) / 8) else none)).filter (· ≠ s.node)

/-- An EPOCH_CTL cell (R365): routed, class MGT, slice 0, between management endpoints. -/
def State.epochCell (s : State) (node : Nat) (pay : List Byte) : Pkt :=
  mkCell (s.hdr (s.ep 14) (16 * node + 14) 0 clMGT 0 opEPOCHCTL 0 0 0) pay
/-- The payload of EPOCH_CTL. -/
def epochPay (phase target rcode seen old round coord : Nat) : List Byte :=
  natBytes 1 phase ++ natBytes 1 target ++ natBytes 1 rcode ++ natBytes 1 seen ++ natBytes 4 old ++ natBytes 2 round
    ++ natBytes 2 coord ++ zeros 36

/-- Send one request of the swap to a node. -/
def State.epochSend (s : State) (w : Swap) (node : Nat) : State :=
  s.inject (s.servePart 0)
    (s.epochCell node (epochPay w.phase w.target 0 0 0 (if w.phase = epPOLL then w.round else 0) s.node)) none

/-- Change the running swap. -/
def State.setSwap (s : State) (w : Option Swap) : State := { s with mg := { s.mg with swap := w } }

/-- Send the requests of a phase to every node of the set (R367). -/
def State.swapPhase (s : State) (w : Swap) (phase round : Nat) : State :=
  let w1 : Swap := { w with
    phase, round, total := 0, seen := false, curW := []
    reqs := w.set.map (fun j => ({ node := j, phase, round, sentAt := s.now, again := false } : EpReq)) }
  let s1 := (s.setSwap (some w1)).setFld .swapStat swapStat_REACHED (phase - 1)
  w.set.foldl (fun s j => s.epochSend w1 j) s1

/-- Start the first waiting swap (R367), or refuse it (R369). Fuel: the swaps that wait. -/
def State.swapNext : Nat → State → State
  | 0, s => s
  | f + 1, s =>
    if s.mg.swap.isSome then s
    else match s.mg.engSwap with
      | [] => s
      | c :: t =>
        let s1 := State.setReg { s with mg := { s.mg with engSwap := t } } .swapStat 0
        if s.fld .routeCtl routeCtl_PHASE ≠ 0 ∧ s.fld .routeCtl routeCtl_COORD ≠ s.node then
          let s2 := (s1.setFld .swapStat swapStat_OUTCOME 3).setFld .swapStat swapStat_FAILNODE s.node
          State.swapNext f (s2.mgmtBad c (6, 0))
        else
          let target := c.fld 2 0 1
          let d := c.fld 2 32 16
          let w : Swap :=
            { cmd := c, target, drain := us (if d = 0 then 20000 else d), phase := epPREPARE, round := 0
              set := s1.swapSet target, reqs := [], total := 0, seen := false, worst := [], curW := []
              zero := false, switchAt := s.now }
          s1.swapPhase w epPREPARE 0

/-- End the swap (R367, R368): outcome, node named, and the record. -/
def State.swapEnd (s : State) (outcome node st result : Nat) : State :=
  match s.mg.swap with
  | none => s
  | some w =>
    let s1 := ((s.setSwap none).setFld .swapStat swapStat_OUTCOME outcome).setFld .swapStat swapStat_FAILNODE node
    let s2 := s1.mgmtRec w.cmd st result
    s2.swapNext s2.mg.engSwap.length

/-- Every reply of a round is in (R367): RETIRE after two zero rounds of which the second is clean, else a new round. -/
def State.swapRound (s : State) (w : Swap) : State :=
  let k := min 65535 (s.fld .swapStat swapStat_ROUNDS + 1)
  let s1 := (s.setFld .swapStat swapStat_ROUNDS k).setFld .swapStat swapStat_LASTOLD (min 65535 w.total)
  let w1 : Swap := { w with worst := w.curW, zero := decide (w.total = 0) }
  if w.zero ∧ w.total = 0 ∧ !w.seen then s1.swapPhase w1 epRETIRE 0
  else s1.swapPhase w1 epPOLL ((w.round + 1) % 65536)

/-- Every reply of a phase is READY (R367). -/
def State.swapGo (s : State) (w : Swap) : State :=
  if w.phase = epPREPARE then s.swapPhase w epSWITCH 0
  else if w.phase = epSWITCH then s.swapPhase { w with zero := false, switchAt := s.now } epPOLL 1
  else if w.phase = epPOLL then s.swapRound w
  else s.swapEnd 1 0 stDONE (s.fld .swapStat swapStat_ROUNDS)

/-- A reply to the swap run here (R365, R367, R368). -/
def State.swapReply (s : State) (p : Pkt) : State :=
  match s.mg.swap with
  | none => s
  | some w =>
    let b (o n : Nat) : Nat := bytesNat (slice p.pay o n)
    let from' := epNode p.h.src.toNat
    let mine (r : EpReq) : Bool := decide (r.node = from' ∧ b 0 1 = r.phase + 0x80 ∧ b 1 1 = w.target ∧ b 8 2 = r.round)
    if !w.reqs.any mine then s
    else if b 2 1 ≠ 0 then s.swapEnd (if b 2 1 = 2 then 3 else 2) from' stFORMAT (resFmt 6 0)
    else
      let w1 : Swap := { w with
        reqs := w.reqs.filter (fun r => !mine r), total := w.total + (if w.phase = epPOLL then b 4 4 else 0)
        seen := w.seen || (decide (w.phase = epPOLL) && nbit (b 3 1) 0)
        curW := if w.phase = epPOLL ∧ b 4 4 ≠ 0 then w.curW ++ [from'] else w.curW }
      if w1.reqs.isEmpty then s.swapGo w1 else s.setSwap (some w1)

/-- A request has been unanswered for 100 µs (R368): sent once more, then the swap fails. -/
def State.swapLate (s : State) (node : Nat) : State :=
  match s.mg.swap with
  | none => s
  | some w =>
    match w.reqs.find? (fun r => r.node = node) with
    | none => s
    | some r =>
      if !s.due r.sentAt (us 100) then s
      else if r.again then s.swapEnd 4 node stTGTTO (16 * node + 14)
      else
        let w1 : Swap := { w with
          reqs := updFirst (fun x => x.node = node) (fun x => { x with sentAt := s.now, again := true }) w.reqs }
        (s.setSwap (some w1)).epochSend w1 node

/-- The drain limit passes (R368). The node named is one that reported a non-zero OLD; which, and what is named where
none did, is free. -/
def State.swapLimit (s : State) : State :=
  match s.mg.swap with
  | none => s
  | some w =>
    if w.phase ≠ epPOLL ∨ !s.due w.switchAt w.drain then s
    else
      let d := s.draw
      let l := w.worst ++ w.curW
      let node := (l.getD (d.1 % l.length) d.1) % 4096
      d.2.swapEnd 5 node stTRANSTO (16 * node + 14)

/-! ### SLICE_TEARDOWN (R533, R535) -/

/-- Step 1: every queue of the slice is closed and every gallery returned to IDLE. -/
def State.tearClose (s : State) (sl : Nat) : State :=
  let qs := s.allCtx.filter (fun c => decide (fget c.w0 qSLICE = sl) && decide (fget c.w0 qSTATE ∈ [qsACTIVE, qsERROR, qsQUAR]))
  let s1 := qs.foldl (fun s c => s.setQState c.qid qsDRAINING) s
  let gs := (s1.gals.filter (fun x => let d := s1.gdef x.g; d.v && decide (d.slice = sl))).map (·.g)
  gs.foldl (fun s g =>
    s.galRemove g (s.reg (.galDesc g 0) &&& ~~~1) (s.reg (.galDesc g 1)) (s.reg (.galDesc g 2)) (s.reg (.galDesc g 3))) s1

/-- The region entries with a byte listed. -/
def State.regionsListed (s : State) : List Nat :=
  (s.st.bytes.filterMap (fun b =>
    if 0x0E000000 ≤ b.1 ∧ b.1 < 0x0F000000 then some ((b.1 - 0x0E000000) / 16) else none)).dedup

/-- Clear the counters of a partition that its telemetry filter governs (R397). -/
def State.clearTel (s : State) (n : Nat) : State :=
  let s1 := (List.range 3).foldl (fun s k => (List.range 6).foldl (fun s r => s.setReg (.telPort n k r) 0) s) s
  let s2 := (List.range 5).foldl (fun s o => (s.setFld (.telQ n o) telQ_MARKED 0).setFld (.telQ n o) telQ_HWM 0) s1
  ((s2.setReg (.telInj n) 0).setReg (.swcErr n) 0).setFld (.sumpStat n) sumpStat_HWM 0
/-- Clear the counters that DX_CC_FILT governs. -/
def State.clearCc (s : State) : State :=
  ((s.setFld .ccStat ccStat_FULL 0).setFld .ccStat ccStat_DECS 0).setFld .ccStat ccStat_HWM 0

/-- Is a slice the one that a CRC channel serves? -/
def State.crcServes (s : State) (k sl : Nat) : Bool :=
  let r := s.reg (.crcCh k)
  decide (fget r crcCh_EN = 1) &&
    (if fget r crcCh_MODE = 1 then decide (fget (s.ctx (fget r crcCh_QID)).w0 qSLICE = sl)
     else decide (fget r crcCh_SLEN = 1 ∧ fget r crcCh_SLICE = sl))

/-- Step 3: everything of the slice is cleared; the answer is the recorded ranges. -/
def State.tearClear (s : State) (sl : Nat) : List (Nat × Nat) × State :=
  let rs := s.regionsListed.filter (fun r => let e := s.region r; e.v && decide (e.slice = sl))
  let ranges := rs.filterMap (fun r => let e := s.region r; if e.port = 12 then some (e.base, 4096 * e.npg) else none)
  let s1 := rs.foldl (fun s r =>
    s.regionWrite r (BitVec.ofNat 64 (bytesNat (s.st.read (regionAddr r) 8)) &&& ~~~1)
      (BitVec.ofNat 64 (bytesNat (s.st.read (regionAddr r + 8) 8)))) s
  let owned := (s.regs.map (·.1)).filterMap (fun a => match Reg.ofAddr a with
    | some (.syncOwn i) => if s.syncOwned i sl then some i else none
    | _ => none)
  let s2 := owned.foldl (fun s i =>
    ((s.setReg (.syncVal i) 0).setFld (.syncOwn i) syncOwn_V 0).mirror (.syncOwn i)) s1
  let s3 := s2.waitsRefresh (s2.tp.waits.filter (fun w => w.sync ∉ owned))
  let s4 := s3.setRates (s3.tp.rate.filter (fun e => e.slice ≠ sl))
  let s5 : State := { s4 with tp := { s4.tp with rrecs := s4.tp.rrecs.filter (fun r => r.slice ≠ sl) } }
  let s6 := ((s5.setReg (.police sl) (Reg.police sl).reset).setReg (.squota sl) (Reg.squota sl).reset).mirror (.squota sl)
  let s7 := (List.range 24).foldl (fun s k => if s.crcServes k sl then s.setFld (.crcCh k) crcCh_EN 0 else s) s6
  let s8 := (List.range 6).foldl (fun s n =>
    if s.fld (.telFilt n) telFilt_EN = 1 ∧ s.fld (.telFilt n) telFilt_SLICE = sl then
      (s.setFld (.telFilt n) telFilt_EN 0).clearTel n else s) s7
  let s9 := if s8.fld .ccFilt telFilt_EN = 1 ∧ s8.fld .ccFilt telFilt_SLICE = sl then
      (s8.setFld .ccFilt telFilt_EN 0).clearCc else s8
  (ranges, s9)

/-- The part of a range within the general area. -/
def generalPart (r : Nat × Nat) : Option (Nat × Nat) :=
  let lo := max r.1 0x20000000
  let hi := min (r.1 + r.2) dsEnd
  if lo < hi then some (lo, hi - lo) else none

/-- Start the first waiting teardown (R533). Fuel: those that wait. -/
def State.tearNext : Nat → State → State
  | 0, s => s
  | f + 1, s =>
    if s.mg.tear.isSome then s
    else match s.mg.engTear with
      | [] => s
      | c :: t =>
        let sl := c.fld 2 0 6
        let s1 : State := { s with mg := { s.mg with engTear := t } }
        if s.fld (.slice sl) slice_STATE = 0 then State.tearNext f (s1.mgmtRec c stDONE 0)
        else
          let s2 := s1.setFld (.slice sl) slice_STATE 2
          let held := s2.sec.mirror.held.isSome
          let w : Tear := { cmds := [c], slice := sl, step := if held then 1 else 2, ranges := [] }
          let s3 : State := { s2 with mg := { s2.mg with tear := some w } }
          if held then s3 else s3.tearClose sl

/-- Is step 2 over: every queue of the slice FREE, and TTO + 2 ms since its last command was accepted? -/
def State.tearDrained (s : State) (sl : Nat) : Bool :=
  s.allCtx.all (fun c => decide (fget c.w0 qSLICE ≠ sl ∨ fget c.w0 qSTATE = qsFREE ∨ c.qid = 0))
    && (s.tp.lastAcc.find? (fun x => x.1 = sl)).elim true (fun x => s.due x.2 (s.ttoNow + ms 2))

/-- Go on with the running teardown (R535): its close where a hold kept it back, then steps 3 to 5 after the drain. -/
def State.tearStep (s : State) : State :=
  match s.mg.tear with
  | none => s
  | some t =>
    if s.sec.mirror.held.isSome then s
    else if t.step = 1 then State.tearClose { s with mg := { s.mg with tear := some { t with step := 2 } } } t.slice
    else if t.step = 2 ∧ s.tearDrained t.slice then
      let scrub := s.conf t.slice || s.quar t.slice
      let r := s.tearClear t.slice
      let rg := if scrub then r.1.filterMap generalPart else []
      let w : Tear := { t with step := 4, ranges := rg }
      let s1 : State := { r.2 with mg := { r.2.mg with tear := some w } }
      let s2 := if rg.isEmpty then s1.tearFree w else rg.foldl (fun s x => s.scrubAdd x.1 x.2 none) s1
      s2.tearNext s2.mg.engTear.length
    else s

/-! ### Mailbox timers -/

/-- The root-of-trust processor has not answered an ATTEST within 500 ms (R514). -/
def State.attLate (s : State) : State :=
  match s.mg.att with
  | none => s
  | some a => if a.fw ∨ a.stage ≠ 3 ∨ !s.due a.start (ms 500) then s else s.attEnd true stTGTTO (s.ep 14)

end Sys2Proof.Machine
end

