-- ==== Sys2Proof/Machine/Switch.lean ====
section
/-! DEFINITION. Admission: checks on arrival, routing, policing, early drop, combining, and where a packet is stored
(spec/09_switch_core.md R314 to R338, spec/10_routing.md R343 to R361, spec/03_remote_operations.md R136 to R141,
spec/11_congestion.md R393). -/

namespace Sys2Proof.Machine

/-- Does traffic still move in a partition: running, or entering dormancy (R554)? -/
def State.flows (s : State) (n : Nat) : Bool :=
  decide (s.pstate n = ptRUN ∧ s.pwState n ≤ 2) && s.powered && !s.blkRun

/-! ### Combining (R136 to R141, R176) -/

/-- Is a cell eligible for combining at output `o`? -/
def State.combines (s : State) (o : Nat) (p : Pkt) : Bool :=
  let sub := bytesNat (slice p.pay 20 1)
  decide (s.fld .xportCfg xportCfg_CMBEN = 1) && !p.isFrame && !p.flag fMC && !p.flag fORDERED && !p.flag fNOCOMBINE
    && ((decide (p.opc = opATOMIC ∧ (o = 0 ∨ o = 3) ∧ sub < 4) && !p.flag fRELEASE && !p.flag fACQUIRE)
      || decide (p.opc = opSYNCADD ∧ (o = 0 ∨ o = 4)))
/-- Contributors a cell counts as (R137). -/
def Pkt.mcnt (p : Pkt) : Nat := if p.flag fMRG then bytesNat (slice p.pay 21 1) else 1
/-- May two eligible cells merge? -/
def Pkt.merges (a b : Pkt) : Bool :=
  let x := Desc.ofNat a.desc
  let y := Desc.ofNat b.desc
  let sub (p : Pkt) : Nat := bytesNat (slice p.pay 20 1)
  decide (a.opc = b.opc ∧ a.h.dst = b.h.dst ∧ a.h.slice = b.h.slice ∧ a.h.ep = b.h.ep ∧ a.mcnt + b.mcnt ≤ 16)
    && (if a.opc = opSYNCADD then decide (x.sync = y.sync)
        else decide (sub a = sub b ∧ x.rreg = y.rreg ∧ x.roff = y.roff ∧ x.key = y.key ∧ a.flag fCNT = b.flag fCNT)
          && (!a.flag fCNT || decide (x.sync = y.sync)))
/-- The merged cell: the operands are added at once, MRG and MCNT set (R138, R250). -/
def Pkt.merged (a b : Pkt) : Pkt :=
  let v (p : Pkt) : Nat := bytesNat (slice p.pay 24 8)
  let sum := if a.opc = opSYNCADD then v a + v b else atomicOp (bytesNat (slice a.pay 20 1)) (v a) (v b) 0
  { a with
    h := { a.h with flags := a.h.flags ||| BitVec.ofNat 10 (2 ^ fMRG) }
    pay := splice (splice a.pay 21 (natBytes 1 (a.mcnt + b.mcnt))) 24 (natBytes 8 sum) }
/-- What a merging output keeps of a contributor (R140). -/
def Pkt.contrib (p : Pkt) : Contrib :=
  let d := Desc.ofNat p.desc
  { src := p.h.src, tag := p.h.tag, qid := d.qid, seq := d.seq, gen := p.h.gen, slice := p.h.slice }

/-! ### Transit policing and early drop (R333 to R336) -/

/-- Demote a frame at a torus output whose slice policer has TRANSIT set. -/
def State.colourTransit (s : State) (n o : Nat) (p : Pkt) : Pkt × State :=
  let r := s.reg (.police p.h.slice.toNat)
  if o = 0 ∧ p.cls = clBLK ∧ fget r police_EN = 1 ∧ fget r police_TRANSIT = 1 then
    let x := s.police (6 + n) p.h.slice.toNat p.size p.colour
    (p.coloured x.1, { s with sw := { s.sw with bkts := x.2 } })
  else (p, s)
/-- Is a BLK copy dropped early at a queue (R335)? The uniform value is free. -/
def State.earlyDrop (s : State) (n o q : Nat) (p : Pkt) : Bool × State :=
  if p.cls ≠ clBLK then (false, s)
  else
    let r := s.reg (.red n p.colour)
    let d := s.qDepth n o q
    let lo := fget r red_MIN
    let hi := fget r red_MAX
    if hi ≤ d then (true, s)
    else if d < lo then (false, s)
    else
      let v := s.draw
      (decide (v.1 % 256 < fget r red_PMAX * (d - lo) / (hi - lo)), v.2)

/-! ### Storing a copy at an output -/

/-- A packet on its way to admission: partition it is in, port it came from, its arrival time, whether this node built
it, and what its storing completes. -/
structure Pend where
  part   : Nat
  pkt    : Pkt
  inPort : Option Nat
  arr    : Nat
  built  : Bool
  gdel   : Option GDel
  ereq   : Option (Nat × Nat)

/-- The gate of a TOR output follows its REQ and BLK depth in throttle mode (R393). -/
def State.gateRefresh (s : State) (n : Nat) : State :=
  if !s.throttle then s
  else
    let d := sumBy (fun q => s.qDepth n 0 q) [0, 1, 8, 9]
    if s.fld (.throt n) throt_THI ≤ d then s.setPart n (fun p => { p with gate := true })
    else if d < s.fld (.throt n) throt_TLO then s.setPart n (fun p => { p with gate := false })
    else s
/-- Does a closed gate keep a packet from TOR of partition `n` (R393)? -/
def State.gated (s : State) (n : Nat) (w : Pend) : Bool :=
  s.throttle && (s.part n).gate && w.built && !w.pkt.flag fMC && decide (w.pkt.cls = clREQ ∨ w.pkt.cls = clBLK)

/-- A packet has been stored, merged or discarded: a gallery delivery is counted, an edge request's time runs where its
packet is gone. -/
def State.gone (s : State) (w : Pend) (stored : Bool) : State :=
  let s1 := match w.gdel with | some d => s.partDone d.g d | none => s
  if stored then s1 else s1.ereqSent w.ereq

/-- The command of this node that a cell carries has been merged: its record will say so (R141). -/
def State.setCmb (s : State) (p : Pkt) : State :=
  let d := Desc.ofNat p.desc
  let mine (t : Txn) : Bool :=
    decide (t.ep = p.h.src.toNat ∧ t.xid = xidOf p ∧ t.qid = d.qid ∧ t.seq = d.seq ∧ t.cmd.opc = p.opc)
  { s with tp := { s.tp with txns := updAll mine (fun t => { t with cmb := true }) s.tp.txns } }

/-- Store `p` at output `o` of partition `n` (R139, R321, R336): whether it has left its place, and the state after.
`full`: the reserve may be used. An output's combining window has 64 entries; that of the sync object file is one for the node, at
whichever partition's NODE output its cells wait (R176). -/
def State.storeAt (s : State) (n o : Nat) (w : Pend) (p : Pkt) (full : Bool) : Bool × State :=
  let elig := s.combines o p
  let here (x : Copy) : Bool := decide (x.out = o ∧ (o = 4 ∨ x.part = n)) && x.win
  let hit (x : Copy) : Bool := here x && x.pkt.merges p
  if elig ∧ s.sw.copies.any hit then
    let put (x : Copy) : Copy := { x with pkt := x.pkt.merged p, contrib := x.contrib ++ [p.contrib] }
    let first := match s.sw.copies.find? hit with | some x => s.setCmb x.pkt | none => s
    (true, State.gone { (first.setCmb p) with sw := { s.sw with copies := updFirst hit put s.sw.copies } } w true)
  else
    let t := s.colourTransit n o p
    let q := queueOf o t.1.cls t.1.h.dl.toNat
    let e := t.2.earlyDrop n o q t.1
    if e.1 then
      let s1 := (e.2.countSl n p.h.slice.toNat (.swcErr n) swcErr_REDDROP).outEvent n o 0x14 p.h.slice.toNat
      (true, s1.gone w false)
    else
      let sl := p.h.slice.toNat
      let k := t.1.tiles
      let res := full && e.2.resAdmits n o q k
      if res ∨ e.2.sumpAdmits n o q sl k then
        let inWin := (e.2.sw.copies.filter here).length
        let x : Copy :=
          { part := n, out := o, chan := q, pkt := t.1, tiles := [], fromRes := res, arr := w.arr, inPort := w.inPort
            contrib := [], win := elig && decide (inWin < 64), ereq := w.ereq }
        let s1 := e.2.store n o x res
        (true, (if o = 0 then s1.gateRefresh n else s1).gone w true)
      else (false, { s with free := e.2.free })

/-! ### Routing (R350 to R355) -/

/-- Is torus port `t` usable for routed packets (R345, R353, R555)? -/
def State.torusOk (s : State) (t : Nat) : Bool :=
  decide (s.fld .routeCtl routeCtl_EN = 1) && s.up (12 + t) && s.runs t && !s.peerBad (12 + t)
/-- DL that a packet brings along the axis of port `t`. -/
def Pend.dlFor (w : Pend) (t : Nat) : Nat := if w.inPort = some (opposite (12 + t)) then w.pkt.h.dl.toNat else 0

/-- Discard a packet for lack of an output (R354). -/
def State.noRoute (s : State) (w : Pend) : State :=
  ((s.count .routeStat routeStat_NOROUTE 1).blockEvent 0x1C ⟨syPART, 6⟩).failCell w.part w.pkt stUNREACH

/-- The candidate outputs of a packet toward another node (R353). -/
def State.candidates (s : State) (p : Pkt) : List Nat :=
  let j := epNode p.h.dst.toNat
  let am := nfld (s.nodeEntry p.h.ep.toNat j) 8 6
  (List.range 6).filter (fun t => s.productive j t && nbit am t && s.torusOk t)
/-- The queue that a packet takes at TOR of partition `t`. -/
def State.torQueue (s : State) (w : Pend) (p : Pkt) (t : Nat) : Nat := 2 * p.cls + (s.onTorus t (w.dlFor t) p).h.dl.toNat
/-- The candidates that qualify: they admit the packet from the sump, and no closed gate keeps it from them (R353, R393). -/
def State.qualifying (s : State) (w : Pend) (p : Pkt) : List Nat :=
  (s.candidates p).filter (fun t => !s.gated t w && s.sumpAdmits t 0 (s.torQueue w p t) p.h.slice.toNat p.tiles)
/-- Does a closed gate hold a packet toward another node at injection (R393)? -/
def State.gateHolds (s : State) (w : Pend) (p : Pkt) : Bool :=
  decide (epNode p.h.dst.toNat ≠ s.node) && (s.pinned p || (s.qualifying w p).isEmpty) &&
    match (s.escape p).filter s.torusOk with
    | some t => s.gated t w
    | none => !s.pinned p && (s.candidates p).any (fun t => s.gated t w)

/-- Send a packet toward another node (R351 to R354, R393). -/
def State.forwardPkt (s : State) (w : Pend) (p : Pkt) : Bool × State :=
  let esc := (s.escape p).filter s.torusOk
  let viaEsc (s : State) (wait : Bool) : Bool × State :=
    match esc with
    | some t => if s.gated t w then (false, s) else s.storeAt t 0 w (s.onTorus t (w.dlFor t) p) true
    | none => if wait then (false, s) else (true, (s.noRoute w).gone w false)
  if s.pinned p then viaEsc s false
  else
    let depth (t : Nat) : Nat := s.qDepth t 0 (s.torQueue w p t)
    let key (t : Nat) : Nat := 8 * depth t + (t + 6 - s.sw.rr % 6) % 6
    match s.qualifying w p with
    | [] => viaEsc s (!(s.candidates p).isEmpty)
    | g :: gs =>
      let t := gs.foldl (fun a b => if key b < key a then b else a) g
      let tie := gs.any (fun b => decide (b ≠ t ∧ depth b = depth t)) || decide (g ≠ t ∧ depth g = depth t)
      let r := s.storeAt t 0 w (s.onTorus t (w.dlFor t) p) false
      (r.1, if tie ∧ r.1 then { r.2 with sw := { r.2.sw with rr := (t + 1) % 6 } } else r.2)

/-! ### Local delivery (R314, R491) -/

/-- The output of this node that serves a packet: partition and index. What this node builds for queue 0 goes to P0 (R314). -/
def State.localOut (s : State) (w : Pend) (p : Pkt) : Nat × Nat :=
  let port := epPort p.h.dst.toNat
  if p.isGal then
    let d := s.gdef p.galOf
    let home := if p.isFrame then d.home (nfld p.ext.toNat 20 24) else d.part
    (s.servePart (if d.v then home else w.part), 3)
  else if p.opc = opPUSH then (s.servePart w.part, 4)
  else if p.opc ∈ [opRDANS, opWRANS, opATANS] then (s.servePart w.part, 3)
  else if port < 12 then (s.servePart (portPart port), 3)
  else if p.opc = opATOMIC ∧ port = 12 then (s.servePart w.part, 3)
  else (s.servePart (if w.built && decide (port = 14) then 0 else w.part), 4)

/-- Store a packet for this node. -/
def State.deliverHere (s : State) (w : Pend) (p : Pkt) : Bool × State :=
  let o := s.localOut w p
  if s.runs o.1 then s.storeAt o.1 o.2 w p true else (false, s)

/-- A result of a gallery at the edge output of a member (R187, R576): written where the member's command has been accepted, else kept
in the output buffer until then. One of a step that is over is dropped. -/
def State.storeResult (s : State) (n o : Nat) (w : Pend) (del : GDel) (p : Pkt) : Bool × State :=
  let c := portCode n o
  if del.sg ≠ s.gsgen del.g ∨ s.gstate del.g ≠ gsRUNNING then (true, s)
  else if (s.gal del.g).mem.any (fun m => m.port = c) then (true, s.toMember del.g c del (p.gfrm 31))
  else
    let res := s.resAdmits n o 0 p.tiles
    if res ∨ s.sumpAdmits n o 0 p.h.slice.toNat p.tiles then
      (true, s.store n o { part := n, out := o, chan := 0, pkt := p, tiles := [], fromRes := res, arr := w.arr, inPort := w.inPort
                           contrib := [], win := false, ereq := none, gwait := some del } res)
    else (false, s)

/-- A packet as it is stored at the output its builder named: on a torus port with the hop's DL (R355), and HOP counted unless it is
a TIME_SYNC cell (R447). -/
def State.fixedPkt (s : State) (n o : Nat) (p : Pkt) : Pkt :=
  if o ≠ 0 then { p with h := { p.h with dl := 0 } }
  else
    let q := s.onTorus n p.h.dl.toNat p
    if p.opc = opTIMESYNC then { q with h := { q.h with hop := p.h.hop } } else q
/-- Store a packet at the output its builder named (R256): discarded where the port's link is lost (R339). -/
def State.storeFixed (s : State) (n o : Nat) (w : Pend) (p : Pkt) : Bool × State :=
  let c := portCode n o
  if s.runs n ∧ (s.up c ∨ s.pst c = psRETRAIN) then
    match w.gdel with
    | some del => if o = 0 then s.storeAt n o w (s.fixedPkt n o p) true else s.storeResult n o w del (s.fixedPkt n o p)
    | none => s.storeAt n o w (s.fixedPkt n o p) true
  else (true, s.gone w false)

/-! ### Gallery frames that are sent on, or held for the next step (R198, R256, R315, R338) -/

/-- Write the copy of a frame for port `c`. -/
def State.fwdCopy (s : State) (arr : Nat) (inPort : Option Nat) (f : GFrm) (del : GDel) (c : Nat) : Bool × State :=
  let d := s.gdef del.g
  let p := s.galPkt d c clRDN opGALDOWN ((s.gentry d del.e).dstOf f) f
  let o := outOf c
  s.storeFixed o.1 o.2 { part := o.1, pkt := p, inPort, arr, built := true, gdel := some del, ereq := none } p
/-- Write the copies of a frame that their outputs admit now, each on its own (R338): the ports left. -/
def State.fwdTry (s : State) (arr : Nat) (inPort : Option Nat) (f : GFrm) (y : Fwd) : List Nat × State :=
  y.left.foldl (fun r c =>
    let q := r.2.fwdCopy arr inPort f y.del c
    if q.1 then (r.1, q.2) else (r.1 ++ [c], { r.2 with free := q.2.free })) ([], s)
/-- Take up a frame that entry `e` sends on. A DISPATCH that has no way to the frame's node discards it (R354). -/
def State.fwdStart (s : State) (g e : Nat) (f : GFrm) : Fwd × State :=
  let d := s.gdef g
  let y := s.gentry d e
  let del := s.gdel g e f.x.chunk
  let ports := s.fwdPorts d y f
  if ports.isEmpty then
    let lost (s : State) : State := (s.count .routeStat routeStat_NOROUTE 1).blockEvent 0x1C ⟨syPART, 6⟩
    let s1 := if y.act = actDISPATCH ∧ epNode f.dst ≠ s.node then lost s else s
    (⟨del, []⟩, (s1.runAdd del 1).partDone g del)
  else (⟨del, ports⟩, s.runAdd del ports.length)

/-- What an attempt leaves of a frame that waits: all of it, nothing, or the ports of `Fwd`. -/
inductive Onward where
  | stay | gone | part (y : Fwd)

/-- Go on with a frame of gallery `g` that is not for the cores: `fwd` where its delivery has begun. -/
def State.fwdGo (s : State) (arr : Nat) (inPort : Option Nat) (f : GFrm) (fwd : Option Fwd) : Onward × State :=
  let g := f.x.gal
  let go (y : Fwd) (s : State) : Onward × State :=
    let r := s.fwdTry arr inPort f y
    (if r.1.isEmpty then .gone else .part { y with left := r.1 }, r.2)
  match fwd with
  | some y => if y.del.sg ≠ s.gsgen g ∨ s.gstate g ≠ gsRUNNING then (.gone, s) else go y s
  | none =>
    match s.fwdEntry g f with
    | none => (.gone, s)
    | some e =>
      if s.mayAct g e f.x.chunk (s.gentry (s.gdef g) e).act then
        let r := s.fwdStart g e f
        go r.1 r.2
      else (.stay, s)

/-- Does a frame of the current step wait in the sump that came from the same port before (R198)? -/
def State.heldFirst (s : State) (g c : Nat) : Bool :=
  s.sw.copies.any (fun x => decide (x.out = outHeld ∧ x.pkt.galOf = g ∧ x.pkt.sgenOf = s.gsgen g ∧ x.inPort = some c) && x.fwd.isNone)

/-- Hold a frame for its gallery's next step in the sump of the home partition (R198), where the sump takes it. -/
def State.galHold (s : State) (p : Pkt) (inPort : Option Nat) (arr : Nat) : Bool × State :=
  let n := (s.gdef p.galOf).part
  if s.sumpHolds n p.h.slice.toNat p.tiles then
    (true, s.store n outHeld { part := n, out := outHeld, chan := 0, pkt := p, tiles := [], fromRes := false, arr, inPort, contrib := []
                               win := false, ereq := none } false)
  else (false, s)

/-- Is a frame from port `c` one that its gallery's entries send on, or that is held for the next step, so that it does not go to the
cores (R198, R315)? -/
def State.bypasses (s : State) (c : Nat) (p : Pkt) : Bool :=
  let g := p.galOf
  let d := s.gdef g
  let f := p.gfrm c
  p.galFrm && s.galHere p && !s.reduceNames d c f.x.chunk
    && ((decide (f.x.sgen = s.gnext g) && decide ((s.gal g).skip ≠ some f.x.sgen))
      || (decide (f.x.sgen = s.gsgen g) && (s.gentries d).any (fun y => y.sends f)))

/-- A gallery frame at the head of a receive-stage channel that does not go to the cores (R198, R200, R315): checked, then held for the
next step, or sent on by its entry. A frame of the current step starts it. -/
def State.galHead (s : State) (c : Nat) (p : Pkt) (arr : Nat) (fwd : Option Fwd) : Onward × State :=
  let g := p.galOf
  let f := p.gfrm c
  match fwd with
  | some y => s.fwdGo arr (some c) f (some y)
  | none =>
    if p.e2e ≠ p.e2eOf then (.gone, s.sgenAbort g f.x.sgen grCHECK c)
    else if f.x.sgen ≠ s.gsgen g then
      let r := s.galHold p (some c) arr
      (if r.1 then .gone else .stay, r.2)
    else
      let s1 := s.galStart g
      match s.galBlocked (s.gdef g) with
      | some r => (.gone, s1.galAbort g r 31 99)
      | none => if s1.heldFirst g c then (.stay, s1) else s1.fwdGo arr (some c) f none

/-- Go on with a frame held for what has become the current step (R198): its tiles are read as its delivery begins (R325). -/
def State.heldGo (s : State) (x : Copy) : State :=
  let g := x.pkt.galOf
  let c := x.inPort.getD (epPort x.pkt.h.src.toNat)
  let drop (s : State) : State := s.dropCopies (fun y => decide (y = x))
  if x.pkt.sgenOf ≠ s.gsgen g ∨ s.gstate g ≠ gsRUNNING then s
  else if x.fwd.isNone ∧ x.firstBad.isSome then (drop s).galTiles x (fun s _ => s)
  else
    let r := s.fwdGo x.arr x.inPort (x.read.gfrm c) x.fwd
    match r.1 with
    | .stay => r.2
    | .gone => drop r.2
    | .part y => { r.2 with sw := { r.2.sw with copies := updFirst (fun z => decide (z = x)) (fun z => { z with fwd := some y }) r.2.sw.copies } }
/-- Go on with the held frames that meet `p`, in order of arrival. -/
def State.heldAll (s : State) (p : Copy → Bool) : State :=
  (s.sw.copies.filter (fun x => decide (x.out = outHeld) && p x)).foldl (fun s x => if x ∈ s.sw.copies then s.heldGo x else s) s

/-! ### Packets from endpoints (R256, R258, R262) -/

/-- Slice of a packet from the endpoint on port `c`: of its queue, gallery or request. -/
def State.edgeSlice (s : State) (c : Nat) (p : Pkt) : Nat :=
  if p.opc = opPUSH then fget (s.ctx (p.ext.toNat % 2 ^ 20)).w0 qSLICE
  else if p.opc ∈ [opRDANS, opWRANS, opATANS] then
    ((s.mv.ereq.find? (fun r => decide (r.port = c ∧ r.etag = some (p.h.tag.toNat % 256)))).map (fun r => r.slice)).getD 0
  else (s.gdef p.galOf).slice
/-- What an endpoint may send. -/
def Pkt.fromEndpoint (p : Pkt) : Bool := decide (p.opc ∈ [opPUSH, opGALC, opKVR, opCOMB, opRDANS, opWRANS, opATANS])
/-- The packet with the controller's substitutions. Its end-to-end CRC is made anew, and is left wrong where the frame's
own was. -/
def State.fromEdge (s : State) (c : Nat) (p : Pkt) : Pkt :=
  let q := { p with h := { p.h with
    src := BitVec.ofNat 16 (s.ep c), slice := BitVec.ofNat 6 (s.edgeSlice c p), dl := 0
    ep := BitVec.ofNat 1 s.active, col := 0, ecn := ecn0 p.cls, hop := 0 } }
  { q with e2e := if p.e2e = p.e2eOf then q.e2eOf else q.e2eOf ^^^ 1 }

/-! ### Admission (R315, R357 to R361, R522) -/

/-- A merged cell's acknowledgement passing this node is fanned out (R140). -/
def Pend.fan (w : Pend) (r : Bool × State) : Bool × State :=
  if r.1 ∧ w.pkt.opc = opACK ∧ w.pkt.flag fMRG then (true, r.2.fanOut w.part w.pkt) else r

/-- Route a packet: to this node, or toward another. -/
def State.route (s : State) (w : Pend) : Bool × State :=
  if w.pkt.flag fMC ∨ epNode w.pkt.h.dst.toNat = s.node then s.deliverHere w w.pkt else s.forwardPkt w w.pkt

/-- Admit a packet that this node built (R240, R360, R522): EP is set as it is injected. -/
def State.admitBuilt (s : State) (w : Pend) (fixed : Option (Nat × Nat)) : Bool × State :=
  let p := w.pkt
  if s.quar p.h.slice.toNat then (true, s.gone w false)
  else
    let e : BitVec 1 := BitVec.ofNat 1 s.active
    let p1 := if p.h.ep = e then p
      else let q := { p with h := { p.h with ep := e } }; { q with e2e := if p.isFrame then q.e2eOf else 0 }
    let w1 := { w with pkt := p1 }
    let r := w1.fan (match fixed with
      | some o => s.storeFixed o.1 o.2 w1 p1
      | none =>
        if epPort p1.h.dst.toNat = 15 then (true, (s.failCell w.part p1 stUNREACH).gone w false)
        else s.route w1)
    if r.1 then r else (false, { s with free := r.2.free })

/-- Admit a packet from a torus port: the port-15 rule, the epoch, the hop count and the slice permission (R11, R263,
R358, R361) come first. A packet with MC = 1 that is no gallery packet names no output and is discarded. TIME_SYNC cells are consumed here (R447). -/
def State.admitTorus (s : State) (w : Pend) : Bool × State :=
  let p := w.pkt
  let sl := p.h.slice.toNat
  let e := p.h.ep.toNat
  let local' := decide (epNode p.h.dst.toNat = s.node)
  let disc (s : State) : State := s.blockEvent 0x1C ⟨syPART, 6⟩
  let bad (s : State) (st : Nat) : Bool × State := (true, s.failCell w.part p st)
  if p.opc = opTIMESYNC then s.deliverHere w p
  else if p.flag fMC then if p.isGal then s.deliverHere w p else (true, s)
  else if epPort p.h.dst.toNat = 15 then bad s stUNREACH
  else if !s.live e then bad (disc (s.count .routeStat routeStat_EPBAD 1)) stUNREACH
  else if !local' ∧ 30 < p.h.hop.toNat then bad (disc (s.count .routeStat routeStat_HOPX 1)) stUNREACH
  else if !nbit (s.sliceHdr e sl) 0 ∨ (local' ∧ !s.permits e sl p.h.dst.toNat) then bad s stSLICE
  else w.fan (s.route w)

/-- Does a member's command hold back the frames it pushes: its RELEASE is not yet met (R194)? -/
def holdsFrame (c : Cmd) (x : GExt) : Bool :=
  decide (c.opc ∈ [opGALC, opCOMB, opKVR]) && c.pushed && c.releases && decide (c.gal = x.gal ∧ c.sgen = x.sgen)
/-- Is a pushed gallery frame of port `c` held at the port: its command is still on its way, or waits (R194)? -/
def State.relHold (s : State) (c : Nat) (x : GExt) : Bool :=
  let push (p : Pkt) (i : Option Nat) : Bool :=
    decide (p.opc = opPUSH ∧ i = some c) && holdsFrame (Cmd.ofBytes p.pay) x
  s.tp.txns.any (fun t => decide (t.port = c ∧ t.stage ≠ .running) && t.fstat.isNone && holdsFrame t.cmd x)
    || s.tp.pushW.any (fun w => decide (w.port = c) && holdsFrame w.cmd x)
    || s.sw.inbox.any (fun e => push e.pkt e.inPort) || s.sw.copies.any (fun e => push e.pkt e.inPort)
    || s.sw.rx.any (fun e => push e.pkt (some e.port))

/-- Count a combine frame taken from an edge port for its member's record (R196, log entry 119). -/
def State.combTaken (s : State) (c : Nat) (p : Pkt) : State :=
  if !s.galHere p ∨ (p.sgenOf ≠ s.gsgen p.galOf ∧ p.sgenOf ≠ s.gnext p.galOf) then s
  else s.updGal p.galOf (fun x =>
    let n := x.combs c p.sgenOf
    { x with combN := x.combN.filter (fun y => !decide (y.1 = c ∧ y.2.1 = p.sgenOf)) ++ [(c, p.sgenOf, n + 1)] })

/-- Admit a packet from an edge port (R194, R256, R258, R359). -/
def State.admitEdge (s : State) (c : Nat) (w : Pend) : Bool × State :=
  let q := s.fromEdge c w.pkt
  let sl := q.h.slice.toNat
  let w1 := { w with pkt := q }
  if !q.fromEndpoint ∨ s.quar sl then (true, s)
  else if q.isGal ∧ s.relHold c (GExt.ofNat q.ext.toNat) then (false, s)
  else if q.opc = opCOMB then
    if q.e2e ≠ q.e2eOf then (true, s.sgenAbort q.galOf q.sgenOf grCHECK c)
    else if !s.permits s.active sl q.h.dst.toNat then (true, s.portEvent c 0x1D)
    else
      let r := s.route w1
      (r.1, if r.1 then r.2.combTaken c q else r.2)
  else s.deliverHere w1 q

/-! ### The two rows -/

/-- The head of a receive-stage channel. -/
def State.rxHead (s : State) (c ch : Nat) : Option RxEnt := s.sw.rx.find? (fun x => decide (x.port = c ∧ x.chan = ch))
/-- The packet at a head as the switch takes it: with the controller's substitutions where an endpoint sent it (R258). -/
def State.headPkt (s : State) (x : RxEnt) : Pkt := if x.port < 12 then s.fromEdge x.port x.pkt else x.pkt
/-- Is a head a gallery frame that does not go to the cores and may be taken now? -/
def State.headBypass (s : State) (x : RxEnt) : Bool :=
  let q := s.headPkt x
  x.fwd.isSome || (q.flag fMC && s.bypasses x.port q
    && (decide (12 ≤ x.port) || (q.fromEndpoint && !s.quar q.h.slice.toNat && !s.relHold x.port (GExt.ofNat q.ext.toNat))))

/-- Try the packet at the head of a receive-stage channel (R315, R316): it leaves once every copy of it is written, and its units are
granted again. -/
def State.admitRecv (s : State) (c ch : Nat) : State :=
  let hit (x : RxEnt) : Bool := decide (x.port = c ∧ x.chan = ch)
  let drop (s : State) : State := { s with sw := { s.sw with rx := dropFirst hit s.sw.rx } }
  match s.rxHead c ch with
  | none => s
  | some x =>
    if !s.flows (portPart c) then s
    else if s.headBypass x then
      let r := s.galHead c (s.headPkt x) x.arr x.fwd
      match r.1 with
      | .stay => r.2
      | .gone => (drop r.2).regrant c
      | .part y => { r.2 with sw := { r.2.sw with rx := updFirst hit (fun z => { z with fwd := some y }) r.2.sw.rx } }
    else
      let w : Pend := { part := portPart c, pkt := x.pkt, inPort := some c, arr := x.arr, built := false, gdel := none, ereq := none }
      let r := if c < 12 then (drop s).admitEdge c w else (drop s).admitTorus w
      if r.1 then r.2.regrant c else { s with free := r.2.free }

/-- The first packet built in partition `n` that can be admitted; one that waits holds back later ones for the same
destination. `done`: the packets before it. -/
def State.tryBuilt (s : State) (n : Nat) : List Inj → List Inj → List (BitVec 16 × Option (Nat × Nat)) → State
  | _, [], _ => s
  | seen, x :: rest, held =>
    let key := (x.pkt.h.dst, x.fixed)
    let shaped := x.shaped && s.native && (s.rateOf x.pkt.h.slice.toNat x.pkt.h.dst.toNat).isSome
    if x.part ≠ n ∨ shaped ∨ key ∈ held then s.tryBuilt n (seen ++ [x]) rest held
    else
      let w : Pend := { part := n, pkt := x.pkt, inPort := none, arr := x.arr, built := true, gdel := x.gdel, ereq := x.ereq }
      let r := State.admitBuilt { s with sw := { s.sw with inj := seen ++ rest } } w x.fixed
      if r.1 then r.2 else State.tryBuilt { s with free := r.2.free } n (seen ++ [x]) rest (key :: held)

/-- Try the packets built in partition `n` (R315, R386, R393), and the gallery frames that its sump holds for what has become the
current step (R198). -/
def State.admitLocal (s : State) (n : Nat) : State :=
  if s.runs n then (s.tryBuilt n [] s.sw.inj []).heldAll (fun x => decide (x.part = n)) else s

/-! ### Contention for a buffer (R317) -/

/-- Copies in a partition's buffer. -/
def State.copiesIn (s : State) (n : Nat) : Nat := (s.sw.copies.filter (fun x => decide (x.part = n))).length
/-- The partitions in whose buffers the crossbar has written between two states. -/
def State.wrote (s t : State) : List Nat := (List.range 6).filter (fun n => decide (s.copiesIn n < t.copiesIn n))
/-- The order of classes at the crossbar. -/
def xbarRank (cls : Nat) : Nat := ([clMGT, clRSP, clRDN, clRUP, clREQ, clBLK].idxOf cls)
/-- The port that the crossbar took last into partition `n` in a class. -/
def State.lastIn (s : State) (n cls : Nat) : Nat :=
  ((s.sw.rrIn.find? (fun x => decide (x.1 = n ∧ x.2.1 = cls))).map (·.2.2)).getD 17
/-- The place of a head among those that contend for partition `n`: by class, then round robin over the receive stages. -/
def State.xbarKey (s : State) (n : Nat) (x : RxEnt) : Nat :=
  216 * xbarRank x.pkt.cls + 12 * ((x.port + 17 - s.lastIn n x.pkt.cls) % 18) + x.chan
/-- Admit a head, and note the port for the round robins of the partitions written to. -/
def State.xbarTake (s : State) (x : RxEnt) : State :=
  let t := s.admitRecv x.port x.chan
  (s.wrote t).foldl (fun t n => { t with sw := { t.sw with
    rrIn := t.sw.rrIn.filter (fun y => !decide (y.1 = n ∧ y.2.1 = x.pkt.cls)) ++ [(n, x.pkt.cls, x.port)] } }) t
/-- The head that goes before `x` where both can be written into one partition now: the first of those that contend for the lowest
such partition. -/
def State.rival (s : State) (x : RxEnt) : Option RxEnt :=
  let heads := ((s.sw.rx.map (fun y => (y.port, y.chan))).dedup.filterMap (fun h => s.rxHead h.1 h.2)).filter (fun y => decide (y ≠ x))
  if heads.isEmpty then none
  else
    (s.wrote (s.admitRecv x.port x.chan)).findSome? (fun n =>
      let cs := heads.filter (fun y => decide (s.xbarKey n y < s.xbarKey n x) && decide (n ∈ s.wrote (s.admitRecv y.port y.chan)))
      match cs with
      | [] => none
      | y :: l => some (l.foldl (fun a b => if s.xbarKey n b < s.xbarKey n a then b else a) y))
/-- Try a head of a receive stage: where another goes before it into a partition it would be written to, the crossbar writes that one
(R317). -/
def State.xbar (s : State) (c ch : Nat) : State :=
  match s.rxHead c ch with
  | none => s
  | some x => s.xbarTake ((s.rival x).getD x)

/-- An attempt at admission. -/
def State.tryAdmit (s : State) (a : AdmitSrc) : State :=
  match a with
  | .recv c ch => s.xbar c ch
  | .built n => s.admitLocal n

end Sys2Proof.Machine
end

