-- ==== Sys2Proof/Machine/Outputs.lean ====
section
/-! DEFINITION. What an output does with a copy: the choice, the checks on it, marking, sending, delivery and sampling
(spec/09_switch_core.md R325 to R342, spec/11_congestion.md R379, spec/08_lanes_links.md R284, R292). -/

namespace Sys2Proof.Machine

/-! ### The choice (R337) -/

/-- The head of queue `q`. A result frame that waits for its member's command is not sent (R576, log entry 72). -/
def State.qHead (s : State) (n o q : Nat) : Option Copy :=
  s.sw.copies.find? (fun x => decide (x.part = n ∧ x.out = o ∧ x.chan = q) && x.gwait.isNone)
/-- Bytes of a port's replay buffer, and packets it may have outstanding (R292). -/
abbrev replayBytes (c : Nat) : Nat := if c < 12 then 262144 else 1048576
/-- Has a packet enough credit on port `c` (R284)? -/
def State.creditFor (s : State) (c : Nat) (p : Pkt) : Bool :=
  let ch := if c < 12 then 0 else p.chan
  decide (p.units ≤ (nthD (s.link c).granted ch + 65536 - nthD (s.link c).usedU ch) % 65536)
/-- May a copy leave on port `c`: the port is up and not in announced idle, with credit and replay room (R284, R292)? -/
def State.linkRoom (s : State) (c : Nat) (x : Copy) : Bool :=
  s.up c && decide (s.fld (statReg c) portStat_TXIDLE = 0 ∧ (s.link c).txAt ≤ s.now) && s.creditFor c x.pkt
    && decide (sumBy (fun (r : Rep) => r.pkt.size) (s.unacked c) + x.pkt.size ≤ replayBytes c
        ∧ (s.unacked c).length < 16384)
/-- May a copy leave its output now? -/
def State.canLeave (s : State) (n o : Nat) (x : Copy) : Bool := if o ≤ 2 then s.linkRoom (portCode n o) x else true
/-- The heads of an output's queues that may leave. -/
def State.readyHeads (s : State) (n o : Nat) : List Copy :=
  ((queuesOf o).filterMap (s.qHead n o)).filter (s.canLeave n o)

/-- The round robin of an output. -/
def State.drr (s : State) (n o : Nat) : Drr :=
  (s.sw.drrs.find? (fun d => decide (d.part = n ∧ d.out = o))).getD
    { part := n, out := o, cur := 0, fed := false, defs := [0, 0, 0], alt := 0 }
/-- Keep it. -/
def State.setDrr (s : State) (d : Drr) : State :=
  { s with sw := { s.sw with drrs := s.sw.drrs.filter (fun x => !decide (x.part = d.part ∧ x.out = d.out)) ++ [d] } }

/-- A gallery's credit at a port now, in quarter bytes: BW GB/s in proportion to the port's width, up to 16 KiB
(R307, R337). -/
def State.galCredit (s : State) (g c : Nat) : Nat :=
  match s.sw.creds.find? (fun x => decide (x.g = g ∧ x.port = c)) with
  | none => 65536
  | some x => min 65536 (x.cr + (s.fnow - x.at') * (s.gdef g).bw * s.fld (statReg c) portStat_WIDTH / portLanes c)
/-- Has the gallery of a frame a reservation at an output (R183): for RDN at the ports of DOWNMASK, for RUP at UPPORT? -/
def State.reserved (s : State) (n o : Nat) (p : Pkt) : Bool :=
  let d := s.gdef p.galOf
  let c := portCode n o
  decide (o ≤ 2) && p.galFrm && d.v && (if p.cls = clRDN then nbit d.down c else decide (p.cls = clRUP ∧ c = d.up))
/-- Is a copy a gallery frame with credit left at its output? -/
def State.credited (s : State) (n o : Nat) (x : Copy) : Bool :=
  s.reserved n o x.pkt && decide (4 * x.pkt.size ≤ s.galCredit x.pkt.galOf (portCode n o))

/-- Of the heads of one class, the one whose channel did not go last. -/
def pickAlt (alt cls : Nat) (l : List Copy) : Option Copy :=
  (l.find? (fun x => decide (x.pkt.h.dl.toNat ≠ (nbit alt cls).toNat))) <|> l.head?

/-- The share of the round robin a class has: 0 REQ, 1 BLK, 2 galleries. -/
def drrIdx (cls : Nat) : Nat := if cls = clREQ then 0 else if cls = clBLK then 1 else 2
/-- Deficit round robin over the heads left (R337), with fuel: the copy chosen and the round robin after it. -/
def drrPick (heads : List Copy) : Nat → Drr → Option (Copy × Drr)
  | 0, _ => none
  | f + 1, d =>
    let mine := heads.filter (fun x => decide (drrIdx x.pkt.cls = d.cur))
    let next (defs : List Nat) : Drr := { d with cur := (d.cur + 1) % 3, fed := false, defs }
    match mine.head? with
    | none => drrPick heads f (next (d.defs.set d.cur 0))
    | some h =>
      let x := (pickAlt d.alt h.pkt.cls (mine.filter (fun y => decide (y.pkt.cls = h.pkt.cls)))).getD h
      let defs := if d.fed then d.defs else d.defs.set d.cur (nthD d.defs d.cur + 8232)
      if x.pkt.size ≤ nthD defs d.cur then
        some (x, { d with fed := true, defs := defs.set d.cur (nthD defs d.cur - x.pkt.size) })
      else drrPick heads f (next defs)

/-- The next copy of an output, with its round robin (R337): MGT, RSP, galleries with credit, then the round robin. -/
def State.choose (s : State) (n o : Nat) : Option (Copy × Drr) :=
  let hs := s.readyHeads n o
  let d := s.drr n o
  let cls (k : Nat) (l : List Copy) : Option Copy := pickAlt d.alt k (l.filter (fun x => decide (x.pkt.cls = k)))
  let cred := hs.filter (s.credited n o)
  match cls clMGT hs <|> cls clRSP hs <|> cls clRUP cred <|> cls clRDN cred with
  | some x => some (x, d)
  | none => drrPick hs 8 d

/-- The channel a class sent on last. -/
def Drr.sent (d : Drr) (x : Copy) : Drr :=
  let k := x.pkt.cls
  let off := if nbit d.alt k then d.alt - 2 ^ k else d.alt
  { d with alt := if x.pkt.h.dl = 1 then off + 2 ^ k else off }

/-- A gallery frame uses its credit, as far as it has any. -/
def State.useCredit (s : State) (n o : Nat) (x : Copy) : State :=
  if s.reserved n o x.pkt then
    let c := portCode n o
    let g := x.pkt.galOf
    let cr := s.galCredit g c - 4 * x.pkt.size
    { s with sw := { s.sw with creds := s.sw.creds.filter (fun y => !decide (y.g = g ∧ y.port = c))
        ++ [{ g, port := c, cr, at' := s.fnow }] } }
  else s

/-! ### Checks on the copy chosen -/

/-- Is a copy too old to leave (R328, R329, R331)? -/
def State.tooOld (s : State) (x : Copy) : Bool := !x.pkt.isGal && s.aged x.arr x.pkt.isFrame

/-- What becomes of the packet of a copy lost to a tile check (table of R326). The request of an edge-request cell ends with
CHECK_FAIL. -/
def State.tileLost (s : State) (n : Nat) (x : Copy) (t : Nat) : State :=
  let p := x.pkt
  let s1 := s.tileEvent n p t
  if p.isGal then s1.sgenAbort p.galOf p.sgenOf grCHECK 31
  else if !p.isFrame ∧ p.cls = clREQ then
    match x.ereq with
    | some k => s1.ereqLost k
    | none => s1.failCell n p stCHECK
  else s1.ereqSent x.ereq

/-- Bit `b` of tile `t` of a partition's buffer changes in the copy that holds it. -/
def Copy.strike (t b : Nat) (x : Copy) : Copy :=
  let f := (x.tiles.idxOf t, b)
  { x with flips := if f ∈ x.flips then x.flips.filter (fun y => y ≠ f) else x.flips ++ [f] }
/-- A bit of a packet that a unit holds changes; a frame that met its first check keeps that (R125). -/
def InEnt.strike (b : Nat) (e : InEnt) : InEnt :=
  { e with
    pkt := if b < 8 * e.pkt.pay.length then { e.pkt with pay := flipBit e.pkt.pay b } else e.pkt
    struck := e.struck || (e.pkt.isFrame && decide (e.pkt.e2e = e.pkt.e2eOf)) }
/-- A bit changes in a buffer of partition `n` (R125, R325). -/
def State.strike (s : State) (n : Nat) (u : Upset) : State :=
  match u with
  | .tile t b => { s with sw := { s.sw with
      copies := updFirst (fun x => decide (x.part = n) && decide (t ∈ x.tiles)) (Copy.strike t b) s.sw.copies } }
  | .held k b => match (s.sw.inbox.filter (fun e => decide (e.part = n)))[k]? with
    | none => s
    | some e => { s with sw := { s.sw with inbox := updFirst (fun y => decide (y = e)) (InEnt.strike b) s.sw.inbox } }

/-- Mark a copy of REQ or BLK at a queue of depth `depth` (R379). -/
def State.ecnMark (s : State) (n o depth : Nat) (p : Pkt) : Pkt × State :=
  let k := s.fld (.mark n) (if p.cls = clBLK then mark_KBLK else mark_KREQ)
  if (p.cls = clREQ ∨ p.cls = clBLK) ∧ p.markable = true ∧ k ≤ depth then
    ({ p with h := { p.h with ecn := 3 } }, s.countSl n p.h.slice.toNat (.telQ n o) telQ_MARKED)
  else (p, s)

/-! ### Sampling (R340, R341) -/

/-- The 256 bytes of a sample record. -/
def State.sampleRec (s : State) (n o ch depth : Nat) (payload : Bool) (p : Pkt) : List Byte :=
  let b := p.bytes
  let keep := if payload then b.take 128 else b.take (if p.isFrame then 32 else 12)
  padTo 128 keep ++ natBytes 8 s.fnow ++ natBytes 2 b.length ++ natBytes 1 (n + 16 * o) ++ natBytes 1 ch
    ++ natBytes 4 depth ++ zeros 112
/-- Write a sample into the ring, or count it as lost (R341): slots of samples still being written lie between WIDX and it. -/
def State.sampleOut (s : State) (d : List Byte) : State :=
  let r := s.reg .smpRing
  let size := 2 ^ fget r smpRing_LOG2
  let w := (s.fld .smpIdx smpIdx_WIDX + (s.mv.jobs.filter (fun j => decide (j.cont = .sample))).length) % size
  if (w + 1) % size = s.fld .smpIdx smpIdx_RIDX % size then s.count .smpIdx smpIdx_LOST 1
  else
    let j := s.newJob 0 1 .sample
    j.2.addMg true (4096 * fget r smpRing_BASE + 256 * w) 256 d j.1 0 none
/-- A sample is written: WIDX advances (R341). -/
def State.sampleDone (s : State) : State :=
  s.setFld .smpIdx smpIdx_WIDX ((s.fld .smpIdx smpIdx_WIDX + 1) % 2 ^ s.fld .smpRing smpRing_LOG2)
/-- Count a copy that output `o` sends, and sample every Nth (R340). -/
def State.sampleTake (s : State) (n o depth : Nat) (p : Pkt) : State :=
  let r := s.reg (.sample n)
  if fget r sample_EN = 1 ∧ nbit (fget r sample_OMASK) o ∧ nbit (fget r sample_CMASK) p.cls then
    let big := max 1 (fget r sample_N)
    let left := ((s.sw.samp.find? (fun x => decide (x.1 = n ∧ x.2.1 = o))).map (·.2.2)).getD big
    let put (k : Nat) (s : State) : State := { s with sw := { s.sw with
      samp := s.sw.samp.filter (fun x => !decide (x.1 = n ∧ x.2.1 = o)) ++ [(n, o, k)] } }
    if left ≤ 1 then (put big s).sampleOut (s.sampleRec n o p.chan depth (decide (fget r sample_PAYLOAD = 1)) p)
    else put (left - 1) s
  else s

/-! ### Leaving -/

/-- A TIME_SYNC cell as it crosses the transmitting dock: T1 of a request and T3 of a response are the time (R448). -/
def Pkt.stamped (p : Pkt) (ft : Nat) : Pkt :=
  if p.opc ≠ opTIMESYNC then p
  else { p with pay := splice p.pay (if bytesNat (p.pay.take 1) = 1 then 8 else 24) (natBytes 8 ft) }
/-- Send a copy on a port: LSEQ, credit, replay buffer, counters, the link (R284, R292, R419). -/
def State.sendOn (s : State) (c : Nat) (p : Pkt) : State :=
  let l := s.link c
  let ch := if c < 12 then 0 else p.chan
  let first := (s.unacked c).isEmpty
  let r : Rep := { port := c, lseq := l.next, pkt := p }
  let s1 := { s with sw := { s.sw with replay := s.sw.replay ++ [r] } }
  let s2 := s1.setLink c (fun x =>
    { x with
      next := (x.next + 1) % 65536, usedU := x.usedU.set ch ((nthD x.usedU ch + p.units) % 65536), lastTx := s.now
      ackAt := if first then s.now else x.ackAt })
  let n := portPart c
  let tel (r k : Nat) (s : State) : State :=
    if s.telCounts n p.h.slice.toNat then
      s.setReg (.telPort n (portK c) r) (s.reg (.telPort n (portK c) r) + BitVec.ofNat 64 k) else s
  ((tel 1 p.size (tel 0 1 s2)).snoop (if c < 12 then 1 else 3) c p).linkSend c l.next p

/-- Keep what the acknowledgement of a merged cell will need (R140). -/
def State.keepMerged (s : State) (x : Copy) : State :=
  if x.contrib.isEmpty then s
  else
    let k := x.pkt.contrib
    let m : Merged := { src := k.src, tag := k.tag, qid := k.qid, seq := k.seq, list := x.contrib }
    { s with sw := { s.sw with merged := s.sw.merged ++ [m] } }

/-- Nothing may be sent: pending control blocks take the next position (R273). -/
def State.idlePosition (s : State) (n o : Nat) : State :=
  if o ≤ 2 ∧ s.up (portCode n o) ∧ s.fld (statReg (portCode n o)) portStat_TXIDLE = 0 then s.placeCtl (portCode n o) else s

/-- A frame and the frames of a chunk that a unit takes in one moment are taken in the order of their port codes (R222). -/
def InEnt.before (e y : InEnt) : Bool :=
  decide (y.at' = e.at') && e.pkt.galFrm && y.pkt.galFrm && decide (y.pkt.galOf = e.pkt.galOf)
    && decide (nfld y.pkt.ext.toNat 20 24 = nfld e.pkt.ext.toNat 20 24) && decide (e.port < y.port)
/-- A packet joins those that units hold: in order of arrival, and of port code where gallery frames arrive together (R222). -/
def inboxAdd (e : InEnt) (l : List InEnt) : List InEnt :=
  l.takeWhile (fun y => !e.before y) ++ e :: l.dropWhile (fun y => !e.before y)

/-- The partition that has quarantined the key of a packet which reaches it (R499): the command's endpoint and QID, which for a later
cell its receive record gives. -/
def State.quarPart (s : State) (e : InEnt) : Option Nat :=
  let p := e.pkt
  let src := p.h.src.toNat
  let qid := if p.hasDesc then some (Desc.ofNat p.desc).qid
    else (s.tp.rrecs.find? (fun r => decide (r.src = src ∧ r.xid = xidOf p ∧ r.cell = true))).map (·.qid)
  if p.flag fMC ∨ p.opc = opGETDATA ∨ ¬ (p.cls = clREQ ∨ p.cls = clBLK) then none
  else qid.bind (fun q => [e.part, e.chans].find? (fun n => s.quarAt n src q))
/-- Deliver a packet to the units behind ENG or NODE; one of a quarantined key is discarded, and a FAIL says so (R499). -/
def State.deliverUnit (s : State) (n : Nat) (x : Copy) (p : Pkt) : State :=
  let e : InEnt := { part := n, pkt := p, inPort := x.inPort, arr := x.arr, at' := s.now }
  match s.quarPart e with
  | some m => s.failWith n p stQUAR (s.gen m)
  | none => { s with sw := { s.sw with inbox := inboxAdd e s.sw.inbox } }

/-- Send the copy that output `o` has chosen, which meets its checks (R325, R340, R379, R522, R526): marked, sampled as sent. -/
def State.sendCopy (s : State) (n o depth : Nat) (x : Copy) (p : Pkt) : State :=
  let c := portCode n o
  let sl := x.pkt.h.slice.toNat
  let m := s.ecnMark n o depth p
  let s1 := (m.2.keepMerged { x with pkt := m.1 }).ereqSent x.ereq
  if 2 < o then (s1.sampleTake n o depth m.1).deliverUnit n x m.1
  else if !s1.canSeal c sl then s1.count .secStat secStat_UNSEAL 1
  else
    let q := m.1.stamped s1.fnow
    (s1.sampleTake n o depth q).sendOn c q

/-- A copy whose first tile met its check and a later one did not has begun to leave on a link: what has gone is cut short, the
partner finds it failing, and it is not replayed (R326). -/
def State.cutShort (s : State) (n o i : Nat) (x : Copy) : State :=
  if o ≤ 2 ∧ 0 < i then s.linkEmit (portCode n o) (.cut (portCode n o) (s.link (portCode n o)).next (x.read.bytes.take (256 * i))) else s

/-- One selection at output `o` of partition `n` (R326, R328, R337). -/
def State.outputStep (s : State) (n o : Nat) : State :=
  if !s.flows n then s
  else match s.choose n o with
    | none => s.idlePosition n o
    | some r =>
      let x := r.1
      let p := x.pkt
      let sl := p.h.slice.toNat
      let depth := s.qDepth n o x.chan
      let s0 := (s.setDrr (r.2.sent x)).useCredit n o x
      let s1 := { s0 with sw := { s0.sw with copies := dropFirst (fun y => decide (y = x)) s0.sw.copies } }
      let s2 := if o = 0 then s1.gateRefresh n else s1
      if s.quar sl then s2.ereqSent x.ereq
      else if s.tooOld x then
        let q := if p.isFrame then (s2.countSl n sl (.swcErr n) swcErr_AGEF).outEvent n o 0x13 sl
          else (s2.countSl n sl (.swcErr n) swcErr_AGEC).outEvent n o 0x12 sl
        q.ereqSent x.ereq
      else match x.firstBad with
        | some i => (s2.cutShort n o i x).tileLost n x (x.tiles.getD i 0)
        | none => s2.sendCopy n o depth x x.read

end Sys2Proof.Machine
end

