-- ==== Sys2Proof/Machine/Steps.lean ====
section
/-! DEFINITION. What reaches a gallery's cores (frames delivered, data read from memory, deep-store chunks), and the two actions that
send frames on (spec/05_galleries.md R187, R195, R198, R200, spec/06_reduction_arithmetic.md R222, R224). -/

namespace Sys2Proof.Machine

/-! ### Frames on receipt (R198, R263 checks 6 and 8) -/

/-- Count a stale frame (R198). -/
def State.galStale (s : State) (g : Nat) : State := s.count (.galStat g) galStat_STALE 1
/-- The weight a frame is folded with: its WEIGHT in COMBINE_CONTRIB, none elsewhere (R205, R254). -/
def Pkt.foldWeight (p : Pkt) : Option Val :=
  if p.opc = opCOMB then some (decodeElem 0 (GExt.ofNat p.ext.toNat).weight) else none

/-- A gallery frame delivered to the cores: the end-to-end check, then R198. -/
def State.rxGal (s : State) (e : InEnt) : State :=
  let p := e.pkt
  let f := p.gfrm e.port
  let g := p.galOf
  if p.e2e ≠ p.e2eOf then s.sgenAbort g f.x.sgen grCHECK e.port
  else if !s.galHere p then s.galStale g
  else if f.x.sgen = s.gsgen g then s.galTake g f p.foldWeight
  else if f.x.sgen ≠ s.gnext g ∨ (s.gal g).skip = some f.x.sgen then s.galStale g
  else if s.reduceNames (s.gdef g) f.port f.x.chunk then s.galReduce g f.x.sgen f.port f.x p.foldWeight f.pay
  else (s.galHold p e.inPort e.arr).2

/-- Are two gallery frames of one step of one gallery? -/
def Pkt.sameStep (p q : Pkt) : Bool := p.galFrm && q.galFrm && decide (p.galOf = q.galOf ∧ p.sgenOf = q.sgenOf)
/-- May a delivered frame be taken now: one to be held for the next step needs tiles of the sump (R198)? -/
def State.galRoom (s : State) (e : InEnt) : Bool :=
  let p := e.pkt
  let d := s.gdef p.galOf
  if !s.galHere p ∨ p.sgenOf ≠ s.gnext p.galOf ∨ (s.gal p.galOf).skip = some p.sgenOf
      ∨ s.reduceNames d e.port (GExt.ofNat p.ext.toNat).chunk then true
  else s.sumpHolds d.part p.h.slice.toNat p.tiles
/-- Does a delivered frame wait for an earlier one of its step: from the same port (R198), or to the same accumulators (R222)? -/
def State.galBehind (s : State) (e : InEnt) : Bool :=
  (s.sw.inbox.takeWhile (fun x => decide (x ≠ e))).any (fun x =>
    x.pkt.sameStep e.pkt && (decide (x.port = e.port)
      || (decide ((GExt.ofNat x.pkt.ext.toNat).chunk = (GExt.ofNat e.pkt.ext.toNat).chunk) && s.galRoom x)))
/-- Is it the turn of a delivered gallery frame of an opcode (R198, R222)? -/
def State.galTurn (s : State) (o : Nat) (e : InEnt) : Bool :=
  s.runs e.part && decide (e.pkt.opc = o) && s.galRoom e && !s.galBehind e
/-- Take the oldest delivered gallery frame of an opcode whose turn has come; where there is none, a frame of that opcode at the head of
a receive stage that does not go to the cores is sent on or held (R198, R315). -/
def State.galRow (s : State) (o : Nat) : State :=
  match s.sw.inbox.find? (s.galTurn o) with
  | some e => State.rxGal { s with sw := { s.sw with inbox := dropFirst (s.galTurn o) s.sw.inbox } } e
  | none =>
    match s.sw.rx.find? (fun x => decide (x.pkt.opc = o) && decide (s.rxHead x.port x.chan = some x) && s.headBypass x) with
    | some x => s.admitRecv x.port x.chan
    | none => s

/-! ### Contributions that no frame brings (R195, R222) -/

/-- The cores take first what has been delivered of a chunk and meets `p` (R222). -/
def State.foldFirst (s : State) (g sg j : Nat) (p : InEnt → Bool) : State :=
  let mine (s : State) (e : InEnt) : Bool :=
    s.runs e.part && e.pkt.galFrm && decide (e.pkt.galOf = g ∧ e.pkt.sgenOf = sg ∧ (GExt.ofNat e.pkt.ext.toNat).chunk = j) && p e
  (s.sw.inbox.filter (mine s)).foldl (fun s e =>
    if e ∈ s.sw.inbox then State.rxGal { s with sw := { s.sw with inbox := dropFirst (fun x => decide (x = e)) s.sw.inbox } } e else s) s

/-- Frame `i` of the contribution a member's command reads from LREG: chunk COFF + i, footprint bytes each (R195). -/
def memFrame (d : GDef) (t : Txn) (data : List Byte) (i : Nat) : GFrm :=
  let f := d.foot
  let pay := slice data (i * f) f
  let tok := if t.cmd.opc = opKVR then (t.cmd.tstart + i * (f / t.cmd.tokb)) % 2 ^ 24 else 0
  { port := t.port, dst := 0, pay, flags := t.cmd.flags % 128
    x := { gal := t.cmd.gal, sgen := t.cmd.sgen, chunk := t.cmd.coff + i, flen := pay.length, w := false, satf := false,
           uflf := false, srf := false, half := false, token := tok, weight := 0 } }

/-- A contribution read from LREG has come, or its read has failed (R195, R200, R222). -/
def State.galReadDone (s : State) (g txn sgen : Nat) (data : List Byte) (fail : Option (Nat × Nat)) : State :=
  match s.findTxn txn with
  | none => s
  | some t =>
    match fail with
    | some f =>
      let res := (f.1, dataResult f.1 t.ep t.cmd.lreg f.2 0)
      let s1 := s.updGal g (fun x => { x with
        mem := updFirst (fun m => m.txn = txn) (fun m => { m with fail := some res }) x.mem })
      if sgen = s.gsgen g then s1.galAbort g grMEMBER t.port 99 else s1
    | none =>
      let d := s.gdef g
      (List.range (cdiv data.length d.foot)).foldl (fun s i =>
        let f := memFrame d t data i
        let earlier (e : InEnt) : Bool := decide (e.at' < s.now ∨ e.port < t.port)
        let s1 := s.foldFirst g sgen f.x.chunk earlier
        if s1.gsgen g = sgen ∧ (s1.findTxn txn).isSome then s1.galTake g f none else s1) s

/-- A DSWRITE or DSREAD has ended (R187, R200). Frames that are there go before what a DSREAD brings (R222). -/
def State.galDsDone (s : State) (del : GDel) (data : List Byte) (rd : Bool) (fail : Option (Nat × Nat)) : State :=
  let under (s : State) : Bool := (s.gal del.g).runs.any (fun r => r.d = del)
  if !under s then s
  else match fail with
    | some _ => s.galAbort del.g grCHECK 31 99
    | none =>
      let x : GExt := { gal := del.g, sgen := del.sg, chunk := del.j, flen := data.length, w := false, satf := false,
                        uflf := false, srf := false, half := false, token := 0, weight := 0 }
      let s1 := if rd then
          let s0 := s.foldFirst del.g del.sg del.j (fun _ => true)
          if under s0 then s0.galReduce del.g del.sg 31 x none data else s0
        else s
      s1.partDone del.g del

/-! ### FORWARD and DISPATCH (R187, R198, R256) -/

/-- The frames of chunk `j` of the current step that wait in the sump, and then those at the heads of the receive stages, are sent on
where they came from a port that meets `p`. -/
def State.sendWaiting (s : State) (g j : Nat) (p : Nat → Bool) : State :=
  let of (q : Pkt) : Bool :=
    q.galFrm && decide (q.galOf = g ∧ q.sgenOf = s.gsgen g ∧ (GExt.ofNat q.ext.toNat).chunk = j)
  let s1 := s.heldAll (fun x => of x.pkt && p (x.inPort.getD (epPort x.pkt.h.src.toNat)))
  (s1.sw.rx.filter (fun x => of x.pkt && p x.port)).foldl (fun s x =>
    if s.rxHead x.port x.chan = some x ∧ s.headBypass x then s.admitRecv x.port x.chan else s) s1

/-- FORWARD: the first frame of chunk `j` from FROM, to MASK. -/
def State.forward (s : State) (g e j : Nat) (y : GEntry) : State :=
  match (s.gal g).frames.find? (fun f => decide (f.x.chunk = j ∧ f.port = y.from')) with
  | some f => s.sendKept g e (s.gdef g) y f
  | none => s.sendWaiting g j (fun c => decide (c = y.from'))

/-- DISPATCH: every frame of chunk `j` that has come from SRCMASK goes toward the destination in its header (R256, log entry 16). -/
def State.dispatch (s : State) (g e j : Nat) (y : GEntry) : State :=
  let fs := (s.gal g).frames.filter (fun f => decide (f.x.chunk = j) && nbit y.mask f.port)
  (fs.foldl (fun s f => s.sendKept g e (s.gdef g) y f) s).sendWaiting g j (nbit y.mask)

end Sys2Proof.Machine
end

