-- ==== Sys2Proof/Machine/Settle.lean ====
section
/-! DEFINITION. What follows at once from a step and has no row of its own: queued events reach their fault units, moves
whose last answer is in end, held commands leave, commands that no row starts are refused (log entry 8). -/

namespace Sys2Proof.Machine

/-- A move has ended. -/
def State.jobEnd (s : State) (j : Job) : State :=
  match j.cont with
  | .sndData x => s.sndLoaded x j.buf j.fail
  | .rxWrite src qid seq xid idx off n mark => s.rxWritten src qid seq xid idx off n mark j.fail
  | .getWrite t n idx off => s.getWritten t n idx off j.fail
  | .record r => s.recAnswer r j.fail.isNone
  | .atomic p n => s.atomicDone p n j.buf j.fail
  | .galRead g t sg => s.galReadDone g t sg j.buf j.fail
  | .galWrite d port t n fl => s.galWritten d port t n fl j.fail
  | .dsWrite d => s.galDsDone d [] false j.fail
  | .dsRead d => s.galDsDone d j.buf true j.fail
  | .scrub => s.scrubStep j.fail
  | .scan => s.scanStep j.buf j.fail
  | .attest => s.attStep j.buf j.fail
  | .sample => s.sampleDone
  | .dumpEnd => s
  | .drop => s

/-- Does something wait to be settled: an event, an ended move, a dump whose last write is in? -/
def State.unsettled (s : State) : Bool :=
  !s.evq.isEmpty || s.mv.jobs.any (fun j => decide (j.left = 0))
    || (!s.dumpWrites && (match s.mg.dump with | some d => d.ending.isSome | none => false))

/-- Settle the first of them. -/
def State.settleOne (s : State) : State :=
  match nextEvent s.evq with
  | some x => State.oneEvent { s with evq := x.2 } x.1
  | none =>
    match s.mv.jobs.find? (fun j => j.left = 0) with
    | some j => State.jobEnd { s with mv := { s.mv with jobs := s.mv.jobs.filter (fun x => x.id ≠ j.id) } } j
    | none => s.dumpFinish

/-- Is a command one of a gallery (R192)? -/
def isGalCmd (c : Cmd) : Bool := decide (c.opc ∈ [opGALC, opCOMB, opKVR])

/-- Every held command that may leave does so, oldest first (R145, R146, R152, R194, R370). -/
def State.releaseHeld (s : State) : State :=
  (s.tp.txns.filter (fun t => decide (t.stage = .held))).foldl (fun s t =>
    match s.findTxn t.id with
    | some u => if isGalCmd u.cmd then (if u.id ∈ (s.gal u.cmd.gal).heldC then s else s.galRelease u) else s.release u
    | none => s) s

/-- Does no row start a command: an undefined OPC, a management opcode on a data queue, an undefined ATOMIC sub-op? -/
def noRowCmd (c : Cmd) : Bool := !isDataOpc c.opc || (decide (c.opc = opATOMIC) && decide (8 ≤ c.subop % 16))

/-- Commands that no row starts are refused in their turn (R81). -/
def State.refuseHeads (s : State) : State :=
  (s.tp.txns.filter (fun t => decide (t.stage = .accepted) && noRowCmd t.cmd)).foldl (fun s t =>
    match s.startable t.qid with
    | some u => if u.id = t.id then s.begin u else s
    | none => s) s

/-- Is a fetched command one that no row takes: a table or mode or SUBOP that does not exist (R541, R308, R512)? The byte
of the field. -/
def mgmtNoRow (c : Cmd) : Option Nat :=
  if c.opc = 0x82 ∧ (c.fld 2 0 4 = 0 ∨ 6 ≤ c.fld 2 0 4) then some 16
  else if c.opc = 0xA8 ∧ 5 ≤ c.fld 2 8 4 then some 17
  else if c.opc = 0xB0 ∧ 2 ≤ c.subop then some 1
  else none

/-- Does something on queue 0 hold back every later command: a command not started, a FENCE (R149), an ACQUIRE (R153)? -/
def State.mgmtBlocked (s : State) : Bool :=
  s.tp.txns.any (fun u => decide (u.qid = 0)
    && (decide (u.stage = .accepted) || decide (u.cmd.opc = opFENCE) || u.cmd.acquires))

/-- The command fetched first, where the interpreter runs: a data opcode is accepted on queue 0, with slice 0 and port 14
(R92); one that no row takes is refused in its turn (R81, R544). -/
def State.mgmtHead (s : State) : State :=
  match s.mg.fetched with
  | [] => s
  | c :: t =>
    let s1 : State := { s with mg := { s.mg with fetched := t } }
    if s.mg.interp ≠ .running then s
    else if isDataOpc c.opc then s1.accept 0 14 0 c
    else if s.mgmtBlocked then s
    else if !isMgmtOpc c.opc then s1.mgmtBad c (1, 0)
    else match mgmtNoRow c with
      | some off => s1.mgmtBad c (c.reservedFail.getD (3, off))
      | none => s

/-- Has a fetched command its record still to write (R93)? -/
def State.mgmtPend (s : State) : Bool :=
  !s.mg.fetched.isEmpty || s.recOut 0 || s.tp.txns.any (fun t => decide (t.qid = 0)) || s.engPend
/-- PEND of DX_MQ_HEAD follows (R93). -/
def State.pendRefresh (s : State) : State :=
  s.setFld .mqHead mqHead_PEND (decide (s.fld .mqCfg mqCfg_EN = 0) && s.mgmtPend).toNat

/-- May the controller fetch (R34, R35, R478, R548)? -/
def State.mayFetch (s : State) : Bool :=
  decide (s.fld .mqCfg mqCfg_EN = 1) && !s.mg.stopped && decide (s.mg.interp = .running)
    && decide (s.fld .mqHead mqHead_FETCH ≠ s.fld .mqTail mqTail_TAIL % 2 ^ s.fld .mqCfg mqCfg_CLOG2)
/-- The controller reads the next entry of the command ring, where there is one and no such read is outstanding (R34). -/
def State.fetchNext (s : State) : State :=
  if s.mg.fetch.isSome || !s.mayFetch then s
  else
    let f := s.fresh
    { f.2 with mg := { f.2.mg with fetch := some (f.1, s.now) } }

/-- What waits for a gallery's step goes on, in every gallery (R193, R198); also where a step is passed over first. -/
def State.galsOn (s : State) : State := s.gals.foldl (fun s x => (s.galResume x.g).galResume x.g) s
/-- Tiles that have come free make up what the reserves lack (R322). -/
def State.sumpsOn (s : State) : State := (List.range 6).foldl State.shortRefresh s

/-- What is due in the queues and engines once nothing waits to be settled. -/
def State.housekeep (s : State) : State :=
  let s1 := s.mgmtHead.refuseHeads.fenceAll.galsOn.releaseHeld.fetchNext.sumpsOn
  let s2 := s1.scanNext.attNext.scrubNext
  ((s2.tearNext s2.mg.engTear.length).assignAll).pendRefresh

/-- Settle, with fuel. -/
def State.settleN : Nat → State → State
  | 0, s => s
  | f + 1, s =>
    if s.unsettled then State.settleN f s.settleOne
    else
      let s1 := s.housekeep
      if s1.unsettled then State.settleN f s1 else s1

/-- Settle everything that a step has brought about. Each command, move and event needs a few turns. -/
def State.settle (s : State) : State :=
  s.settleN (16 + 4 * (s.evq.length + s.mv.jobs.length + s.tp.txns.length + s.mg.fetched.length))

/-- `t` at the moment of `s` and with its queue, its power and its window-enable line: a command runs at one moment, and
these are not its to change. -/
def State.atOnce (s t : State) : State := { t with pending := s.pending, now := s.now, powered := s.powered, winEn := s.winEn }
/-- `t`, settled. -/
def State.after (s t : State) : State := s.atOnce t.settle

/-- What an event leaves: `t`, settled, where the block is powered and not in block reset; otherwise nothing happens (log
entry 9). -/
def State.onLive (s t : State) : State := if s.powered && !s.blkRun then s.after t else s

/-- The same for an event that block reset does not keep out. -/
def State.onPower (s t : State) : State := if s.powered then s.after t else s

end Sys2Proof.Machine
end

