-- ==== Sys2Proof/Machine/Congestion.lean ====
section
/-! DEFINITION. The rows of congestion control: the rate increase, the shaper, the injection gate (spec/11_congestion.md
R384 to R388, R393). -/

namespace Sys2Proof.Machine

/-- The increase of R384: due TI after the entry's last change, R first clamped to the bounds in force (R388). An entry
at RMAX is freed. -/
def State.rateUp (s : State) (slice dst : Nat) : State :=
  match s.rateOf slice dst with
  | none => s
  | some e =>
    let ft := s.fnow
    if !s.native ∨ ft < e.chg + s.ccTI then s
    else
      let r := min s.ccRMAX (s.clampR e.r + s.ccAI)
      let s1 := s.noteRise e
      if r = s.ccRMAX then s1.setRates (dropFirst (fun x => decide (x.slice = slice ∧ x.dst = dst)) s.tp.rate)
      else s1.updRate slice dst (fun x => { x with r, chg := ft, bucket := x.level ft, fillAt := ft })
/-- RATE_INCREASE. -/
def execRateIncrease (slice dst : Nat) (s : State) : Host.Outcome State Fault Refusal :=
  ifWf (Instr.wf (.rateIncrease slice dst)) (s.onLive (s.rateUp slice dst))

/-- The oldest packet held for a rate entry goes on once the bucket holds its length on the link; the length is taken from
the bucket (R386). -/
def State.shaperOut (s : State) (slice dst : Nat) : State :=
  let mine (x : Inj) : Bool := x.shaped && decide (x.pkt.h.slice.toNat = slice ∧ x.pkt.h.dst.toNat = dst)
  match s.rateOf slice dst, s.sw.inj.find? mine with
  | some e, some x =>
    let ft := s.fnow
    let need := 1024 * x.pkt.size
    if e.level ft < need then s
    else
      let s1 := s.updRate slice dst (fun y => { y with bucket := y.level ft - need, fillAt := ft })
      { s1 with sw := { s1.sw with inj := updFirst mine (fun y => { y with shaped := false }) s1.sw.inj } }
  | _, _ => s
/-- SHAPER_RELEASE. -/
def execShaperRelease (slice dst : Nat) (s : State) : Host.Outcome State Fault Refusal :=
  ifWf (Instr.wf (.shaperRelease slice dst)) (s.onLive (s.shaperOut slice dst))

/-- GATE_RELEASE: the gate of TOR of partition `n` opens below TLO (R393). -/
def execGateRelease (n : Nat) (s : State) : Host.Outcome State Fault Refusal :=
  ifWf (Instr.wf (.gateRelease n)) (s.onLive (if (s.part n).gate then s.gateRefresh n else s))

end Sys2Proof.Machine
end

