-- ==== Sys2Proof/Machine/Writes.lean ====
section
/-! DEFINITION. Register reads and writes as REG_READ, REG_WRITE and the debug window make them: which writes a register's
own rules refuse, and what each write does (spec/18_register_map.md R561 to R570 and the rules the register maps cite). -/

namespace Sys2Proof.Machine

/-- May a packet count as still needing routing under another epoch (R364)? -/
def State.oldPkt (s : State) (p : Pkt) : Bool :=
  decide (p.h.ep.toNat ≠ s.active) && !p.flag fMC && !decide (p.opc ∈ [opTIMESYNC, opEPOCHCTL])
/-- DX_EPOCH_CNT.OLD (R364). A packet from an edge port has ACTIVE as its epoch (R258). -/
def State.oldCount (s : State) : Nat :=
  (s.sw.rx.filter (fun x => decide (12 ≤ x.port) && s.oldPkt x.pkt)).length
    + (s.sw.copies.filter (fun x => decide (x.out = 0) && s.oldPkt x.pkt)).length
    + (s.sw.replay.filter (fun r => decide (12 ≤ r.port) && s.oldPkt r.pkt)).length

/-- The partition whose range of the map holds a register (R571), if any. -/
def Reg.range (r : Reg) : Option Nat :=
  let k := r.addr / 0x100000
  if 1 ≤ k ∧ k ≤ 6 then some (k - 1) else none

/-- Is a partition in or near dormancy (R555)? -/
def State.asleep (s : State) (n : Nat) : Bool := decide (2 ≤ s.pwState n)

/-! ### Reads (R562) -/

/-- DX_STAT as it reads (R568). -/
def State.statWord (s : State) : Word :=
  let flt := (List.range 7).foldl (fun a u => if s.fld (.fltStat u) fltStat_STATE ≠ 0 then a + 2 ^ u else a) 0
  let rdy := (List.range 6).foldl (fun a n => if s.runs n then a + 2 ^ n else a) 0
  let r := fset (fset (s.reg .stat) stat_FLT flt) stat_HUNG (decide (s.fld .hb hb_MISS = 3)).toNat
  fset (fset (fset r stat_WINEN s.winEn.toNat) stat_TREFLOSS s.ft.lost.toNat) stat_PARTREADY rdy

/-- The word a register shows: fields that follow the machine's state are taken from it. -/
def State.shown (s : State) (r : Reg) : Word :=
  match r with
  | .stat => s.statWord
  | .epochCnt => fset (s.reg r) epochCnt_OLD (min s.oldCount (2 ^ 32 - 1))
  | .strict => fset (s.reg r) strict_PEND s.strictPend.toNat
  | .telQ n o => fset (s.reg r) telQ_DEPTH (s.depthShown n o)
  | .paceStat n => fset (s.reg r) paceStat_DTRIPS (sumBy (fun x => 2 ^ (x.1 % 4)) (s.part n).trips)
  | .portStat n k =>
    let c := portCode n k
    if s.up c then s.reg r
    else
      let m := ((s.heldMask c).getD 0).toNat
      fset (fset (s.reg r) portStat_ACTIVE m) portStat_WIDTH (popcount m 16)
  | .sumpStat n => fset (fset (s.reg r) sumpStat_USED (s.usedShown n)) sumpStat_SIZE (s.sumpSize n)
  | _ => s.reg r

/-- Read a register (R562): in a partition in or near dormancy, the retained fields (R555); RC fields read are cleared. -/
def State.readReg (s : State) (r : Reg) : Word × State :=
  let v := match r.range with
    | some n => if s.asleep n then (match r with | .pstate _ => s.reg r | _ => r.after .dormant (s.reg r)) else s.shown r
    | none => s.shown r
  let m := r.accMask .rc
  let s1 := match r with
    | .crcVal k => { s with crcRun := s.crcRun.filter (fun x => x.1 ≠ k) }
    | _ => s
  (v, if m = 0 then s else s1.setReg r (s.reg r &&& ~~~m))

/-! ### Writes that a register's rules refuse -/

/-- Is a value outside a range? -/
def offRange (lo hi x : Nat) : Bool := decide (x < lo ∨ hi < x)

/-- DX_NODE (R343). -/
def State.nodeRefused (s : State) (v : Word) : Bool :=
  let j := fget v node_NODE
  decide (64 * 64 ≤ s.fld .ctl ctl_PORTEN) || decide (s.fld .routeCtl routeCtl_EN = 1)
    || decide (fget v node_NXM1 = 0 ∨ fget v node_NYM1 = 0 ∨ fget v node_NZM1 = 0)
    || decide (fget v node_NXM1 < nfld j 8 4 ∨ fget v node_NYM1 < nfld j 4 4 ∨ fget v node_NZM1 < nfld j 0 4)

/-- Is a size field of DX_NODE 0? -/
def State.noSize (s : State) : Bool :=
  decide (s.fld .node node_NXM1 = 0 ∨ s.fld .node node_NYM1 = 0 ∨ s.fld .node node_NZM1 = 0)

/-- DX_ROUTE_CTL (R363). A LOADED that already is 1 is not set by a write of 1. -/
def State.routeRefused (s : State) (v : Word) : Bool :=
  let r := s.reg .routeCtl
  let ph := fget r routeCtl_PHASE
  (decide (fget r routeCtl_EN = 1) && decide (fget v routeCtl_ACTIVE ≠ fget r routeCtl_ACTIVE))
    || (decide (fget v routeCtl_LOADED = 1) && decide (fget r routeCtl_LOADED = 0) && decide (ph ≠ 0))
    || (decide (fget v routeCtl_LOADED = 0) && decide (ph = 2))
    || (decide (fget v routeCtl_EN = 1) && decide (fget r routeCtl_EN = 0) && s.noSize)

/-- Codes of R460 whose N and W are fixed, and those it does not list. -/
def thrFixed (k : Nat) : Bool := decide (k ∈ [0x0C, 0x2B, 0x38, 0x39]) || decide ((thrReset k).2 = 0)

/-- DX_CRC_CH (R422). -/
def State.crcRefused (s : State) (c : Nat) (v : Word) : Bool :=
  let md := fget v crcCh_MODE
  let ty := fget v crcCh_STYPE
  let i := fget v crcCh_SIDX
  decide (2 ≤ md ∨ 5 ≤ ty)
    || (if ty = 2 ∨ ty = 3 then offRange 12 17 i else decide (12 ≤ i))
    || (decide (md = 1) && (decide (fget v crcCh_QID = 0) || (List.range 24).any (fun k => decide (k ≠ c
      ∧ s.fld (.crcCh k) crcCh_EN = 1 ∧ s.fld (.crcCh k) crcCh_MODE = 1 ∧ s.fld (.crcCh k) crcCh_QID = fget v crcCh_QID))))

/-- The port of index `k` in Pn is enabled. -/
def State.portEn (s : State) (n k : Nat) : Bool := nbit (s.fld .ctl ctl_PORTEN) (portCode n k)

/-- DX_PORT_CFG (R306 and the field map's rule for REACH). -/
def State.portCfgRefused (s : State) (n k : Nat) (v : Word) : Bool :=
  let c := portCode n k
  let f := fget v portCfg_FENCE
  let off := f ||| s.fld (.portStat n k) portStat_HWFENCE
  (decide (c < 12) && decide (256 ≤ f))
    || (decide (f ≠ s.fld (.portCfg n k) portCfg_FENCE) && decide (portLanes c - popcount off (portLanes c) < portMin c))
    || (s.portEn n k && decide (fget v portCfg_REACH ≠ s.fld (.portCfg n k) portCfg_REACH))

/-- DX_RSV (R320). -/
def State.rsvRefused (s : State) (n o : Nat) (v : Word) : Bool :=
  (queuesOf o).any (fun q => decide (rsvIn v o q < 33))
    || decide (49152 < s.reserves n - rsvSum (s.reg (.rsv n o)) o + rsvSum v o)

/-- DX_PACE_CFG (R444). -/
def paceRefused (v : Word) : Bool :=
  offRange 600 700 (fget v paceCfg_DTRIP) || decide (fget v paceCfg_DSTEP = 0 ∨ fget v paceCfg_DHOLD = 0)
    || offRange 90 110 (fget v paceCfg_TWARN) || offRange (fget v paceCfg_TWARN + 5) 125 (fget v paceCfg_TCRIT)
    || offRange 150 260 (fget v paceCfg_PSUS) || offRange (fget v paceCfg_PSUS) 330 (fget v paceCfg_PSUR)

/-- Is a parent code one that R454 admits? -/
def parentOk (p : Nat) : Bool := decide (12 ≤ p ∧ p ≤ 17) || decide (p = 31)

/-- DX_FT_CFG (R454). -/
def State.ftCfgRefused (s : State) (v : Word) : Bool :=
  let r := s.reg .ftCfg
  !parentOk (fget v ftCfg_PARENT) || !parentOk (fget v ftCfg_ALT)
    || (decide (fget r ftCfg_EN = 1) && decide (fget v ftCfg_PARENT ≠ fget r ftCfg_PARENT ∨ fget v ftCfg_ALT ≠ fget r ftCfg_ALT))

/-- Is the node a time master (R446)? -/
def State.master (s : State) : Bool := decide (s.fld .ftCfg ftCfg_PARENT = 31)

/-- DX_CC_CFG (R388). -/
def ccRefused (v : Word) : Bool :=
  decide (fget v ccCfg_MODE = 3) || offRange 1 4 (fget v ccCfg_MDS)
    || decide (fget v ccCfg_TD = 0 ∨ fget v ccCfg_TI = 0 ∨ fget v ccCfg_AI = 0 ∨ fget v ccCfg_RMIN = 0)
    || offRange 1 400 (fget v ccCfg_RMAX) || decide (fget v ccCfg_RMAX < fget v ccCfg_RMIN)

/-- DX_POLICE (R334). -/
def policeRefused (v : Word) : Bool :=
  decide (fget v police_EN = 1) && (decide (fget v police_CIR = 0 ∨ fget v police_PIR < fget v police_CIR
    ∨ 400 < fget v police_PIR ∨ fget v police_CBS < 9 ∨ fget v police_PBS < 9))

/-- A thermal reading in units of 0.25 °C; a stale sensor reads 110 °C (R47). -/
def State.temp (s : State) (m : Nat) : Int :=
  if s.fld (.therm m) therm_STALE = 1 then 440 else sext 16 (s.fld (.therm m) therm_TEMP)
/-- Does a sensor that is not stale read TCRIT or more? -/
def State.critical (s : State) (m : Nat) : Bool :=
  decide (s.fld (.therm m) therm_STALE = 0) && decide ((4 * s.fld .paceCfg paceCfg_TCRIT : Int) ≤ s.temp m)

/-- RETURN (R504). -/
def State.returnRefused (s : State) (n : Nat) (v : Word) : Bool :=
  decide (fget v rcvCtl_RETURN = 1) && (decide (s.pstate n ≠ ptOOS) || s.critical (2 * n) || s.critical (2 * n + 1))

/-- Why a write of REQ = DORMANT is refused (R552): the code of REFUSE. A partition in or near dormancy already takes no
further effect (R557). -/
def State.dormantRefused (s : State) (n : Nat) : Option Nat :=
  if s.asleep n then none
  else if s.pstate n ≠ ptRUN then some 3
  else if (s.validGals 4096).any (fun d => d.spread || decide (d.part = n)) then some 1
  else if s.allCtx.any (fun c => decide (fget c.w0 qSTATE ≠ qsFREE ∧ portPart (fget c.w0 qPORT) = n)) then some 2
  else none

/-- Is a write of `v` to a register refused, with reason code 0x03? -/
def State.regRefused (s : State) (r : Reg) (v : Word) : Bool :=
  (match r, r.range with
    | .pstate _, _ => false
    | _, some n => s.asleep n
    | _, none => false)
  || match r with
    | .xportCfg => offRange 1 10000 (fget v xportCfg_TTO) || offRange 1 1000 (fget v xportCfg_RTI)
        || decide (fget v xportCfg_TTO < fget v xportCfg_RTI)
    | .node => s.nodeRefused v
    | .routeCtl => s.routeRefused v
    | .ccCfg => ccRefused v
    | .police _ => policeRefused v
    | .fltThr k =>
      (thrFixed k && decide (fget v fltThr_N ≠ (thrReset k).1 ∨ fget v fltThr_W ≠ (thrReset k).2))
        || decide (fget v fltThr_N ≠ 0 ∧ fget v fltThr_W = 0)
    | .fltCtl => offRange 100 1000000 (fget v fltCtl_ATO) || offRange 10 60000 (fget v fltCtl_QUIET)
    | .hangCfg => offRange 1 1000 (fget v hangCfg_PTO)
        || decide (fget v hangCfg_PROBN = 0 ∨ fget v hangCfg_ESCN = 0 ∨ fget v hangCfg_ESCW = 0)
    | .interpCtl => true
    | .galDesc _ _ => true
    | .paceCfg => paceRefused v
    | .wear n => decide (s.fld (.wear n) wear_LOCK = 1 ∧ fget v wear_EQS ≠ s.fld (.wear n) wear_EQS)
    | .ftCfg => s.ftCfgRefused v
    | .ftNow => !s.master || decide (v.toNat < s.fnow)
    | .crcCh c => s.crcRefused c v
    | .portCfg n k => s.portCfgRefused n k v
    | .rsv n o => s.rsvRefused n o v
    | .sample n => decide (fget v sample_PAYLOAD = 1) && !nbit (s.fld .secStat secStat_GRANT) n
    | .red _ _ => decide (fget v red_MAX < fget v red_MIN)
    | .mark _ => decide (fget v mark_KBLK = 0 ∨ fget v mark_KREQ = 0)
    | .throt _ => decide (fget v throt_THI ≤ fget v throt_TLO ∨ fget v throt_THI = 0)
    | .rcvCtl n => s.returnRefused n v
    | .pstate n => decide (fget v pstate_REQ = 3) || (decide (fget v pstate_REQ = 2) && (s.dormantRefused n).isSome)
    | .ctl => decide (4096 ≤ fget v ctl_PORTEN) && s.noSize
        && decide ((fget v ctl_PORTEN) / 4096 % 64 &&& ((s.fld .ctl ctl_PORTEN) / 4096 ^^^ 63) ≠ 0)
    | .rtab e w => (s.rtabRefused e w v).isSome
    | .seq n e _ => s.seqBusy n e
    | .syncOwn _ => decide (fget v syncOwn_V = 1) && !s.sliceActive (fget v syncOwn_SLICE)
    | _ => false

/-! ### What a write does -/

/-- A write by access codes alone. -/
def State.regStore (s : State) (r : Reg) (v : Word) : State := s.setReg r (r.written (s.reg r) v)

/-- DX_SDB_CMD (R23, R25, R26): a write of 1 to GO starts an access, unless one is in progress or the lane does not
exist. -/
def State.sdbWrite (s : State) (v : Word) : State :=
  if fget v sdbCmd_GO = 1 ∧ s.fld .sdbCmd sdbCmd_GO = 1 then s
  else
    let s1 := s.regStore .sdbCmd v
    if fget v sdbCmd_GO = 0 then s1
    else
      let l := fget v sdbCmd_LANE
      if 191 < l then (s1.setFld .sdbCmd sdbCmd_GO 0).setFld .sdbCmd sdbCmd_ERR 1
      else
        let wr := decide (fget v sdbCmd_WR = 1)
        State.emit { s1 with sdb := { s1.sdb with acc := some (l, wr), goAt := s1.now } }
          (.sdb l (fget v sdbCmd_ADDR) wr (s1.fld .sdbData sdbData_DATA))

/-- DX_MQ_CFG (R93, R95). -/
def State.mqCfgWrite (s : State) (v : Word) : State :=
  let r := s.reg .mqCfg
  let en := fget v mqCfg_EN
  let pend := decide (s.fld .mqHead mqHead_PEND = 1)
  if fget r mqCfg_EN = 1 then s.setFld .mqCfg mqCfg_EN en
  else
    let s1 := if pend then s else (s.setFld .mqCfg mqCfg_CLOG2 (fget v mqCfg_CLOG2)).setFld .mqCfg mqCfg_RLOG2 (fget v mqCfg_RLOG2)
    if en = 0 then s1
    else if pend ∨ offRange 4 12 (s1.fld .mqCfg mqCfg_CLOG2) ∨ offRange 4 12 (s1.fld .mqCfg mqCfg_RLOG2) then
      s1.setFld .stat stat_MGMTPORTERR 1
    else
      let s2 := (s1.setFld .mqCfg mqCfg_EN 1).setFld .mqHead mqHead_FETCH 0
      (s2.setFld .mqHead mqHead_WIDX 0).setFld .mqHead mqHead_PH 1

/-- The ring bases of the management queue pair (R93). -/
def State.mqBaseWrite (s : State) (r : Reg) (v : Word) : State :=
  if s.fld .mqCfg mqCfg_EN = 1 ∨ s.fld .mqHead mqHead_PEND = 1 then s else s.regStore r v

/-- The doorbell DX_MQ_TAIL (R34, R35). -/
def State.doorbell (s : State) (tail : Nat) : State :=
  let s1 := s.setFld .mqTail mqTail_TAIL tail
  { s1 with mg := { s1.mg with stopped := false } }

/-- DX_ROUTE_CTL (R363): LOADED = 0 while PREPARED gives the swap up. -/
def State.routeCtlWrite (s : State) (v : Word) : State :=
  let s1 := s.regStore .routeCtl v
  if s.fld .routeCtl routeCtl_PHASE = 1 ∧ fget v routeCtl_LOADED = 0 then
    (s1.setFld .routeCtl routeCtl_PHASE 0).setFld .routeCtl routeCtl_COORD 0
  else s1

/-- DX_CC_CFG (R394): a change of MODE frees every rate entry and opens every gate. -/
def State.ccCfgWrite (s : State) (v : Word) : State :=
  let s1 := s.regStore .ccCfg v
  if fget v ccCfg_MODE = s.fld .ccCfg ccCfg_MODE then s1
  else (List.range 6).foldl (fun s n => s.setPart n (fun p => { p with gate := false })) (s1.setRates [])

/-- Does any partition sample? -/
def State.sampling (s : State) : Bool := (List.range 6).any (fun n => decide (s.fld (.sample n) sample_EN = 1))

/-- DX_SMP_RING (R342). -/
def State.smpRingWrite (s : State) (v : Word) : State :=
  if s.sampling then s
  else ((s.regStore .smpRing v).setFld .smpIdx smpIdx_WIDX 0).setFld .smpIdx smpIdx_RIDX 0

/-- DX_SAMPLE (R340): setting EN chooses a random phase for each output; it is free. -/
def State.sampleWrite (s : State) (n : Nat) (v : Word) : State :=
  let s1 := s.regStore (.sample n) v
  if fget v sample_EN = 0 ∨ s.fld (.sample n) sample_EN = 1 then s1
  else
    let s2 : State := { s1 with sw := { s1.sw with samp := s1.sw.samp.filter (fun x => x.1 ≠ n) } }
    (List.range 5).foldl (fun s o =>
      let d := s.draw
      let t := d.2
      { t with sw := { t.sw with samp := t.sw.samp ++ [(n, o, 1 + d.1 % max 1 (fget v sample_N))] } }) s2

/-- DX_POLICE (R334): both buckets of every policer of the slice are full. -/
def State.policeWrite (s : State) (sl : Nat) (v : Word) : State :=
  let s1 := s.regStore (.police sl) v
  { s1 with sw := { s1.sw with bkts := s1.sw.bkts.filter (fun b => b.slice ≠ sl) } }

/-- DX_CRC_CH (R422). -/
def State.crcChWrite (s : State) (c : Nat) (v : Word) : State :=
  let s1 := (s.regStore (.crcCh c) v).setReg (.crcVal c) 0
  { s1 with crcRun := s1.crcRun.filter (fun x => x.1 ≠ c) }

/-- DX_PORT_CFG (R306, R459). -/
def State.portCfgWrite (s : State) (n k : Nat) (v : Word) : State :=
  let c := portCode n k
  let s1 := s.regStore (.portCfg n k) v
  let off := s1.fencedLanes c
  if fget v portCfg_FENCE = s.fld (.portCfg n k) portCfg_FENCE then s1
  else
    let new := off &&& ~~~(s.fencedLanes c)
    let s2 := (bitsOf new.toNat 16).foldl (fun s j => s.clearEntries n ⟨syLANE, portLane0 c + j⟩) s1
    (s2.lanesFenced c new).lanesChanged c (s.fencedLanes c &&& ~~~off)

/-- HWFENCE of DX_PORT_STAT, write 1 to clear (R306, R459). -/
def State.hwfenceWrite (s : State) (n k : Nat) (v : Word) : State :=
  let c := portCode n k
  let hit := s.fld (.portStat n k) portStat_HWFENCE &&& fget v portStat_HWFENCE
  if hit = 0 then s
  else
    let s1 := s.regStore (.portStat n k) v
    let s2 := (bitsOf hit 16).foldl (fun s j => s.clearEntries n ⟨syLANE, portLane0 c + j⟩) s1
    s2.lanesChanged c (s.fencedLanes c &&& ~~~(s2.fencedLanes c))

/-- DX_FLT_FENCE, write 1 to clear (R473, R459). -/
def State.fltFenceWrite (s : State) (n : Nat) (v : Word) : State :=
  let r := s.reg (.fltFence n)
  let s1 := s.regStore (.fltFence n) v
  let hit (p : Pos) : List Nat := bitsOf (fget r p &&& fget v p) 8
  let s2 := (hit fltFence_PORTS).foldl (fun s k => s.clearEntries n ⟨syPORT, portCode n k⟩) s1
  let s3 := (hit fltFence_BANKS).foldl (fun s b => s.clearEntries n ⟨syBANK, b⟩) s2
  let s4 := (hit fltFence_CPE).foldl (fun s m => s.clearEntries n ⟨syCPE, m⟩) s3
  let s5 := (hit fltFence_CORES).foldl (fun s j => s.clearEntries n ⟨syCORE, j⟩) s4
  s5.trainPorts ((hit fltFence_PORTS).map (portCode n))

/-- DX_RST_CTL (R490, R503): a reset of Pn with a dump. Out of service it has no effect; one that finds a reset running
joins it. -/
def State.resetRequest (s : State) (n : Nat) : State :=
  if s.pstate n = ptOOS ∨ (s.part n).rst then s else (s.leaveDormant n).resetDump n 0xFF 0

/-- RETURN (R504): steps 3 to 5 run, RWIN is 0. -/
def State.returnPart (s : State) (n : Nat) : State :=
  let s1 := s.setPart n (fun p => { p with
    rst := true, gened := false, cleared := false, thermOos := false, wasOos := false, resetAt := [] })
  ((s1.rwin n).setFld (.rcvCtl n) rcvCtl_RETURN 1).setFld (.rcvStat n) rcvStat_PSTATE ptCLEARING

/-- DX_QUAR, write 1 to clear (R500). -/
def State.quarWrite (s : State) (n i : Nat) (v : Word) : State :=
  if fget v quar_V = 1 ∧ s.fld (.quar n i) quar_V = 1 then
    (s.setReg (.quar n i) 0).setFld (.rcvStat n) rcvStat_QUAR (s.fld (.rcvStat n) rcvStat_QUAR - 1)
  else s

/-- WARN and EOL follow EQS (R442). -/
def State.wearFlags (s : State) (n : Nat) : State :=
  let q := s.fld (.wear n) wear_EQS
  let mark (p : Pos) (lim : Nat) (s : State) : State :=
    if lim ≤ q ∧ s.fld (.wear n) p = 0 then (s.setFld (.wear n) p 1).event n 0x2D ⟨syPART, n⟩ else s
  mark wear_EOL 220752000 (mark wear_WARN 198676800 s)

/-- DX_CTL (R304, R567). -/
def State.ctlWrite (s : State) (v : Word) : State :=
  let old := s.fld .ctl ctl_PORTEN
  let s1 := s.regStore .ctl v
  let off := (List.range 18).filter (fun c => nbit old c && !nbit (fget v ctl_PORTEN) c)
  (off.foldl (fun s c => s.portOff c) s1).trainPorts (List.range 18)

/-- REQ of DX_PSTATE (R551, R556): RUN and STILL at once, at the end of entry, or by waking; an accepted DORMANT starts
entry (R554). -/
def State.pstateWrite (s : State) (n : Nat) (v : Word) : State :=
  let req := fget v pstate_REQ
  let st := s.pwState n
  if req = 2 then
    if 2 ≤ st then s
    else ((s.setFld (.pstate n) pstate_REQ 2).setFld (.pstate n) pstate_STATE 2).setPart n (fun p => { p with enterAt := s.now })
  else
    let s1 := s.setFld (.pstate n) pstate_REQ req
    if st ≤ 1 then s1.setFld (.pstate n) pstate_STATE req
    else if st = 3 then
      (s1.setFld (.pstate n) pstate_STATE 4).setPart n (fun p => { p with enterAt := s.now })
    else s1

/-- The stratum of a time master: 0, or 0xFF until its counter has been set after a block reset (R451, R578). -/
def State.masterStratum (s : State) : Nat := if s.ft.setNow then 0 else 0xFF

/-- DX_FT_CFG (R451). -/
def State.ftCfgWrite (s : State) (v : Word) : State :=
  let was := s.fld .ftCfg ftCfg_EN
  let s1 := s.regStore .ftCfg v
  if s1.master then (s1.setFld .ftStat ftStat_STATE 0).setFld .ftStat ftStat_STRATUM s1.masterStratum
  else if fget v ftCfg_EN = 0 then (s1.setFld .ftStat ftStat_STATE 0).setFld .ftStat ftStat_STRATUM 0xFF
  else if was = 0 then
    let s2 := (s1.setFld .ftStat ftStat_STATE 1).setFld .ftStat ftStat_STRATUM 0xFF
    { s2 with ft := { s2.ft with good := 0, usedAt := s2.now, heldAt := s2.now, sendAt := s2.now, req := none } }
  else s1

/-- DX_FT_NOW at a master (R453, R578). -/
def State.ftNowWrite (s : State) (v : Word) : State :=
  let s1 := s.setReg .ftNow v
  let s2 : State := { s1 with ft := { s1.ft with setNow := true } }
  s2.setFld .ftStat ftStat_STRATUM 0

/-- Carry out a write that is not refused and that no mirror hold keeps back. -/
def State.regWrite (s : State) (r : Reg) (v : Word) : State :=
  match r with
  | .sdbCmd => s.sdbWrite v
  | .smpRing => s.smpRingWrite v
  | .routeCtl => s.routeCtlWrite v
  | .strict => ((s.regStore r v).mirror r).quotaCheck (List.range 6)
  | .squota _ => ((s.regStore r v).mirror r).quotaCheck (List.range 6)
  | .ccCfg => s.ccCfgWrite v
  | .ccFilt => (s.regStore r v).clearCc
  | .telFilt n => (s.regStore r v).clearTel n
  | .throt n => (s.regStore r v).gateRefresh n
  | .police sl => s.policeWrite sl v
  | .mqCfg => s.mqCfgWrite v
  | .mqCbase => s.mqBaseWrite r v
  | .mqRbase => s.mqBaseWrite r v
  | .mqTail => s.doorbell (fget v mqTail_TAIL)
  | .fltFence n => s.fltFenceWrite n v
  | .rstCtl => (bitsOf (fget v rstCtl_REQ) 6).foldl (fun s n => s.resetRequest n) s
  | .rcvCtl n => if fget v rcvCtl_RETURN = 1 then s.returnPart n else s
  | .portCfg n k => s.portCfgWrite n k v
  | .portStat n k => s.hwfenceWrite n k v
  | .rsv n o => ((s.regStore r v).reserveWritten n o (s.reg r)).quotaCheck [n]
  | .sample n => s.sampleWrite n v
  | .quar n i => s.quarWrite n i v
  | .crcCh c => s.crcChWrite c v
  | .wear n => (s.regStore r v).wearFlags n
  | .ctl => s.ctlWrite v
  | .pstate n => s.pstateWrite n v
  | .ftCfg => s.ftCfgWrite v
  | .ftNow => s.ftNowWrite v
  | .rtab e w => s.rtabWrite e w v
  | .syncVal i => s.syncOwn i (fun _ => v.toNat)
  | .syncOwn _ => (s.regStore r v).mirror r
  | _ => s.regStore r v

/-- What a refused write leaves: DX_PSTATE records why (R552). -/
def State.refusedWrite (s : State) (r : Reg) (v : Word) : State :=
  match r with
  | .pstate n => if fget v pstate_REQ = 2 then s.setFld (.pstate n) pstate_REFUSE ((s.dormantRefused n).getD 0) else s
  | _ => s

end Sys2Proof.Machine
end

