-- ==== Sys2Proof/Machine/Mgmt.lean ====
section
/-! DEFINITION. The management queue pair and the management commands (spec/17_management.md R540 to R549,
spec/02_command_queues.md R93 to R95, spec/01_boundary.md R34 and R35, spec/16_security.md R512 to R515). A row of a
management command takes the command fetched first, where it is that row's command and the interpreter may start it. -/

namespace Sys2Proof.Machine

/-! ### Starting the command fetched first (R544) -/

/-- The command fetched first, where the interpreter may start it. -/
def State.mgmtFirst (s : State) : Option Cmd :=
  if s.mg.interp = .running ∧ !s.mgmtBlocked then s.mg.fetched.head? else none

/-- The state with the command fetched first taken. -/
def State.mgmtTaken (s : State) : State :=
  { s with mg := { s.mg with fetched := s.mg.fetched.drop 1, tabWait := false } }

/-- Run the command fetched first where it meets `p`: a non-zero reserved field is refused (R540), else `f`. -/
def State.mgmtRow (s : State) (p : Cmd → Bool) (f : Cmd → State → State) : State :=
  match s.mgmtFirst with
  | none => s
  | some c =>
    if !p c then s
    else match c.reservedFail with
      | some x => s.mgmtTaken.mgmtBad c x
      | none => f c s.mgmtTaken

/-- The same for a command that waits whole where `w` holds (R413, R515): it stays first, and goes on when the wait ends. -/
def State.mgmtRowWait (s : State) (p w : Cmd → Bool) (f : Cmd → State → State) : State :=
  match s.mgmtFirst with
  | none => s
  | some c =>
    if !p c then s
    else if w c then
      { s with mg := { s.mg with
        tabWait := true, tabAt := if s.mg.tabWait then s.mg.tabAt else s.sec.mirror.waiting.length } }
    else s.mgmtRow p f

/-- Refuse with reason 0x03 at a byte, or go on. -/
def State.mgmtRange (s : State) (c : Cmd) (l : List (Bool × Nat)) (t : State) : State :=
  match firstBad l with
  | some x => s.mgmtBad c x
  | none => t

/-! ### Registers -/

/-- The register a REG_READ or REG_WRITE names (R13, R543). -/
def cmdReg (c : Cmd) : Option Reg := if c.fld 2 0 32 % 8 = 0 then Reg.ofAddr (c.fld 2 0 32) else none

/-- REG_READ. -/
def State.runRegRead (c : Cmd) (s : State) : State :=
  match cmdReg c with
  | none => s.mgmtBad c (3, 16)
  | some r =>
    let v := s.readReg r
    v.2.mgmtRec c stDONE v.1.toNat

/-- Why a register refuses a write: reason 0x03 at the value; a table entry with a non-zero reserved field, reason 0x02 (R347). -/
def regReason (r : Reg) (v : Word) : Nat × Nat :=
  match r with
  | .rtab _ w => (rtabBad w v).getD (3, 24)
  | _ => (3, 24)
/-- REG_WRITE, with a reason where the map or a rule of the register refuses it. DESIGN CHOICE (log entry 118): of the two outcomes that R18
gives one in progress as a reset reaches its field, this one always completes before the reset. -/
def State.runRegWrite (c : Cmd) (s : State) : State :=
  match cmdReg c with
  | none => s.mgmtBad c (3, 16)
  | some r =>
    if s.regRefused r c.w3 then (s.refusedWrite r c.w3).mgmtBad c (regReason r c.w3)
    else (s.regWrite r c.w3).mgmtRec c stDONE 0

/-- Does a register's own row of the table carry a write of `v` to it? -/
def regHasRow (r : Reg) (v : Word) : Bool :=
  match r with
  | .sdbCmd => decide (fget v sdbCmd_GO = 1)
  | .pstate _ => decide (fget v pstate_REQ ≠ 3)
  | .mqCfg | .ctl | .node | .routeCtl | .strict | .rsv _ _ | .portCfg _ _ | .portStat _ _ | .fltFence _ | .dumpStat
  | .quar _ _ | .rstCtl | .rcvCtl _ | .ftNow | .ftCfg | .wear _ | .noise _ | .syncVal _ | .syncOwn _ | .ccCfg
  | .telFilt _ | .ccFilt | .crcCh _ | .smpRing | .sample _ | .police _ => true
  | _ => false

/-- Is a command a REG_WRITE that meets `p`? -/
def cmdWrites (p : Reg → Word → Bool) (c : Cmd) : Bool :=
  decide (c.opc = 0x81) && (match cmdReg c with | some r => p r c.w3 | none => false)

/-- Does a REG_WRITE wait for a mirror hold to end (R515)? -/
def State.writeWaits (s : State) (c : Cmd) : Bool := match cmdReg c with | some r => heldByMirror s r | none => false

/-- Run a REG_WRITE that meets `p`. -/
def State.regRow (s : State) (p : Reg → Word → Bool) : State := s.mgmtRowWait (cmdWrites p) s.writeWaits State.runRegWrite

/-- REG_READ. -/
def execRegRead (s : State) : Host.Outcome State Fault Refusal :=
  .next (s.onLive (s.mgmtRow (fun c => decide (c.opc = 0x80)) State.runRegRead))

/-- REG_WRITE to a register whose write has no row of its own. -/
def execRegWrite (s : State) : Host.Outcome State Fault Refusal :=
  .next (s.onLive (s.mgmtRowWait (fun c => decide (c.opc = 0x81) && (match cmdReg c with
    | some r => !regHasRow r c.w3
    | none => true)) s.writeWaits State.runRegWrite))

/-! ### TABLE_WRITE (R541) -/

/-- TID and INDEX. -/
def cmdTid (c : Cmd) : Nat := c.fld 2 0 4
def cmdIndex (c : Cmd) : Nat := c.fld 2 8 24

/-- A refusal, or the write and DONE. -/
def State.tableEnd (s : State) (c : Cmd) (bad : Option (Nat × Nat)) (t : State) : State :=
  match bad with
  | some x => s.mgmtBad c x
  | none => t.mgmtRec c stDONE 0

/-- TABLE_WRITE of a queue context (R63 to R67). -/
def State.runTableCtx (c : Cmd) (s : State) : State :=
  s.tableEnd c (s.ctxRefused (cmdIndex c) c.w3 c.w4) (s.ctxWrite (cmdIndex c) c.w3 c.w4)
/-- TABLE_WRITE of a region entry (R100, R399). -/
def State.runTableRegion (c : Cmd) (s : State) : State :=
  s.tableEnd c (firstBad [(decide (1048576 ≤ (cmdIndex c)), 17)] <|> s.regionRefused c.w3 c.w4) (s.regionWrite (cmdIndex c) c.w3 c.w4)
/-- TABLE_WRITE of a sequencer entry: both words at one moment (R207, R542). -/
def State.runTableSeq (c : Cmd) (s : State) : State :=
  let n := (cmdIndex c) / 16384
  let e := (cmdIndex c) % 16384
  s.tableEnd c (firstBad [(decide (6 ≤ n), 17), (s.seqBusy n e, 17)]) (s.seqWrite n e c.w3 c.w4)
/-- TABLE_WRITE of a routing table word (R347, R362). -/
def State.runTableRouting (c : Cmd) (s : State) : State :=
  let e := (cmdTid c) - 4
  s.tableEnd c (firstBad [(decide (0x18000 ≤ (cmdIndex c)) || !rtabWord (8 * (cmdIndex c)), 17)] <|> s.rtabRefused e (cmdIndex c) c.w3)
    (s.rtabWrite e (cmdIndex c) c.w3)

/-- Is a command a TABLE_WRITE with one of these TIDs? -/
def cmdTable (l : List Nat) (c : Cmd) : Bool := decide (c.opc = 0x82 ∧ (cmdTid c) ∈ l)
/-- A TABLE_WRITE of a queue context or region entry waits for SYSRDY (R413). -/
def State.sysWait (s : State) (_ : Cmd) : Bool := decide (s.fld .dsStat dsStat_SYSRDY = 0)
/-- That of a queue context also waits behind a push to the queue that has reached the queue manager (R68), and, where it sets
PIN, for a slot on die (R71). -/
def State.ctxWait (s : State) (c : Cmd) : Bool :=
  let q := cmdIndex c
  s.sysWait c || s.tp.pushW.any (fun w => w.slot && decide (w.qid = q))
    || (decide (fget c.w3 qPIN = 1) && (s.ctxDie q).isNone && !s.ctxRoom && (s.ctxRefused q c.w3 c.w4).isNone)
/-- A write of a mirrored table waits for the hold to end (R515). -/
def State.holdWait (s : State) (_ : Cmd) : Bool := s.sec.mirror.held.isSome

def execTableWriteQueueContext (s : State) : Host.Outcome State Fault Refusal :=
  .next (s.onLive (s.mgmtRowWait (cmdTable [1]) s.ctxWait State.runTableCtx))
def execTableWriteRegion (s : State) : Host.Outcome State Fault Refusal :=
  .next (s.onLive (s.mgmtRowWait (cmdTable [2]) s.sysWait State.runTableRegion))
def execTableWriteSequencer (s : State) : Host.Outcome State Fault Refusal :=
  .next (s.onLive (s.mgmtRow (cmdTable [3]) State.runTableSeq))
def execTableWriteRouting (s : State) : Host.Outcome State Fault Refusal :=
  .next (s.onLive (s.mgmtRowWait (cmdTable [4, 5]) s.holdWait State.runTableRouting))

/-! ### Galleries -/

/-- GALLERY_SETUP with V = 1 (R182, R185). -/
def State.runSetup (c : Cmd) (s : State) : State :=
  let g := c.fld 2 0 12
  s.tableEnd c (s.setupRefused g c.w3 c.w4 c.w5 c.w6) (s.galSetup g c.w3 c.w4 c.w5 c.w6)
/-- GALLERY_SETUP with V = 0 (R184). -/
def State.runRemove (c : Cmd) (s : State) : State :=
  let g := c.fld 2 0 12
  s.tableEnd c (gdefReserved c.w3 c.w4 c.w5 c.w6) (s.galRemove g c.w3 c.w4 c.w5 c.w6)
/-- V of the descriptor a GALLERY_SETUP carries. -/
def cmdGalV (c : Cmd) : Bool := (GDef.ofWords c.w3.toNat c.w4.toNat c.w5.toNat c.w6.toNat).v

def execGallerySetup (s : State) : Host.Outcome State Fault Refusal :=
  .next (s.onLive (s.mgmtRowWait (fun c => decide (c.opc = 0x84) && (cmdGalV c)) s.holdWait State.runSetup))
def execGalleryTeardown (s : State) : Host.Outcome State Fault Refusal :=
  .next (s.onLive (s.mgmtRowWait (fun c => decide (c.opc = 0x84) && !(cmdGalV c)) s.holdWait State.runRemove))

/-! ### Waits that end -/

/-- A command that has started and waited goes on (R413, R515). -/
def State.tabResume (s : State) : State :=
  if !s.mg.tabWait then s
  else
    let any (_ : Cmd) : Bool := true
    match s.mgmtFirst with
    | none => s
    | some c =>
      if c.opc = 0x81 then s.mgmtRowWait any s.writeWaits State.runRegWrite
      else if c.opc = 0x84 then s.mgmtRowWait any s.holdWait (if (cmdGalV c) then State.runSetup else State.runRemove)
      else if (cmdTid c) = 1 then s.mgmtRowWait any s.ctxWait State.runTableCtx
      else if (cmdTid c) = 2 then s.mgmtRowWait any s.sysWait State.runTableRegion
      else s.mgmtRowWait any s.holdWait State.runTableRouting

/-- The system areas are zeros with good check words, SYSRDY is set, waiting TABLE_WRITEs go on, and the mirror buffer is
written (R413). -/
def State.sysReady (s : State) : State :=
  let s1 : State := { s with st := s.st.clearTiles 0xC000 0x20000 }
  (s1.setFld .dsStat dsStat_SYSRDY 1).tabResume

/-- SYSTEM_AREA_INIT_DONE. -/
def execSystemAreaInitDone (s : State) : Host.Outcome State Fault Refusal :=
  .next (s.onLive (if s.fld .dsStat dsStat_SYSRDY = 0 then s.sysReady else s))

/-- A window write that waited takes effect under the checks of this moment. -/
def State.waitedWrite (s : State) (x : Nat × Word) : State :=
  match Reg.ofAddr x.1 with
  | none => s
  | some r => if s.regRefused r x.2 then s.blockEvent 0x32 ⟨syPART, 6⟩ else s.regWrite r x.2

/-- The mirror hold ends (R515): the window writes that waited and the command that waited take effect in order of arrival
(R37). -/
def State.mirrorRelease (s : State) : State :=
  let w := s.sec.mirror.waiting
  let k := if s.mg.tabWait then s.mg.tabAt else w.length
  let s1 := (s.setMirror (fun m => { m with held := none, scanned := false, waiting := [] })).setFld .secStat secStat_HOLD 0
  let s2 := ((w.take k).foldl State.waitedWrite s1).tabResume
  ((w.drop k).foldl State.waitedWrite s2).tearStep

/-- MIRROR_HOLD_SCAN: under a hold, once MSYNC reads 1, the mirror is scanned with POLY 2 (R424, R515). -/
def execMirrorHoldScan (s : State) : Host.Outcome State Fault Refusal :=
  let m := s.sec.mirror
  .next (s.onLive (if m.held.isSome ∧ !m.scanned ∧ s.fld .dsStat dsStat_MSYNC = 1 then
    (s.setMirror (fun m => { m with scanned := true })).scanAdd 0x0F000000 0x2A0208 2 none else s))

/-- MIRROR_HOLD_TIMEOUT: 10 ms after HOLD. -/
def execMirrorHoldTimeout (s : State) : Host.Outcome State Fault Refusal :=
  .next (s.onLive (match s.sec.mirror.held with
    | some t => if s.due t (ms 10) then s.mirrorRelease else s
    | none => s))

/-- MIRROR_UPDATE (R402). -/
def execMirrorUpdate (s : State) : Host.Outcome State Fault Refusal :=
  .next (s.onLive (if s.fld .dsStat dsStat_SYSRDY = 1 ∧ s.fld .dsStat dsStat_MSYNC = 0 then s.mirrorApply else s))

/-! ### Slices (R533) -/

/-- SLICE_CREATE. -/
def State.runSliceCreate (c : Cmd) (s : State) : State :=
  let sl := c.fld 2 0 6
  s.mgmtRange c [(decide (sl = 0 ∨ s.fld (.slice sl) slice_STATE ≠ 0), 16)]
    ((((s.setFld (.slice sl) slice_STATE 1).setFld (.slice sl) slice_QUAR 0).quotaCheck (List.range 6)).mgmtRec c stDONE 0)

/-- SLICE_TEARDOWN: handed to its engine; that of a FREE slice is DONE at once, and that of the slice being torn down
completes with it. -/
def State.runSliceTeardown (c : Cmd) (s : State) : State :=
  let sl := c.fld 2 0 6
  if sl = 0 then s.mgmtBad c (3, 16)
  else if s.fld (.slice sl) slice_STATE = 0 then s.mgmtRec c stDONE 0
  else match s.mg.tear with
    | some t =>
      if t.slice = sl then { s with mg := { s.mg with tear := some { t with cmds := t.cmds ++ [c] } } }
      else { s with mg := { s.mg with engTear := s.mg.engTear ++ [c] } }
    | none => State.tearNext (s.mg.engTear.length + 1) { s with mg := { s.mg with engTear := s.mg.engTear ++ [c] } }

def execSliceCreate (s : State) : Host.Outcome State Fault Refusal :=
  .next (s.onLive (s.mgmtRow (fun c => decide (c.opc = 0x88)) State.runSliceCreate))
def execSliceTeardown (s : State) : Host.Outcome State Fault Refusal :=
  .next (s.onLive (s.mgmtRow (fun c => decide (c.opc = 0x89)) State.runSliceTeardown))
/-- SLICE_TEARDOWN_DRAIN: the drain is over (R535). -/
def execSliceTeardownDrain (s : State) : Host.Outcome State Fault Refusal := .next (s.onLive s.tearStep)

/-! ### Engine-run commands (R544) -/

/-- EPOCH_SWAP (R367). -/
def State.runEpochSwap (c : Cmd) (s : State) : State :=
  State.swapNext (s.mg.engSwap.length + 1) { s with mg := { s.mg with engSwap := s.mg.engSwap ++ [c] } }
def execEpochSwap (s : State) : Host.Outcome State Fault Refusal :=
  .next (s.onLive (s.mgmtRow (fun c => decide (c.opc = 0x83)) State.runEpochSwap))

/-- SCRUB (R415): within the general area or the crash-dump area. -/
def State.runScrub (c : Cmd) (s : State) : State :=
  let a := c.fld 2 0 40
  let n := c.fld 3 0 40
  s.mgmtRange c [(decide (a % 4096 ≠ 0), 16), (decide (n = 0 ∨ n % 4096 ≠ 0), 24),
      (!decide ((0x20000000 ≤ a ∧ a + n ≤ dsEnd) ∨ (0x10000000 ≤ a ∧ a + n ≤ 0x14000000)), 16)]
    (s.scrubAdd a n (some c))
def execScrub (s : State) : Host.Outcome State Fault Refusal :=
  .next (s.onLive (s.mgmtRow (fun c => decide (c.opc = 0x8A)) State.runScrub))

/-- SCAN_CRC (R423). -/
def State.runScan (c : Cmd) (s : State) : State :=
  let a := c.fld 2 0 40
  let n := c.fld 3 0 40
  s.mgmtRange c [(decide (n = 0 ∨ dsEnd < n), 24), (decide (dsEnd < a + n), 16)] (s.scanAdd a n (c.fld 4 0 2) (some c))
def execScanCrc (s : State) : Host.Outcome State Fault Refusal :=
  .next (s.onLive (s.mgmtRow (fun c => decide (c.opc = 0x8C)) State.runScan))

/-- DUMP (R481). -/
def State.runDump (c : Cmd) (s : State) : State :=
  let n := c.fld 2 0 3
  s.mgmtRange c [(decide (6 ≤ n), 16)] (State.dumpNext { s with mg := { s.mg with engDump := s.mg.engDump ++ [(n, some c)] } })
def execDump (s : State) : Host.Outcome State Fault Refusal :=
  .next (s.onLive (s.mgmtRow (fun c => decide (c.opc = 0x90)) State.runDump))

/-- ATTEST (R512, R514): handed to the mailbox engine. -/
def State.runAttest (c : Cmd) (s : State) : State :=
  let n := c.fld 4 0 16
  s.mgmtRange c [(decide (c.w2.toNat % 8 ≠ 0), 16), (decide (c.w3.toNat % 8 ≠ 0), 24), (decide (n = 0 ∨ 32704 < n), 32),
      (decide (32768 < c.fld 4 16 16), 34)]
    (State.attNext { s with mg := { s.mg with engAtt := s.mg.engAtt ++ [c] } })
def execAttestSpdm (s : State) : Host.Outcome State Fault Refusal :=
  .next (s.onLive (s.mgmtRow (fun c => decide (c.opc = 0xB0 ∧ c.subop = 0)) State.runAttest))
def execAttestManifest (s : State) : Host.Outcome State Fault Refusal :=
  .next (s.onLive (s.mgmtRow (fun c => decide (c.opc = 0xB0 ∧ c.subop = 1)) State.runAttest))
/-- ATTEST_MAILBOX_POLL: one read of the header, every 1 µs. -/
def execAttestMailboxPoll (word0 word1 : Word) (s : State) : Host.Outcome State Fault Refusal :=
  .next (s.onLive (s.attPoll word0 word1))
/-- ATTEST_TIMEOUT: 500 ms. -/
def execAttestTimeout (s : State) : Host.Outcome State Fault Refusal := .next (s.onLive s.attLate)

/-! ### FW_ACTIVATE (R548, R549) -/

/-- FW_ACTIVATE: the interpreter halts, the hold begins, and the request goes to the mailbox. -/
def State.runFwActivate (c : Cmd) (s : State) : State :=
  State.attBegin { s with mg := { s.mg with interp := .holding, holdAt := s.now } } (some c) true c.w2.toNat
/-- It waits until no ATTEST is running or waiting. -/
def execFwActivate (s : State) : Host.Outcome State Fault Refusal :=
  .next (s.onLive (if s.mg.att.isNone ∧ s.mg.engAtt.isEmpty then
    s.mgmtRow (fun c => decide (c.opc = 0x98)) State.runFwActivate else s))

/-- Set the interpreter's state. -/
def State.setInterp (s : State) (i : Interp) : State := { s with mg := { s.mg with interp := i } }

/-- The answer to an activation (R548): RESPONSE starts the staged image, with DX_HB at zero; REFUSED leaves the old image,
which a restart then starts. Stage 6 of the exchange is the hold up to the first heartbeat. -/
def State.fwAnswer (s : State) (refused : Bool) : State :=
  match s.mg.att with
  | none => s
  | some a =>
    if !a.fw ∨ a.stage ≠ 3 then s
    else if refused then
      match a.cmd with
      | some c => ((s.setAtt none).setInterp .running).mgmtEp c stKEY
      | none => (s.setAtt none).setInterp .starting
    else
      let s1 := s.mgWrite s.mbox (mboxWord0 a.seq 0 a.subop a.len) .drop
      ((s1.setAtt (some { a with stage := 6 })).setInterp .starting).setReg .hb 0
/-- FW_ACTIVATE_RESPONSE. -/
def execFwActivateResponse (refused : Bool) (s : State) : Host.Outcome State Fault Refusal :=
  .next (s.onLive (s.fwAnswer refused))

/-- No activation answer within 1 ms (R549): the interpreter stays halted. -/
def State.fwLate (s : State) : State :=
  match s.mg.att with
  | none => s
  | some a =>
    if !a.fw ∨ 3 < a.stage ∨ !s.due a.start (ms 1) then s
    else
      let s1 := (s.setAtt none).setInterp .halted
      match a.cmd with
      | some c => s1.mgmtEp c stTGTTO
      | none => s1
/-- FW_ACTIVATE_TIMEOUT. -/
def execFwActivateTimeout (s : State) : Host.Outcome State Fault Refusal := .next (s.onLive s.fwLate)

/-! ### FAULT_ACK and LANE_TEST -/

/-- FAULT_ACK (R466). -/
def State.runFaultAck (c : Cmd) (s : State) : State :=
  let u := c.fld 2 0 3
  let q := c.fld 2 16 16
  let next := s.fld (.fltStat u) fltStat_NEXTSEQ
  let done (x : Nat × FPend) : Bool := decide (x.2.seq = q) || serialBefore x.2.seq q
  let s1 := (s.funit u).pend.foldl (fun s x => if done x then s.setFld (.fltStat u) (pendPos x.1) 0 else s) s
  let s2 := (s1.setFunit u (fun f => { f with
    pend := f.pend.filter (fun x => !done x), lastAt := s.fnow })).setFld (.fltStat u) fltStat_ACKSEQ q
  s.mgmtRange c [(decide (6 < u), 16), (!serialBefore q next, 18)] (s2.mgmtRec c stDONE 0)
def execFaultAck (s : State) : Host.Outcome State Fault Refusal :=
  .next (s.onLive (s.mgmtRow (fun c => decide (c.opc = 0xA0)) State.runFaultAck))

/-- LANE_TEST (R308 to R310, R27): the lane is fenced first, and its SerDes is set over the control bus. Which of its
registers that takes is not given: the cycle's address and data are free (log entry 3). INJ acts on the PRBS stream only: it is
ignored in the modes STOP and FAR_LOOP (R310). The checker has to lock anew (R311). -/
def State.runLaneTest (c : Cmd) (s : State) : State :=
  let l := c.fld 2 0 8
  let md := c.fld 2 8 4
  let inj := c.fld 2 16 6
  let p := lanePort l
  let n := portPart p
  let k := portK p
  let r := s.reg (.portCfg n k)
  let v := fset r portCfg_FENCE (fget r portCfg_FENCE ||| 2 ^ laneLocal l)
  let fenced := (s.fencedLanes p).getLsbD (laneLocal l)
  let s1 := if fenced then s else s.portCfgWrite n k v
  let d := s1.draw
  let e := d.2.draw
  let cyc : Nat × Nat × Nat := (l, d.1 % 65536, e.1 % 2 ^ 32)
  let s2 : State := { e.2 with sdb := { e.2.sdb with queue := e.2.sdb.queue ++ [cyc] } }
  let s3 := if s2.sdb.acc.isSome then s2 else s2.sdbFlush
  s.mgmtRange c [(decide (191 < l), 16), (decide (md ≠ 0 ∧ inj ≠ 0 ∧ (inj < 10 ∨ 40 < inj)), 18),
      (!fenced && s.portCfgRefused n k v, 16)]
    ((s3.setLane l (fun x => { x with mode := md, plock := false, inj := if md ∈ [1, 2, 3] then inj else 0 })).mgmtRec c stDONE 0)

/-- Is a command LANE_TEST in this mode? -/
def cmdLaneTest (md : Nat) (c : Cmd) : Bool := decide (c.opc = 0xA8 ∧ c.fld 2 8 4 = md)
def execLaneTestStop (s : State) : Host.Outcome State Fault Refusal :=
  .next (s.onLive (s.mgmtRow (cmdLaneTest 0) State.runLaneTest))
def execLaneTestPrbs31 (s : State) : Host.Outcome State Fault Refusal :=
  .next (s.onLive (s.mgmtRow (cmdLaneTest 1) State.runLaneTest))
def execLaneTestPrbs13q (s : State) : Host.Outcome State Fault Refusal :=
  .next (s.onLive (s.mgmtRow (cmdLaneTest 2) State.runLaneTest))
def execLaneTestNearLoop (s : State) : Host.Outcome State Fault Refusal :=
  .next (s.onLive (s.mgmtRow (cmdLaneTest 3) State.runLaneTest))
def execLaneTestFarLoop (s : State) : Host.Outcome State Fault Refusal :=
  .next (s.onLive (s.mgmtRow (cmdLaneTest 4) State.runLaneTest))

/-! ### The ring and its port (R34, R35, R93) -/

/-- MGMT_DOORBELL (R35): the latest tail stands, and fetching goes on (R34). -/
def execMgmtDoorbell (tail : BitVec 12) (s : State) : Host.Outcome State Fault Refusal :=
  .next (s.onLive (s.doorbell tail.toNat))

/-- A command arrives from the ring: the read outstanding has been answered. -/
def State.fetchCmd (s : State) (c : Cmd) : State :=
  let n := 2 ^ s.fld .mqCfg mqCfg_CLOG2
  let s1 := s.setFld .mqHead mqHead_FETCH ((s.fld .mqHead mqHead_FETCH + 1) % n)
  { s1 with mg := { s1.mg with fetched := s1.mg.fetched ++ [c], fetch := none } }
/-- MGMT_COMMAND_FETCH; what arrives while the controller does not fetch is dropped, and read again later. -/
def execMgmtCommandFetch (cmd : Cmd) (s : State) : Host.Outcome State Fault Refusal :=
  .next (s.onLive (if s.mayFetch then s.fetchCmd cmd else { s with mg := { s.mg with fetch := none } }))

/-- An access unanswered for 4 µs (R34): fetching stops, MGMT_PORT_ERR is set, one event. -/
def State.mgPortErr (s : State) : State :=
  let s1 := (s.setFld .stat stat_MGMTPORTERR 1).blockEvent 0x33 ⟨syUNIT, 5⟩
  { s1 with mg := { s1.mg with stopped := true, fetch := none } }
/-- The access `id`: one for data, a record or a sample, or the read of the command ring. -/
def State.mgTimeout (s : State) (id : Nat) : State :=
  match s.mv.mgreq.find? (fun r => r.id = id) with
  | some r =>
    if !s.due r.at' (us 4) then s
    else
      let s1 : State := { s with mv := { s.mv with mgreq := s.mv.mgreq.filter (fun x => x.id ≠ id) } }
      s1.mgPortErr.pieceDone r.job r.off [] (some stTGTTO)
  | none =>
    match s.mg.fetch with
    | some f => if f.1 = id ∧ s.due f.2 (us 4) then s.mgPortErr else s
    | none => s
/-- MGMT_PORT_TIMEOUT. -/
def execMgmtPortTimeout (id : Nat) (s : State) : Host.Outcome State Fault Refusal := .next (s.onLive (s.mgTimeout id))

/-- Is an access the write of a sample record? -/
def State.isSample (s : State) (r : MgReq) : Bool := s.mv.jobs.any (fun j => decide (j.id = r.job ∧ j.cont = .sample))
/-- Is an access the write of a management completion record? -/
def State.isMgRec (s : State) (r : MgReq) : Bool :=
  s.mv.jobs.any (fun j => decide (j.id = r.job) && (match j.cont with | .record x => decide (x.qid = 0) | _ => false))
/-- Does an earlier access go first: one that overlaps it, of which either writes; for a sample, a management completion record or
a sample (R341)? -/
def State.mgBehind (s : State) (r : MgReq) : Bool :=
  s.mv.mgreq.any (fun x => decide (x.id < r.id) &&
    ((s.isSample r && (s.isMgRec x || s.isSample x))
      || ((x.wr || r.wr || x.op.isSome || r.op.isSome) && decide (x.addr < r.addr + r.len ∧ r.addr < x.addr + x.len))))
/-- An access of the management memory port is answered (R34, R110): the read half of an ATOMIC goes on with its write. -/
def State.mgAnswer (s : State) (id : Nat) (data : List Byte) : State :=
  match s.mv.mgreq.find? (fun r => r.id = id) with
  | none => s
  | some r =>
    let rest := s.mv.mgreq.filter (fun x => x.id ≠ id)
    let s1 : State := { s with mv := { s.mv with mgreq := rest } }
    let d := padTo r.len data
    if s.mgBehind r then s
    else if r.wr then s1.pieceDone r.job r.off r.old none
    else match r.op with
      | some (sub, a, c) =>
        let w := natBytes r.len (atomicOp (sub % 16) (bytesNat d) a c)
        let r' : MgReq := { r with wr := true, op := none, old := d, data := w, at' := s.now }
        { s with mv := { s.mv with mgreq := updFirst (fun x => decide (x.id = id)) (fun _ => r') s.mv.mgreq } }
      | none => s1.pieceDone r.job r.off d none
/-- MGMT_MEMORY_PORT_ANSWER. -/
def execMgmtMemoryPortAnswer (id : Nat) (data : List Byte) (s : State) : Host.Outcome State Fault Refusal :=
  .next (s.onLive (s.mgAnswer id data))

end Sys2Proof.Machine
end

