-- ==== Sys2Proof/Machine/Control.lean ====
section
/-! DEFINITION. The rows of register writes, the debug window, and the command interpreter's heartbeat and restart
(spec/17_management.md R546 to R549, spec/15_recovery.md R477 to R480, and the rule each row cites). A row of a register
write runs the REG_WRITE fetched first where it names that register. -/

namespace Sys2Proof.Machine

/-! ### Register writes with rows of their own -/

/-- SDB_GO (R23, R25, R26): a write of 1 to GO. -/
def execSdbGo (s : State) : Host.Outcome State Fault Refusal :=
  .next (s.onLive (s.regRow (fun r v => match r with | .sdbCmd => decide (fget v sdbCmd_GO = 1) | _ => false)))
/-- MQ_CFG_WRITE (R93, R95). -/
def execMqCfgWrite (s : State) : Host.Outcome State Fault Refusal :=
  .next (s.onLive (s.regRow (fun r _ => match r with | .mqCfg => true | _ => false)))
/-- DX_CTL_WRITE (R304, R567). -/
def execDxCtlWrite (s : State) : Host.Outcome State Fault Refusal :=
  .next (s.onLive (s.regRow (fun r _ => match r with | .ctl => true | _ => false)))
/-- DX_NODE_WRITE (R343). -/
def execDxNodeWrite (s : State) : Host.Outcome State Fault Refusal :=
  .next (s.onLive (s.regRow (fun r _ => match r with | .node => true | _ => false)))
/-- DX_ROUTE_CTL_WRITE (R363). -/
def execDxRouteCtlWrite (s : State) : Host.Outcome State Fault Refusal :=
  .next (s.onLive (s.regRow (fun r _ => match r with | .routeCtl => true | _ => false)))
/-- DX_STRICT_WRITE (R374, R375). -/
def execDxStrictWrite (s : State) : Host.Outcome State Fault Refusal :=
  .next (s.onLive (s.regRow (fun r _ => match r with | .strict => true | _ => false)))
/-- DX_RSV_WRITE (R320, R322). -/
def execDxRsvWrite (s : State) : Host.Outcome State Fault Refusal :=
  .next (s.onLive (s.regRow (fun r _ => match r with | .rsv _ _ => true | _ => false)))
/-- DX_PORT_CFG_WRITE (R306). -/
def execDxPortCfgWrite (s : State) : Host.Outcome State Fault Refusal :=
  .next (s.onLive (s.regRow (fun r _ => match r with | .portCfg _ _ => true | _ => false)))
/-- HWFENCE_CLEAR (R306). -/
def execHwfenceClear (s : State) : Host.Outcome State Fault Refusal :=
  .next (s.onLive (s.regRow (fun r _ => match r with | .portStat _ _ => true | _ => false)))
/-- DX_FLT_FENCE_WRITE (R473). -/
def execDxFltFenceWrite (s : State) : Host.Outcome State Fault Refusal :=
  .next (s.onLive (s.regRow (fun r _ => match r with | .fltFence _ => true | _ => false)))
/-- DUMP_SLOT_RELEASE (R483). -/
def execDumpSlotRelease (s : State) : Host.Outcome State Fault Refusal :=
  .next (s.onLive (s.regRow (fun r _ => match r with | .dumpStat => true | _ => false)))
/-- DX_QUAR_RELEASE (R500). -/
def execDxQuarRelease (s : State) : Host.Outcome State Fault Refusal :=
  .next (s.onLive (s.regRow (fun r _ => match r with | .quar _ _ => true | _ => false)))
/-- DX_RST_CTL_REQ (R490, R503). -/
def execDxRstCtlReq (s : State) : Host.Outcome State Fault Refusal :=
  .next (s.onLive (s.regRow (fun r _ => match r with | .rstCtl => true | _ => false)))
/-- RETURN (R504). -/
def execReturnToService (s : State) : Host.Outcome State Fault Refusal :=
  .next (s.onLive (s.regRow (fun r _ => match r with | .rcvCtl _ => true | _ => false)))
/-- DX_FT_NOW_WRITE (R453, R578). -/
def execDxFtNowWrite (s : State) : Host.Outcome State Fault Refusal :=
  .next (s.onLive (s.regRow (fun r _ => match r with | .ftNow => true | _ => false)))
/-- DX_FT_CFG_WRITE (R451, R454). -/
def execDxFtCfgWrite (s : State) : Host.Outcome State Fault Refusal :=
  .next (s.onLive (s.regRow (fun r _ => match r with | .ftCfg => true | _ => false)))
/-- DX_WEAR_WRITE (R441). -/
def execDxWearWrite (s : State) : Host.Outcome State Fault Refusal :=
  .next (s.onLive (s.regRow (fun r _ => match r with | .wear _ => true | _ => false)))
/-- DX_NOISE_WRITE (R236): the next emission uses it. -/
def execDxNoiseWrite (s : State) : Host.Outcome State Fault Refusal :=
  .next (s.onLive (s.regRow (fun r _ => match r with | .noise _ => true | _ => false)))
/-- DX_SYNC_VAL_WRITE (R167). -/
def execDxSyncValWrite (s : State) : Host.Outcome State Fault Refusal :=
  .next (s.onLive (s.regRow (fun r _ => match r with | .syncVal _ => true | _ => false)))
/-- DX_SYNC_OWN_WRITE (R175, R534). -/
def execDxSyncOwnWrite (s : State) : Host.Outcome State Fault Refusal :=
  .next (s.onLive (s.regRow (fun r _ => match r with | .syncOwn _ => true | _ => false)))
/-- DX_CC_CFG_WRITE (R388, R394). -/
def execDxCcCfgWrite (s : State) : Host.Outcome State Fault Refusal :=
  .next (s.onLive (s.regRow (fun r _ => match r with | .ccCfg => true | _ => false)))
/-- DX_TEL_FILT_WRITE (R397): DX_TEL_FILT or DX_CC_FILT. -/
def execDxTelFiltWrite (s : State) : Host.Outcome State Fault Refusal :=
  .next (s.onLive (s.regRow (fun r _ => match r with | .telFilt _ => true | .ccFilt => true | _ => false)))
/-- DX_CRC_CH_WRITE (R422). -/
def execDxCrcChWrite (s : State) : Host.Outcome State Fault Refusal :=
  .next (s.onLive (s.regRow (fun r _ => match r with | .crcCh _ => true | _ => false)))
/-- DX_SMP_RING_WRITE (R342). -/
def execDxSmpRingWrite (s : State) : Host.Outcome State Fault Refusal :=
  .next (s.onLive (s.regRow (fun r _ => match r with | .smpRing => true | _ => false)))
/-- DX_SAMPLE_WRITE (R340, R511). -/
def execDxSampleWrite (s : State) : Host.Outcome State Fault Refusal :=
  .next (s.onLive (s.regRow (fun r _ => match r with | .sample _ => true | _ => false)))
/-- DX_POLICE_WRITE (R334). -/
def execDxPoliceWrite (s : State) : Host.Outcome State Fault Refusal :=
  .next (s.onLive (s.regRow (fun r _ => match r with | .police _ => true | _ => false)))

/-! ### Restart of the interpreter (R479, R480, R549) -/

/-- The management command under way at a hang completes with TARGET_TIMEOUT: an activation, or the command fetched first,
which a running interpreter would have run. -/
def State.hungCmd (s : State) : State :=
  match s.mg.att with
  | some a =>
    if a.fw then
      let s1 := s.setAtt none
      match a.cmd with
      | some c => s1.mgmtEp c stTGTTO
      | none => s1
    else s
  | none => s
/-- The same for a command fetched. -/
def State.hungFetched (s : State) : State :=
  if s.mg.interp ≠ .hung then s
  else match s.mg.fetched with
    | c :: _ => s.mgmtTaken.mgmtEp c stTGTTO
    | [] => s

/-- The interpreter restarts from its staged image by the exchange of R548: MISS is cleared, commands fetched and not
started are kept. -/
def State.restart (s : State) : State :=
  let s1 := s.setFld .hb hb_MISS 0
  if s.mg.interp = .restarting then s1
  else
    let s2 := s1.hungFetched.hungCmd
    { s2 with mg := { s2.mg with interp := .restarting, missAt := none } }

/-- A refused access of the window counts one event (R36, R546). -/
def State.windowRefused (s : State) : State := s.blockEvent 0x32 ⟨syPART, 6⟩

/-- A window write (R37, R515, R546). -/
def State.windowWrite (s : State) (addr : Nat) (v : Word) : State :=
  match (if addr % 8 = 0 then Reg.ofAddr addr else none) with
  | none => s.windowRefused
  | some .interpCtl => if fget v interpCtl_RESTART = 1 then s.restart else s.windowRefused
  | some r =>
    if heldByMirror s r then s.setMirror (fun m => { m with waiting := m.waiting ++ [(addr, v)] })
    else if s.regRefused r v then (s.refusedWrite r v).windowRefused
    else s.regWrite r v

/-- A window read (R546): zero outside the map. The word is kept as the model's own record of what the window returned. -/
def State.windowRead (s : State) (addr : Nat) : State :=
  match (if addr % 8 = 0 then Reg.ofAddr addr else none) with
  | none => { s with winRead := 0 }
  | some r =>
    let v := s.readReg r
    { v.2 with winRead := v.1 }

/-- DEBUG_WINDOW_ACCESS (R36, R546). -/
def execDebugWindowAccess (write : Bool) (addr : BitVec 32) (data : Word) (s : State) : Host.Outcome State Fault Refusal :=
  .next (s.onLive (if !s.winEn then (if write then s else { s with winRead := 0 }).windowRefused
    else if write then s.windowWrite addr.toNat data else s.windowRead addr.toNat))

/-- RESTART (R479): a window write of 1 to RESTART. -/
def execRestart (s : State) : Host.Outcome State Fault Refusal :=
  .next (s.onLive (if s.winEn then s.restart else s.windowRefused))

/-- INTERP_AUTO_RESTART (R480): MISS has reached 3, with the window off at that moment or no RESTART within ATO of it. -/
def execInterpAutoRestart (s : State) : Host.Outcome State Fault Refusal :=
  .next (s.onLive (match s.mg.missAt with
    | some t => if s.due t 0 then (s.count .interpCtl interpCtl_RESTARTS 1).restart else s
    | none => s))

/-! ### Heartbeat (R477, R548) -/

/-- The first heartbeat after a start ends the hold of an activation: DONE with the hold time in ns. -/
def State.holdEnd (s : State) : State :=
  match s.mg.att with
  | some a =>
    if a.fw ∧ a.stage = 6 then
      (s.setAtt none).recOpt a.cmd stDONE ((s.now - s.mg.holdAt) / 4 % 2 ^ 32)
    else s
  | none => s

/-- HEARTBEAT: the interpreter posts one, where it runs, has been started, or comes out of a hang. -/
def State.heartbeat (s : State) : State :=
  if s.mg.interp ∈ [.running, .starting, .hung] then
    let s1 := s.setFld .hb hb_COUNT (s.fld .hb hb_COUNT + 1)
    State.holdEnd { s1 with mg := { s1.mg with interp := .running, lastHb := s1.now } }
  else s
def execHeartbeat (s : State) : Host.Outcome State Fault Refusal := .next (s.onLive s.heartbeat)

/-- HEARTBEAT_CHECK: the end of a 100 µs period. -/
def State.hbCheck (s : State) : State :=
  if !s.due s.mg.hbAt (us 100) then s
  else
    let s1 : State := { s with mg := { s.mg with hbAt := s.mg.hbAt + us 100 } }
    if s.mg.hbAt < s.mg.lastHb then
      State.setFld { s1 with mg := { s1.mg with missAt := none } } .hb hb_MISS 0
    else
      let m := s.fld .hb hb_MISS
      let s2 := s1.setFld .hb hb_MISS (min 3 (m + 1))
      if m = 2 then
        let s3 : State := { s2 with mg := { s2.mg with
          missAt := some (s2.now + if s2.winEn then us (s2.fld .fltCtl fltCtl_ATO) else 0), interp := if s2.mg.interp = .running then .hung else s2.mg.interp } }
        s3.blockEvent 0x39 ⟨syUNIT, 4⟩
      else s2
def execHeartbeatCheck (s : State) : Host.Outcome State Fault Refusal := .next (s.onLive s.hbCheck)

end Sys2Proof.Machine
end

