-- ==== Sys2Proof/Machine/Data.lean ====
section
/-! DEFINITION. The rows that start a command of a queue (spec/03_remote_operations.md R97 to R126, R168,
spec/05_galleries.md R193, spec/04_memory_model.md R149). The format checks, the issue checks of R357 and the waits of R145,
R146 and R152 are those of `State.begin` and `State.galBegin`. -/

namespace Sys2Proof.Machine

/-- Start the first command of a queue that has not started, where it may start and meets `p` (R81, R145 to R149). -/
def State.start (s : State) (q : Nat) (p : Cmd → Bool) : State :=
  match s.startable q with
  | some t => if p t.cmd then (if isGalCmd t.cmd then s.galBegin t else s.begin t) else s
  | none => s
/-- Is a command one of an opcode? -/
def isOpc (o : Nat) (c : Cmd) : Bool := decide (c.opc = o)
/-- Is a command an ATOMIC of a sub-op (R108)? -/
def isAtomic (k : Nat) (c : Cmd) : Bool := decide (c.opc = opATOMIC ∧ c.subop % 16 = k)

/-- PUT (R97, R112, R113). -/
def execPut (qid : Nat) (s : State) : Host.Outcome State Fault Refusal :=
  ifWf (Instr.wf (.put qid)) (s.onLive (s.start qid (isOpc opPUT)))
/-- PUT_INLINE (R98, R113). -/
def execPutInline (qid : Nat) (s : State) : Host.Outcome State Fault Refusal :=
  ifWf (Instr.wf (.putInline qid)) (s.onLive (s.start qid (isOpc opPUTI)))
/-- GET (R120). -/
def execGet (qid : Nat) (s : State) : Host.Outcome State Fault Refusal :=
  ifWf (Instr.wf (.get qid)) (s.onLive (s.start qid (isOpc opGET)))
/-- COPY (R105). -/
def execCopy (qid : Nat) (s : State) : Host.Outcome State Fault Refusal :=
  ifWf (Instr.wf (.copy qid)) (s.onLive (s.start qid (isOpc opCOPY)))
/-- ATOMIC ADD_I32 (R108). -/
def execAtomicAddI32 (qid : Nat) (s : State) : Host.Outcome State Fault Refusal :=
  ifWf (Instr.wf (.atomicAddI32 qid)) (s.onLive (s.start qid (isAtomic 0)))
/-- ATOMIC ADD_I64 (R108). -/
def execAtomicAddI64 (qid : Nat) (s : State) : Host.Outcome State Fault Refusal :=
  ifWf (Instr.wf (.atomicAddI64 qid)) (s.onLive (s.start qid (isAtomic 1)))
/-- ATOMIC ADD_F32 (R108, R109). -/
def execAtomicAddF32 (qid : Nat) (s : State) : Host.Outcome State Fault Refusal :=
  ifWf (Instr.wf (.atomicAddF32 qid)) (s.onLive (s.start qid (isAtomic 2)))
/-- ATOMIC ADD_BF16X2 (R108, R109). -/
def execAtomicAddBf16x2 (qid : Nat) (s : State) : Host.Outcome State Fault Refusal :=
  ifWf (Instr.wf (.atomicAddBf16x2 qid)) (s.onLive (s.start qid (isAtomic 3)))
/-- ATOMIC MIN_I64 (R108). -/
def execAtomicMinI64 (qid : Nat) (s : State) : Host.Outcome State Fault Refusal :=
  ifWf (Instr.wf (.atomicMinI64 qid)) (s.onLive (s.start qid (isAtomic 4)))
/-- ATOMIC MAX_I64 (R108). -/
def execAtomicMaxI64 (qid : Nat) (s : State) : Host.Outcome State Fault Refusal :=
  ifWf (Instr.wf (.atomicMaxI64 qid)) (s.onLive (s.start qid (isAtomic 5)))
/-- ATOMIC CAS64 (R108). -/
def execAtomicCas64 (qid : Nat) (s : State) : Host.Outcome State Fault Refusal :=
  ifWf (Instr.wf (.atomicCas64 qid)) (s.onLive (s.start qid (isAtomic 6)))
/-- ATOMIC SWAP64 (R108). -/
def execAtomicSwap64 (qid : Nat) (s : State) : Host.Outcome State Fault Refusal :=
  ifWf (Instr.wf (.atomicSwap64 qid)) (s.onLive (s.start qid (isAtomic 7)))
/-- SYNC_ADD (R164, R166). -/
def execSyncAdd (qid : Nat) (s : State) : Host.Outcome State Fault Refusal :=
  ifWf (Instr.wf (.syncAdd qid)) (s.onLive (s.start qid (isOpc opSYNCADD)))
/-- SYNC_SET (R164, R166). -/
def execSyncSet (qid : Nat) (s : State) : Host.Outcome State Fault Refusal :=
  ifWf (Instr.wf (.syncSet qid)) (s.onLive (s.start qid (isOpc opSYNCSET)))
/-- SYNC_WAIT (R168). -/
def execSyncWait (qid : Nat) (s : State) : Host.Outcome State Fault Refusal :=
  ifWf (Instr.wf (.syncWait qid)) (s.onLive (s.start qid (isOpc opSYNCWAIT)))
/-- FENCE (R149). -/
def execFence (qid : Nat) (s : State) : Host.Outcome State Fault Refusal :=
  ifWf (Instr.wf (.fence qid)) (s.onLive (s.start qid (isOpc opFENCE)))
/-- GALLERY_CONTRIB (R193). -/
def execGalleryContrib (qid : Nat) (s : State) : Host.Outcome State Fault Refusal :=
  ifWf (Instr.wf (.galleryContrib qid)) (s.onLive (s.start qid (isOpc opGALC)))
/-- COMBINE_CONTRIB (R193, R204). -/
def execCombineContrib (qid : Nat) (s : State) : Host.Outcome State Fault Refusal :=
  ifWf (Instr.wf (.combineContrib qid)) (s.onLive (s.start qid (isOpc opCOMB)))
/-- KV_ROTATE (R193, R206). -/
def execKvRotate (qid : Nat) (s : State) : Host.Outcome State Fault Refusal :=
  ifWf (Instr.wf (.kvRotate qid)) (s.onLive (s.start qid (isOpc opKVR)))

end Sys2Proof.Machine
end

