-- ==== Sys2Proof/Machine/DumpRows.lean ====
section
/-! DEFINITION. The rows of the crash-dump engine (spec/15_recovery.md R484 to R487, R497). -/

namespace Sys2Proof.Machine

/-- The suspects of a reset for a stall (R497): the keys of the first `k` commands found held by the stalled engine. -/
def State.noteSuspects (s : State) (d : Dump) (st idx k : Nat) : State :=
  if d.cmd.isSome ∨ d.code ≠ 0x38 ∨ (s.part d.part).stalled ≠ some (st, idx) then s
  else
    let keys := (((s.held d.part st idx).take k).map (fun y => (y.1, y.2.1))).dedup
    s.setPart d.part (fun p => { p with suspects := keys })
/-- After a record: the dump ends when its slot is full or every unit has been read (R487). -/
def State.dumpAfter (s : State) : State :=
  match s.mg.dump with
  | none => s
  | some d => if d.ending = some 3 then s.dumpClose 3 else if d.units.isEmpty then s.dumpClose 2 else s
/-- The next unit is read, or skipped where it is fenced (R485, R486). -/
def State.dumpUnit (s : State) : State :=
  match s.mg.dump with
  | none => s
  | some d =>
    if d.ending.isSome then s
    else match d.units with
      | [] => s.dumpClose 2
      | u :: _ =>
        if s.unitOff d.part u.1 u.2 then (s.dumpAdd d u.1 u.2 2 0 []).dumpAfter
        else
          let data := s.unitData d.part u.1 u.2
          ((s.noteSuspects d u.1 u.2 data.length).dumpAdd d u.1 u.2 0 0 data).dumpAfter
/-- DUMP_UNIT_READ. -/
def execDumpUnitRead (s : State) : Host.Outcome State Fault Refusal := .next (s.onLive s.dumpUnit)

/-- The unit being read has not answered for 2 µs: word `w` of its data did not arrive (R486). -/
def State.dumpLate (s : State) (w : Nat) : State :=
  match s.mg.dump with
  | none => s
  | some d =>
    match d.units with
    | [] => s
    | u :: _ =>
      let data := s.unitData d.part u.1 u.2
      if d.ending.isSome ∨ s.unitOff d.part u.1 u.2 ∨ !s.due d.askAt (us 2) ∨ data.length ≤ 8 * w then s
      else ((s.noteSuspects d u.1 u.2 (w / 2 - 2)).dumpAdd d u.1 u.2 1 w (data.take (8 * w))).dumpAfter
/-- DUMP_READ_TIMEOUT. -/
def execDumpReadTimeout (word : Nat) (s : State) : Host.Outcome State Fault Refusal := .next (s.onLive (s.dumpLate word))

/-- 5 ms have passed since the dump started (R487). -/
def State.dumpLimit (s : State) : State :=
  match s.mg.dump with
  | none => s
  | some d => if d.ending.isSome ∨ !s.due d.start (ms 5) then s else s.dumpClose 3
/-- DUMP_TIME_LIMIT. -/
def execDumpTimeLimit (s : State) : Host.Outcome State Fault Refusal := .next (s.onLive s.dumpLimit)

/-- DUMP_WAIT_END (R484): the dump engine is free, and the first dump that waits starts. -/
def execDumpWaitEnd (s : State) : Host.Outcome State Fault Refusal := .next (s.onLive s.dumpNext)

end Sys2Proof.Machine
end

