-- ==== Sys2Proof/Machine/Rx.lean ====
section
/-! DEFINITION. The rows of packets delivered to the node's transport, and its timers (spec/03_remote_operations.md R102 to
R126, spec/04_memory_model.md R151, R165 to R171). A row takes the oldest packet of its kind delivered in a running
partition. -/

namespace Sys2Proof.Machine

/-- Must a packet of a suspect key wait for an engine: one of the partition's holds another suspect command, or another such
packet came before (R498)? -/
def State.suspBehind (s : State) (e : InEnt) : Bool :=
  s.suspWork e.chans e
    && (s.suspHeld e.chans || (s.sw.inbox.takeWhile (fun x => decide (x ≠ e))).any (s.suspWork e.chans))
/-- Run `f` on the oldest packet that meets `p` and is not held for its queue's earlier ORDERED accesses (R146) or for other
suspect commands (R498), taken from what has been delivered. -/
def State.rxRow (s : State) (p : Pkt → Bool) (f : State → InEnt → State) : State :=
  let mine (e : InEnt) : Bool := s.runs e.part && p e.pkt && !s.ordHeld e.pkt && !s.suspBehind e
  match s.sw.inbox.find? mine with
  | none => s
  | some e => f { s with sw := { s.sw with inbox := dropFirst mine s.sw.inbox } } e
/-- Does an operation on the same sync object that arrived earlier still wait in what has been delivered (R167, R172)? -/
def State.syncBehind (s : State) (e : InEnt) : Bool :=
  (s.sw.inbox.takeWhile (fun x => decide (x ≠ e))).any (fun x => x.pkt.onSync (Desc.ofNat e.pkt.desc).sync)
/-- A sync operation of an opcode: the oldest whose turn at its object has come. -/
def State.syncRow (s : State) (opc : Nat) : State :=
  let mine (e : InEnt) : Bool := s.runs e.part && decide (e.pkt.opc = opc) && !s.ordHeld e.pkt && !s.syncBehind e
  match s.sw.inbox.find? mine with
  | none => s
  | some e => State.fileTake { s with sw := { s.sw with inbox := dropFirst mine s.sw.inbox } } e
/-- A packet of an opcode. -/
def pktOpc (o : Nat) (p : Pkt) : Bool := decide (p.opc = o)

/-- PUT_CELL_RX (R113, R120, R249). -/
def execPutCellRx (s : State) : Host.Outcome State Fault Refusal :=
  .next (s.onLive (s.rxRow (fun p => decide (p.opc = opPUT ∨ p.opc = opPUTI) && !p.isFrame) State.rxPutCell))
/-- PUT_FRAME_RX (R115 to R119, R125). -/
def execPutFrameRx (s : State) : Host.Outcome State Fault Refusal :=
  .next (s.onLive (s.rxRow (fun p => decide (p.opc = opPUT ∨ p.opc = opPUTI) && p.isFrame) State.rxPutFrame))
/-- GET_RX (R102). -/
def execGetRx (s : State) : Host.Outcome State Fault Refusal :=
  .next (s.onLive (s.rxRow (pktOpc opGET) (fun s e => s.rxRead e false)))
/-- COPY_RX (R102). -/
def execCopyRx (s : State) : Host.Outcome State Fault Refusal :=
  .next (s.onLive (s.rxRow (pktOpc opCOPY) (fun s e => s.rxRead e true)))
/-- ATOMIC_RX (R110). -/
def execAtomicRx (s : State) : Host.Outcome State Fault Refusal :=
  .next (s.onLive (s.rxRow (pktOpc opATOMIC) State.rxAtomic))
/-- SYNC_ADD_RX (R165, R166). -/
def execSyncAddRx (s : State) : Host.Outcome State Fault Refusal :=
  .next (s.onLive (s.syncRow opSYNCADD))
/-- SYNC_SET_RX (R165, R166). -/
def execSyncSetRx (s : State) : Host.Outcome State Fault Refusal :=
  .next (s.onLive (s.syncRow opSYNCSET))
/-- SYNC_WAIT_RX (R169, R171). -/
def execSyncWaitRx (s : State) : Host.Outcome State Fault Refusal :=
  .next (s.onLive (s.syncRow opSYNCWAIT))
/-- SYNC_WAIT_DEADLINE (R169). -/
def execSyncWaitDeadline (s : State) : Host.Outcome State Fault Refusal := .next (s.onLive s.syncExpire)
/-- SYNC_WAIT_ISSUER_TIMEOUT (R170). -/
def execSyncWaitIssuerTimeout (txn : Nat) (s : State) : Host.Outcome State Fault Refusal :=
  .next (s.onLive (s.waitOut txn))
/-- PROBE_RX (R151). -/
def execProbeRx (s : State) : Host.Outcome State Fault Refusal :=
  .next (s.onLive (s.rxRow (pktOpc opPROBE) State.rxProbe))
/-- PROBE_ANSWER (R151). -/
def execProbeAnswer (s : State) : Host.Outcome State Fault Refusal := .next (s.onLive s.probeReady)
/-- GET_DATA_RX (R120, R121). -/
def execGetDataRx (s : State) : Host.Outcome State Fault Refusal :=
  .next (s.onLive (s.rxRow (pktOpc opGETDATA) State.rxGetData))
/-- ACK_RX (R122, R245, R384). -/
def execAckRx (s : State) : Host.Outcome State Fault Refusal :=
  .next (s.onLive (s.rxRow (pktOpc opACK) (fun s e => s.rxAck e.pkt)))
/-- FAIL_RX (R124). -/
def execFailRx (s : State) : Host.Outcome State Fault Refusal :=
  .next (s.onLive (s.rxRow (pktOpc opFAIL) (fun s e => s.rxFail e.pkt)))
/-- COPY_RPT_RX (R124). -/
def execCopyRptRx (s : State) : Host.Outcome State Fault Refusal :=
  .next (s.onLive (s.rxRow (pktOpc opCOPYRPT) (fun s e => s.rxCopyRpt e.pkt)))
/-- RETRANSMIT_TIMER (R117). -/
def execRetransmitTimer (snd fidx : Nat) (s : State) : Host.Outcome State Fault Refusal :=
  .next (s.onLive (s.retransmit snd fidx))
/-- TRANSPORT_TIMEOUT (R122, R124). -/
def execTransportTimeout (txn : Nat) (s : State) : Host.Outcome State Fault Refusal :=
  .next (s.onLive (s.transportOut txn))
/-- ACK_DELAY_TIMER (R116). -/
def execAckDelayTimer (s : State) : Host.Outcome State Fault Refusal := .next (s.onLive s.ackDelay)
/-- RECEIVE_RECORD_EXPIRY (R118). -/
def execReceiveRecordExpiry (s : State) : Host.Outcome State Fault Refusal := .next (s.onLive s.rrecExpire)

end Sys2Proof.Machine
end

