-- ==== Sys2Proof/Machine/EdgeRows.lean ====
section
/-! DEFINITION. The rows of edge answers and ETAGs (spec/03_remote_operations.md R128 to R134). -/

namespace Sys2Proof.Machine

/-- The outstanding request that an answer belongs to: ETAG, kind, and a GEN that is the partition's own (R129). An answer
to a request that was outstanding when the port was lost is discarded (R59). -/
def State.ansReq (s : State) (e : InEnt) (k : EKind) : Option EReq :=
  let g := e.pkt.h.gen.toNat
  s.mv.ereq.find? (fun r => r.tagged e.port (e.pkt.h.tag.toNat % 256) && decide (r.kind = k ∧ r.gen = g) && !r.lost
    && decide (g = s.gen (portPart e.port)))
/-- An answer ends its request, with the data it brings where its code is OK (R133). -/
def State.answer (s : State) (e : InEnt) (k : EKind) (code : Nat) (data : EReq → List Byte) : State :=
  match s.ansReq e k with
  | some r => s.ereqEnd r (e.pkt.h.tag.toNat % 256) (if code = 0 then data r else []) (if code = 0 then none else some (ansStatus code))
  | none => s

/-- A read answer: a frame whose end-to-end CRC holds and that has as many bytes as were asked for (R253, R263). -/
def State.rdAns (s : State) (e : InEnt) : State :=
  let code := nfld e.pkt.ext.toNat 0 4
  let fits : Bool := match s.ansReq e .rd with | some r => decide (code ≠ 0 ∨ e.pkt.pay.length = r.len) | none => false
  if e.pkt.e2e = e.pkt.e2eOf ∧ fits then s.answer e .rd code (fun _ => e.pkt.pay) else s
/-- RD_ANS_RX (R129, R133). -/
def execRdAnsRx (s : State) : Host.Outcome State Fault Refusal := .next (s.onLive (s.rxRow (pktOpc opRDANS) State.rdAns))
/-- The answer code of a WR_ANS or AT_ANS cell (R259). -/
def Pkt.ansCode (p : Pkt) : Nat := bytesNat (p.pay.take 1) % 16
/-- WR_ANS_RX (R131, R133). -/
def execWrAnsRx (s : State) : Host.Outcome State Fault Refusal :=
  .next (s.onLive (s.rxRow (pktOpc opWRANS) (fun s e => s.answer e .wr e.pkt.ansCode (fun _ => []))))
/-- AT_ANS_RX (R132, R133): the old value comes back. -/
def execAtAnsRx (s : State) : Host.Outcome State Fault Refusal :=
  .next (s.onLive (s.rxRow (pktOpc opATANS) (fun s e =>
    s.answer e .at' e.pkt.ansCode (fun r => Machine.slice e.pkt.pay 8 r.len))))

/-- EDGE_REQUEST_TIMEOUT (R134): no answer 4 µs after the request was sent. -/
def State.edgeLate (s : State) (c e : Nat) : State :=
  match s.mv.ereq.find? (EReq.tagged c e) with
  | some r =>
    match r.sent with
    | some t => if s.due t (us 4) then s.ereqEnd r e [] (some stTGTTO) else s
    | none => s
  | none => s
def execEdgeRequestTimeout (port etag : Nat) (s : State) : Host.Outcome State Fault Refusal :=
  ifWf (Instr.wf (.edgeRequestTimeout port etag)) (s.onLive (s.edgeLate port etag))

/-- ETAG_REUSE_TIMER (R130): 8 µs. -/
def State.etagFree (s : State) (c e : Nat) : State :=
  { s with mv := { s.mv with cool := s.mv.cool.filter (fun x => !(decide (x.1 = c ∧ x.2.1 = e) && s.due x.2.2 (us 8))) } }
def execEtagReuseTimer (port etag : Nat) (s : State) : Host.Outcome State Fault Refusal :=
  ifWf (Instr.wf (.etagReuseTimer port etag)) (s.onLive (s.etagFree port etag))

end Sys2Proof.Machine
end

