-- ==== Sys2Proof/Machine/EpochRows.lean ====
section
/-! DEFINITION. The rows of the epoch swap (spec/10_routing.md R365 to R368). -/

namespace Sys2Proof.Machine

/-! ### Requests at a node (R366) -/

/-- An EPOCH_CTL cell with PHASE `k`. -/
def epochIs (k : Nat) (p : Pkt) : Bool := decide (p.opc = opEPOCHCTL ∧ bytesNat (slice p.pay 0 1) = k)
/-- A reply to EPOCH_CTL (R365): TARGET and ROUND are those of the request. -/
def State.epochReply (s : State) (p : Pkt) (rcode seen old : Nat) : State :=
  let b (o n : Nat) : Nat := bytesNat (slice p.pay o n)
  s.inject (s.servePart 0)
    (s.epochCell (epNode p.h.src.toNat) (epochPay (b 0 1 + 0x80) (b 1 1) rcode seen old (b 8 2) (b 10 2))) none
/-- PHASE of DX_ROUTE_CTL, and whether COORD is the coordinating node that a request names. -/
def State.swPhase (s : State) : Nat := s.fld .routeCtl routeCtl_PHASE
def State.swMine (s : State) (p : Pkt) : Bool := decide (s.fld .routeCtl routeCtl_COORD = bytesNat (slice p.pay 10 2) % 4096)
/-- Do the live epochs agree with a target: in PREPARED it is the epoch not yet active, in SWITCHED the active one with the
other still live (log entry 97)? -/
def State.liveAgrees (s : State) (target : Nat) : Bool :=
  if s.swPhase = 1 then decide (s.active ≠ target ∧ s.fld .routeCtl routeCtl_OLDLIVE = 0)
  else decide (s.active = target ∧ s.fld .routeCtl routeCtl_OLDLIVE = 1)

/-- PREPARE (R366). -/
def State.swPrepare (s : State) (e : InEnt) : State :=
  let p := e.pkt
  let target := bytesNat (slice p.pay 1 1)
  let r (q : Pos) : Nat := s.fld .routeCtl q
  if r routeCtl_EN = 1 ∧ r routeCtl_LOADED = 1 ∧ s.active ≠ target ∧ target < 2 ∧ r routeCtl_OLDLIVE = 0 ∧ s.swPhase = 0 then
    State.epochReply ((s.setFld .routeCtl routeCtl_PHASE 1).setFld .routeCtl routeCtl_COORD (bytesNat (slice p.pay 10 2) % 4096)) p 0 0 0
  else if s.swPhase ≠ 0 ∧ s.swMine p ∧ s.liveAgrees target then s.epochReply p 0 0 0
  else if s.swPhase ≠ 0 ∧ !s.swMine p then s.epochReply p 2 0 0
  else s.epochReply p 1 0 0
/-- SWITCH (R366). -/
def State.swSwitch (s : State) (e : InEnt) : State :=
  let p := e.pkt
  if s.swPhase = 0 ∨ !s.swMine p then s.epochReply p 1 0 0
  else if s.swPhase = 1 then
    let s1 := s.setFld .routeCtl routeCtl_ACTIVE (bytesNat (slice p.pay 1 1))
    ((s1.setFld .routeCtl routeCtl_OLDLIVE 1).setFld .routeCtl routeCtl_PHASE 2).epochReply p 0 0 0
  else s.epochReply p 0 0 0
/-- POLL (R366): SEEN is read and cleared in one access. -/
def State.swPoll (s : State) (e : InEnt) : State :=
  let p := e.pkt
  if s.swPhase ≠ 2 ∨ !s.swMine p then s.epochReply p 1 0 0
  else
    let seen := s.fld .epochCnt epochCnt_SEEN
    (s.setFld .epochCnt epochCnt_SEEN 0).epochReply p 0 seen (min s.oldCount (2 ^ 32 - 1))
/-- RETIRE (R366). -/
def State.swRetire (s : State) (e : InEnt) : State :=
  let p := e.pkt
  if s.swPhase ≠ 2 ∨ !s.swMine p then s.epochReply p 1 0 0
  else
    let s1 := (s.setFld .routeCtl routeCtl_OLDLIVE 0).setFld .routeCtl routeCtl_LOADED 0
    ((s1.setFld .routeCtl routeCtl_PHASE 0).setFld .routeCtl routeCtl_COORD 0).epochReply p 0 0 0

/-- EPOCH_CTL_PREPARE. -/
def execEpochCtlPrepare (s : State) : Host.Outcome State Fault Refusal :=
  .next (s.onLive (s.rxRow (epochIs epPREPARE) State.swPrepare))
/-- EPOCH_CTL_SWITCH. -/
def execEpochCtlSwitch (s : State) : Host.Outcome State Fault Refusal :=
  .next (s.onLive (s.rxRow (epochIs epSWITCH) State.swSwitch))
/-- EPOCH_CTL_POLL. -/
def execEpochCtlPoll (s : State) : Host.Outcome State Fault Refusal :=
  .next (s.onLive (s.rxRow (epochIs epPOLL) State.swPoll))
/-- EPOCH_CTL_RETIRE. -/
def execEpochCtlRetire (s : State) : Host.Outcome State Fault Refusal :=
  .next (s.onLive (s.rxRow (epochIs epRETIRE) State.swRetire))

/-! ### The coordinating node (R367, R368) -/

/-- EPOCH_CTL_REPLY_RX: any other PHASE is a reply, or answers no request and is discarded. -/
def execEpochCtlReplyRx (s : State) : Host.Outcome State Fault Refusal :=
  .next (s.onLive (s.rxRow
    (fun p => decide (p.opc = opEPOCHCTL) && !decide (bytesNat (slice p.pay 0 1) ∈ [epPREPARE, epSWITCH, epPOLL, epRETIRE]))
    (fun s e => s.swapReply e.pkt)))
/-- EPOCH_CTL_TIMEOUT (R368). -/
def execEpochCtlTimeout (node : Nat) (s : State) : Host.Outcome State Fault Refusal :=
  ifWf (Instr.wf (.epochCtlTimeout node)) (s.onLive (s.swapLate node))
/-- SWAP_DRAIN_LIMIT (R368). -/
def execSwapDrainLimit (s : State) : Host.Outcome State Fault Refusal := .next (s.onLive s.swapLimit)

end Sys2Proof.Machine
end

