-- ==== Sys2Proof/Machine/Pace.lean ====
section
/-! DEFINITION. The pace governor: droop, power, temperature, wear and the replica (spec/13_timing_power.md R429 to R443,
spec/01_boundary.md R47 to R49). -/

namespace Sys2Proof.Machine

/-! ### The pace level -/

/-- The power demand reaches every partition that is not dormant, and LIMIT (R435). -/
def State.powerDemand (s : State) (d : Nat) : State :=
  let s1 := { s with pw := { s.pw with demand := d } }
  let s2 := s1.setFld .pwrStat pwrStat_LIMIT (decide (0 < d)).toNat
  (List.range 6).foldl (fun s n => if s.dormant n then s else s.setDemand n paceStat_SPWR d) s2

/-! ### Droop -/

/-- DROOP_TRIP (R430): DROOPS counts it, and the droop demand is at least DSTEP. That of a dormant partition is ignored
(R49): only the sensor's level is kept. -/
def State.droopTrip (s : State) (k : Nat) : State :=
  let n := k / 4
  let level (p : Part) : Part := { p with trips := p.trips ++ [(k, s.now)] }
  if (s.part n).trips.any (fun x => x.1 = k) then s
  else if s.dormant n then s.setPart n level
  else
    let s1 := (s.count (.paceStat n) paceStat_DROOPS 1).setPart n level
    s1.setDemand n paceStat_SDROOP (max (s1.fld (.paceStat n) paceStat_SDROOP) (s1.fld .paceCfg paceCfg_DSTEP))
def execDroopTrip (k : Nat) (s : State) : Host.Outcome State Fault Refusal :=
  ifWf (Instr.wf (.droopTrip k)) (s.onPower (s.droopTrip k))

/-- DROOP_CLEAR (R431): with the last one clear, the hold starts. -/
def State.droopClear (s : State) (k : Nat) : State :=
  if (s.part (k / 4)).trips.any (fun x => x.1 = k) then
    s.setPart (k / 4) (fun p =>
      let l := p.trips.filter (fun x => x.1 ≠ k)
      { p with trips := l, stuck := p.stuck.filter (fun x => x ≠ k)
               dClearAt := if l.isEmpty then s.now else p.dClearAt })
  else s
def execDroopClear (k : Nat) (s : State) : Host.Outcome State Fault Refusal :=
  ifWf (Instr.wf (.droopClear k)) (s.onPower (s.droopClear k))

/-- Has the descent begun: since the last trip cleared, DHOLD has expired? -/
def Part.descends (p : Part) : Bool := p.trips.isEmpty && decide (p.dClearAt < p.dStepAt)

/-- DROOP_HOLD_EXPIRY (R431): DHOLD, in units of 10 ns, has passed; the descent begins. -/
def State.droopHold (s : State) (n : Nat) : State :=
  let p := s.part n
  if p.trips.isEmpty && !p.descends && decide (0 < s.fld (.paceStat n) paceStat_SDROOP)
      && s.due p.dClearAt (ns (10 * s.fld .paceCfg paceCfg_DHOLD)) then
    s.setPart n (fun p => { p with dStepAt := s.now })
  else s
def execDroopHoldExpiry (n : Nat) (s : State) : Host.Outcome State Fault Refusal :=
  ifWf (Instr.wf (.droopHoldExpiry n)) (s.onLive (s.droopHold n))

/-- DROOP_DESCENT_STEP (R431): one level every 50 ns. -/
def State.droopStep (s : State) (n : Nat) : State :=
  let p := s.part n
  let d := s.fld (.paceStat n) paceStat_SDROOP
  if p.descends && decide (0 < d) && s.due p.dStepAt (ns 50) then
    (s.setPart n (fun p => { p with dStepAt := p.dStepAt + ns 50 })).setDemand n paceStat_SDROOP (d - 1)
  else s
def execDroopDescentStep (n : Nat) (s : State) : Host.Outcome State Fault Refusal :=
  ifWf (Instr.wf (.droopDescentStep n)) (s.onLive (s.droopStep n))

/-- DROOP_STUCK (R48): a trip held for more than 1 ms counts one event; the demand stays while it is held. -/
def State.droopStuck (s : State) (k : Nat) : State :=
  let n := k / 4
  if !s.dormant n && !(s.part n).stuck.contains k && (s.part n).trips.any (fun x => decide (x.1 = k) && s.due x.2 (ms 1)) then
    (s.setPart n (fun p => { p with stuck := k :: p.stuck })).event n 0x28 ⟨sySENS, k⟩
  else s
def execDroopStuck (k : Nat) (s : State) : Host.Outcome State Fault Refusal :=
  ifWf (Instr.wf (.droopStuck k)) (s.onLive (s.droopStuck k))

/-! ### Temperature -/

/-- THERMAL_READING: TEMP, MAX, and how long the sensor has read TCRIT or more (R439). A reading ends staleness (R47). -/
def State.thermRead (s : State) (m : Nat) (v : BitVec 16) : State :=
  if s.dormant (m / 2) then s
  else
    let r := s.reg (.therm m)
    let r1 := fset (fset r therm_STALE 0) therm_TEMP v.toNat
    let r2 := if sext 16 (fget r therm_MAX) < sext 16 v.toNat then fset r1 therm_MAX v.toNat else r1
    let s1 := s.setReg (.therm m) r2
    let t := (s.therms[m]?).getD { lastAt := 0, hotAt := none }
    let hot := if s1.critical m then some (t.hotAt.getD s.now) else none
    { s1 with therms := s1.therms.setIfInBounds m { lastAt := s.now, hotAt := hot } }
def execThermalReading (m : Nat) (reading : BitVec 16) (s : State) : Host.Outcome State Fault Refusal :=
  ifWf (Instr.wf (.thermalReading m reading)) (s.onPower (s.thermRead m reading))

/-- THERMAL_STALE (R47): no reading for 100 µs; one event. DESIGN CHOICE (log entry 104): for a sensor that has not delivered one since
power-up, or since its partition woke, the 100 µs run from there. -/
def State.thermStale (s : State) (m : Nat) : State :=
  let t := (s.therms[m]?).getD { lastAt := 0, hotAt := none }
  if !s.dormant (m / 2) && decide (s.fld (.therm m) therm_STALE = 0) && s.due t.lastAt (us 100) then
    let s1 := s.setFld (.therm m) therm_STALE 1
    let s2 : State := { s1 with therms := s1.therms.setIfInBounds m { t with hotAt := none } }
    s2.event (m / 2) 0x29 ⟨sySENS, 24 + m⟩
  else s
def execThermalStale (m : Nat) (s : State) : Host.Outcome State Fault Refusal :=
  ifWf (Instr.wf (.thermalStale m)) (s.onLive (s.thermStale m))

/-- The hottest reading of a partition's two sensors, in units of 0.25 °C. -/
def State.hottest (s : State) (n : Nat) : Int := max (s.temp (2 * n)) (s.temp (2 * n + 1))

/-- THERMAL_DEMAND_STEP (R438): one level every 100 µs, with 2 °C between rise and fall. -/
def State.thermStep (s : State) (n : Nat) : State :=
  if !s.dormant n && s.due (s.part n).thermAt (us 100) then
    let w : Int := 4 * s.fld .paceCfg paceCfg_TWARN
    let d := s.fld (.paceStat n) paceStat_STHERM
    let d1 := if w ≤ s.hottest n then min 8 (d + 1) else if s.hottest n < w - 8 then d - 1 else d
    (s.setPart n (fun p => { p with thermAt := s.now })).setDemand n paceStat_STHERM d1
  else s
def execThermalDemandStep (n : Nat) (s : State) : Host.Outcome State Fault Refusal :=
  ifWf (Instr.wf (.thermalDemandStep n)) (s.onLive (s.thermStep n))

/-- THERMAL_CRITICAL (R439): 1 ms of readings of TCRIT or more from a sensor that is not stale. The next 1 ms counts
anew. -/
def State.thermCritical (s : State) (m : Nat) : State :=
  let n := m / 2
  match (s.therms[m]?).bind (fun t => t.hotAt) with
  | some h =>
    if s.due h (ms 1) && decide (s.fld (.therm m) therm_STALE = 0) && !s.asleep n && decide (s.pstate n ≠ ptOOS) then
      let s1 : State := { s with therms := s.therms.setIfInBounds m { ((s.therms[m]?).getD { lastAt := 0, hotAt := none }) with
        hotAt := some s.now } }
      s1.event n 0x2B ⟨syPART, n⟩
    else s
  | none => s
def execThermalCritical (m : Nat) (s : State) : Host.Outcome State Fault Refusal :=
  ifWf (Instr.wf (.thermalCritical m)) (s.onLive (s.thermCritical m))

/-! ### Power -/

/-- Microseconds in the surge window (R433). -/
abbrev surgeWindow : Nat := 1000000

/-- The newest `k` microseconds of a list of runs. -/
def keepRuns : Nat → List (Bool × Nat) → List (Bool × Nat)
  | _, [] => []
  | k, (b, l) :: t => if k ≤ l then (if k = 0 then [] else [(b, k)]) else (b, l) :: keepRuns (k - l) t
/-- One more microsecond in a list of runs, newest first. -/
def pushRun (b : Bool) : List (Bool × Nat) → List (Bool × Nat)
  | (c, l) :: t => if b = c then (c, l + 1) :: t else (b, 1) :: (c, l) :: t
  | [] => [(b, 1)]
/-- Microseconds whose estimate exceeded PSUS. -/
def surgeOf (l : List (Bool × Nat)) : Nat := sumBy (fun x => if x.1 then x.2 else 0) l

/-- The cap in force (R434). -/
def State.cap (s : State) : Nat :=
  if s.fld .pwrStat pwrStat_CAPPED = 1 then s.fld .paceCfg paceCfg_PSUS else s.fld .paceCfg paceCfg_PSUR

/-- CAPPED follows SURGE (R434). -/
def State.capStep (s : State) (surge : Nat) : State :=
  if s.fld .pwrStat pwrStat_CAPPED = 0 then
    if 250000 ≤ surge then (s.setFld .pwrStat pwrStat_CAPPED 1).count .pwrStat pwrStat_CAPS 1 else s
  else if surge ≤ 200000 then s.setFld .pwrStat pwrStat_CAPPED 0 else s

/-- POWER_ESTIMATE: the estimate, every 1 µs. A change of CAPPED takes effect at the next one (R435). -/
def State.powerEst (s : State) (w : Nat) : State :=
  let cap := s.cap
  let win := keepRuns surgeWindow (pushRun (decide (s.fld .paceCfg paceCfg_PSUS < w)) s.pw.win)
  let s1 : State := { s with pw := { s.pw with win, lowAt := if cap < w + 5 then s.now else s.pw.lowAt } }
  let s2 := (s1.setFld .pwrStat pwrStat_EST w).high .pwrStat pwrStat_PEAK w
  let s3 := (s2.setFld .pwrStat pwrStat_SURGE (surgeOf win)).capStep (surgeOf win)
  if cap < w then
    if s3.pw.demand = 7 then { s3.powerDemand 8 with pw := { (s3.powerDemand 8).pw with heldAt := s.now, rep := false } }
    else s3.powerDemand (min 8 (s3.pw.demand + 1))
  else s3
def execPowerEstimate (x : PowerMeas) (s : State) : Host.Outcome State Fault Refusal :=
  .next (s.onLive (State.powerEst { s with volt := x.mv.toNat } x.watts.toNat))

/-- POWER_DEMAND_LOWER (R435). -/
def State.powerLower (s : State) : State :=
  if 0 < s.pw.demand ∧ s.due s.pw.lowAt (us 10) then
    let s1 : State := { s with pw := { s.pw with lowAt := s.now } }
    s1.powerDemand (s1.pw.demand - 1)
  else s
def execPowerDemandLower (s : State) : Host.Outcome State Fault Refusal := .next (s.onLive s.powerLower)

/-- POWER_DEMAND_HELD (R436): reported once while the demand stays at 8. -/
def State.powerHeld (s : State) : State :=
  if s.pw.demand = 8 ∧ ¬ s.pw.rep ∧ s.due s.pw.heldAt (us 100) ∧ s.cap < s.fld .pwrStat pwrStat_EST then
    ({ s with pw := { s.pw with rep := true } } : State).blockEvent 0x2A ⟨syPART, 6⟩
  else s
def execPowerDemandHeld (s : State) : Host.Outcome State Fault Refusal := .next (s.onLive s.powerHeld)

/-! ### Wear and the replica -/

/-- The wear factor at a temperature in units of 0.25 °C (R440). -/
def wearFactor (t : Int) : Nat := if t ≤ 340 then 1 else if t ≤ 380 then 2 else if t ≤ 420 then 4 else 8

/-- One second of wear of Pn, if it runs (R440, R442). -/
def State.wearPart (s : State) (n : Nat) : State :=
  if s.runs n && s.due (s.part n).wearAt (ms 1000) then
    ((s.setPart n (fun p => { p with wearAt := s.now })).count (.wear n) wear_EQS (wearFactor (s.hottest n))).wearFlags n
  else s
/-- WEAR_TICK. -/
def execWearTick (s : State) : Host.Outcome State Fault Refusal :=
  .next (s.onLive ((List.range 6).foldl State.wearPart s))

/-- REPLICA_MEASURE (R443), every 1 ms. -/
def State.replica (s : State) (n : Nat) (ps : Nat) : State :=
  if !s.asleep n && s.due (s.part n).measAt (ms 1) then
    let s1 := (s.setPart n (fun p => { p with measAt := s.now })).setFld (.paceStat n) paceStat_MEAS ps
    if 850 < ps ∧ s1.hottest n ≤ 440 ∧ (s1.part n).trips = [] then
      (s1.setFld (.paceStat n) paceStat_PSLOW 1).event n 0x2C ⟨syPART, n⟩
    else s1
  else s
def execReplicaMeasure (n : Nat) (ps : BitVec 16) (s : State) : Host.Outcome State Fault Refusal :=
  ifWf (Instr.wf (.replicaMeasure n ps)) (s.onLive (s.replica n ps.toNat))

end Sys2Proof.Machine
end

