-- ==== Sys2Proof/Machine/Resets.lean ====
section
/-! DEFINITION. The rows of power, reset lines and the partition reset sequence (spec/01_boundary.md R41 to R53,
spec/12_deep_store.md R412 and R413, spec/15_recovery.md R490 to R505, spec/17_management.md R559). -/

namespace Sys2Proof.Machine

/-- The state with every field at its reset value and nothing held (R17): what stays is outside the block (its lines,
window-enable, the time reference), the deep store's contents (R414) and the model's own fields. -/
def State.cold (s : State) (on : Bool) : State :=
  { State.reset with
    pending := s.pending
    now := s.now
    free := s.free
    ids := s.ids
    out := s.out
    powered := on
    volt := if on then nominalMv else 0
    winEn := s.winEn
    blkOn := s.blkOn
    blkAt := s.blkAt
    parts := s.parts.map (fun p => { Part.init with lineOn := p.lineOn, lineAt := p.lineAt })
    therms := Vector.replicate 12 { lastAt := s.now, hotAt := none }
    st := { s.st with lines := [], reqs := [] }
    ft := { FTime.init with tref := s.ft.tref, lostAt := s.now }
    mg := { Mgmt.init with lastHb := s.now, hbAt := s.now } }

/-- The mirror buffer is written from the tables as they stand (R402, R413, R559): zeros, which every reset value of a
mirrored table but DX_SQUOTA is, and what differs. -/
def State.mirrorAll (s : State) : State :=
  let s1 := { s with st := s.st.clearTiles 0xF000 0x10000 }
  let s2 := s1.setMirror (fun m => { m with pend := [] })
  let s3 := (s2.regs.map (fun x => x.1)).foldl (fun s a => match Reg.ofAddr a with
    | some r => s.mirror r
    | none => s) s2
  (List.range 64).foldl (fun s i => s.mirror (.squota i)) s3

/-- A signal on all 18 ports. -/
def State.allPorts (s : State) (o : Nat → Out) : State := { s with out := s.out ++ (List.range 18).map o }

/-- An unpowered block is powered: every field at its reset value (R17), every port in electrical idle (R53), and the partition
domains enabled with the block domain at its nominal supply (R52, log entry 105). -/
def State.blockPowerOn (s : State) : State := if s.powered then s else (s.cold true).allPorts Out.quiet

/-- BLOCK_POWER_UP (R52, R413): the system areas are still to be zeroed. -/
def execBlockPowerUp (s : State) : Host.Outcome State Fault Refusal := .next s.blockPowerOn

/-- BLOCK_POWER_OFF (R17): transmitters are undriven (R55). -/
def execBlockPowerOff (s : State) : Host.Outcome State Fault Refusal :=
  .next ((s.cold false).allPorts Out.off)

/-! ### Block reset (R46, R412, R559) -/

/-- A dump that a block reset stops: STATE 4 is written at once (R489). -/
def State.dumpStopped (s : State) : State :=
  match s.mg.dump with
  | some d => { s with st := s.st.writeSys (slotAddr d.slot) (dumpWord0 4 d.part (s.gen d.part) d.code d.seq) }
  | none => s

/-- Write-throughs in flight are finished (R412); every other request is cancelled. -/
def State.storeReset (s : State) : State :=
  let st := (s.st.reqs.filter (fun r => r.thru)).foldl (fun (m : Store) r => m.writeTile r.tile r.lo r.data) s.st
  let s1 := ({ s with st }).cancelReqs (fun _ => true)
  { s1 with st := { s1.st with lines := [] } }

/-- The registers and counters of a partition at the take of a block reset: counted, not in RWIN (R501), held. -/
def State.partTaken (s : State) (n : Nat) : State :=
  let s1 := (s.count (.rcvStat n) rcvStat_RESETS 1).setFld (.rcvStat n) rcvStat_LASTCODE 0xFE
  let s2 := s1.setFld (.rcvStat n) rcvStat_PSTATE ptHELD
  s2.setPart n (fun p => { p with
    rst := true, gened := false, cleared := false, thermOos := false, wasOos := false, cause := 0xFE, causeSeq := 0
    stalled := none, suspects := [], frozen := [], defer := [], fenced := [], short := [], gate := false
    lineTaken := p.lineOn, lineVoid := false, trips := p.trips.map (fun x => (x.1, s.now)), stuck := []
    dStepAt := s.now, thermAt := s.now })

/-- The take of a block reset (R46, R56, R412, R560): every port falls silent, everything held is gone, and every field not
kept through B takes its reset value. -/
def State.blockTake (s : State) : State :=
  let s1 := (List.range 18).foldl (fun s c => if s.pst c = psOFF then s else s.silence c psOFF) s
  let s2 := s1.dumpStopped.storeReset
  let used := s2.mv.ereq.filterMap (fun r => r.etag.map (fun e => (r.port, e, s2.now)))
  let s3 := s2.retain .blockReset (fun _ => true)
  let s4 : State := { s3 with
    blkRun := true
    evq := []
    links := Vector.replicate 18 Link.init
    lanes := s3.lanes.map (fun l => { l with mode := 0, inj := 0, aligned := false })
    funits := Vector.replicate 7 FUnit.init
    sw := Switch.init
    tp := Transport.init
    mv := { Moves.init with cool := s3.mv.cool ++ used }
    gals := []
    sec := Sec.init
    mg := { Mgmt.init with lastHb := s3.now, hbAt := s3.now }
    ft := { FTime.init with tref := s3.ft.tref, lost := s3.ft.lost, lostAt := s3.ft.lostAt, setNow := false }
    pw := Power.init
    sdb := { acc := none, goAt := 0, queue := [] }
    crcRun := [] }
  (List.range 6).foldl (fun s n => ((s.partTaken n).enable n).tripDemand n) s4

/-- An assertion of the block line that has lasted 20 ns is taken (R42). Time passes only in the tick of `step`, which
calls this (log entry 2). -/
def State.blockLineDue (s : State) : State :=
  if s.powered && s.blkOn && !s.blkRun && s.due s.blkAt (ns 20) then s.atOnce s.blockTake else s

/-- BLOCK_RESET_ASSERT (R42, R46): the assertion starts; one that reaches 20 ns is taken. -/
def execBlockResetAssert (s : State) : Host.Outcome State Fault Refusal :=
  .next (if s.blkOn then s else State.blockLineDue { s with blkOn := true, blkAt := s.now })

/-- BLOCK_RESET_RELEASE (R42, R46): a taken reset goes on; an assertion shorter than 20 ns counts as a glitch. -/
def execBlockResetRelease (s : State) : Host.Outcome State Fault Refusal :=
  let s1 := s.blockLineDue
  let s2 : State := { s1 with blkOn := false }
  .next (if !s.blkOn then s
    else if s1.blkRun || !s.powered then s2
    else s.after (s2.blockEvent 0x31 ⟨syPART, 6⟩))

/-- Does a line hold its partition in reset (R43)? One asserted during a block reset has no effect (R46). -/
def Part.lineHolds (p : Part) : Bool := p.lineOn && !p.lineVoid

/-- BLOCK_RESET_COMPLETE (R412, R559): the spill and region-table areas are zeros, the mirror buffer is rewritten, and each
partition whose own line does not hold it (R43) goes on to CLEARING. -/
def State.blockDone (s : State) : State :=
  let s1 : State := { s with st := s.st.clearTiles 0xC000 0xF000, blkRun := false }
  let s2 := s1.mirrorAll
  (List.range 6).foldl (fun s n => if (s.part n).lineHolds then s else s.setFld (.rcvStat n) rcvStat_PSTATE ptCLEARING) s2

/-- BLOCK_RESET_COMPLETE: after the release of the line. -/
def execBlockResetComplete (s : State) : Host.Outcome State Fault Refusal :=
  .next (if s.powered && s.blkRun && !s.blkOn then s.after s.blockDone else s)

/-! ### Partition lines (R41 to R45) -/

/-- PARTITION_RESET_ASSERT. During a block reset it has no further effect (R46). -/
def execPartitionResetAssert (n : Nat) (s : State) : Host.Outcome State Fault Refusal :=
  ifWf (Instr.wf (.partitionResetAssert n))
    (s.setPart n (fun p => if p.lineOn then p else { p with lineOn := true, lineAt := s.now, lineTaken := s.blkRun, lineVoid := s.blkRun }))

/-- PARTITION_RESET_LINE_TAKE: an assertion has lasted 20 ns. -/
def State.lineTake (s : State) (n : Nat) : State :=
  let p := s.part n
  if p.lineOn && !p.lineTaken && s.due p.lineAt (ns 20) then
    (s.setPart n (fun p => { p with lineTaken := true })).resetLine n
  else s
def execPartitionResetLineTake (n : Nat) (s : State) : Host.Outcome State Fault Refusal :=
  ifWf (Instr.wf (.partitionResetLineTake n)) (s.onLive (s.lineTake n))

/-- The release of a partition line (R42, R43): a taken reset goes on; a shorter assertion counts as a glitch. -/
def State.lineRelease (s : State) (n : Nat) : State :=
  if !(s.part n).lineOn then s
  else
    let s1 := s.lineTake n
    let taken := (s1.part n).lineTaken
    let s2 := s1.setPart n (fun p => { p with lineOn := false, lineTaken := false, lineVoid := false })
    if !taken then s2.blockEvent 0x31 ⟨syPART, 6⟩
    else if s2.pstate n = ptHELD then s2.setFld (.rcvStat n) rcvStat_PSTATE ptCLEARING
    else s2
/-- PARTITION_RESET_RELEASE. -/
def execPartitionResetRelease (n : Nat) (s : State) : Host.Outcome State Fault Refusal :=
  ifWf (Instr.wf (.partitionResetRelease n))
    (if s.powered && !s.blkRun then s.after (s.lineRelease n)
    else s.setPart n (fun p => { p with lineOn := false, lineTaken := false, lineVoid := false }))

/-! ### The sequence of a partition reset (R490) -/

/-- PARTITION_CLEAR: steps 3 and 4, in an enabled domain (R45, R52). -/
def execPartitionClear (n : Nat) (s : State) : Host.Outcome State Fault Refusal :=
  ifWf (Instr.wf (.partitionClear n))
    (s.onLive (if s.pstate n = ptCLEARING ∧ !(s.part n).cleared ∧ (s.voltOk ∨ !(s.part n).dark) then s.clearStep n else s))

/-- Step 5 (R490, R495, R501 to R503): Pn is ready and its ports train, or it goes out of service. -/
def State.partRelease (s : State) (n : Nat) : State :=
  let oos := s.endsOos n
  let s1 := s.setPart n (fun p => { p with rst := false, cleared := false, wasOos := false, thermOos := false })
  if oos then s1.setFld (.rcvStat n) rcvStat_PSTATE ptOOS
  else ((s1.setFld (.rcvStat n) rcvStat_PSTATE ptRUN).deferred n).trainPorts (partPorts n)
/-- PARTITION_READY. -/
def execPartitionReady (n : Nat) (s : State) : Host.Outcome State Fault Refusal :=
  ifWf (Instr.wf (.partitionReady n))
    (s.onLive (if s.pstate n = ptCLEARING ∧ (s.part n).cleared ∧ s.genRested n then s.partRelease n else s))

/-- RESET_WINDOW_EXPIRY (R501): the oldest reset leaves the window of ESCW seconds. -/
def execResetWindowExpiry (n : Nat) (s : State) : Host.Outcome State Fault Refusal :=
  ifWf (Instr.wf (.resetWindowExpiry n)) (s.onLive (match (s.part n).resetAt with
    | t :: l => if s.due t (ms (1000 * s.fld .hangCfg hangCfg_ESCW)) then (s.setPart n (fun p => { p with resetAt := l })).rwin n else s
    | [] => s))

/-! ### Window-enable (R36, R38, R480) -/

/-- WINDOW_ENABLE_CHANGE. -/
def execWindowEnableChange (on : Bool) (s : State) : Host.Outcome State Fault Refusal := .next { s with winEn := on }

end Sys2Proof.Machine
end

