-- ==== Sys2Proof/Machine/FabricTime.lean ====
section
/-! DEFINITION. The fabric time unit: the time reference, TIME_SYNC, and the passing of time (spec/13_timing_power.md R445
to R452 and R578, spec/01_boundary.md R51, spec/11_congestion.md R396). -/

namespace Sys2Proof.Machine

/-- Change the fabric time unit. -/
def State.setFt (s : State) (f : FTime → FTime) : State := { s with ft := f s.ft }
/-- Synchronisation states (R451). -/
abbrev fsFREE : Nat := 0
abbrev fsACQUIRE : Nat := 1
abbrev fsLOCKED : Nat := 2
abbrev fsHOLDOVER : Nat := 3
/-- The synchronisation state. -/
def State.fts (s : State) : Nat := s.fld .ftStat ftStat_STATE

/-! ### The time reference -/

/-- TREF_LOSS (R51): TREF_LOSS is set, fabric time stops, one event. -/
def State.trefLoss (s : State) : State :=
  if s.ft.lost then s
  else
    let s1 := s.setFt (fun t => { t with tref := false, lost := true, lostAt := s.now })
    s1.blockEvent 0x34 ⟨syUNIT, 6⟩
def execTrefLoss (s : State) : Host.Outcome State Fault Refusal :=
  .next (if s.powered then s.onPower s.trefLoss else s.setFt (fun t => { t with tref := false, lostAt := s.now }))

/-- TREF_RETURN (R51, R451): the counter goes on from the value it held, and a node that synchronises acquires again. What
the copies aged by meanwhile stays (R331). -/
def State.trefReturn (s : State) : State :=
  if s.ft.tref then s
  else
    let s1 := s.setFt (fun t => { t with
      tref := true, lost := false, aged := t.aged + (if t.lost then s.now - t.lostAt else 0), good := 0 })
    if s1.fts = fsFREE then s1 else s1.setFld .ftStat ftStat_STATE fsACQUIRE
def execTrefReturn (s : State) : Host.Outcome State Fault Refusal :=
  .next (if s.powered then s.onPower s.trefReturn else s.setFt (fun t => { t with tref := true, lost := false }))

/-! ### TIME_SYNC -/

/-- May the parent's port carry a request: in UP and not PEERBAD (R447)? -/
def State.parentOk (s : State) (c : Nat) : Bool := s.up c && !s.peerBad c
/-- The port a request leaves on: PARENT, or ALT in its place. -/
def State.syncPort (s : State) : Nat :=
  let p := s.fld .ftCfg ftCfg_PARENT
  let a := s.fld .ftCfg ftCfg_ALT
  if s.parentOk p then p else if a = 31 then p else a
/-- The payload of TIME_SYNC (R448). -/
def syncPay (kind seq stratum t1 t2 : Nat) : List Byte :=
  natBytes 1 kind ++ natBytes 1 seq ++ natBytes 1 stratum ++ zeros 5 ++ natBytes 8 t1 ++ natBytes 8 t2 ++ zeros 24
/-- A TIME_SYNC cell for the peer of port `c` (R447): class MGT, HOP 0, to the peer's management endpoint. -/
def State.syncCell (s : State) (c : Nat) (pay : List Byte) : Pkt :=
  mkCell (s.hdr (s.ep 14) (16 * s.fld (statReg c) portStat_PEER + 14) 0 clMGT 0 opTIMESYNC 0 0 0) pay
/-- The stratum a node answers with: 0xFF until its counter has been set after a block reset (R578). -/
def State.ownStratum (s : State) : Nat := if s.ft.setNow then s.fld .ftStat ftStat_STRATUM else 0xFF

/-- TIME_SYNC_TIMER (R447): a request every 10 µs; one still unused counts in MISS. -/
def State.syncRequest (s : State) : State :=
  let p := s.fld .ftCfg ftCfg_PARENT
  if s.fld .ftCfg ftCfg_EN = 1 ∧ 12 ≤ p ∧ p ≤ 17 ∧ s.due s.ft.sendAt (us 10) then
    let c := s.syncPort
    let s1 := if s.ft.req.isSome then s.count .ftStat ftStat_MISS 1 else s
    let q := (s.ft.seq + 1) % 256
    let s2 := s1.setFt (fun t => { t with seq := q, req := some (q, c, s.now), sendAt := s.now })
    if s2.runs (portPart c) then s2.inject (portPart c) (s2.syncCell c (syncPay 1 q s2.ownStratum 0 0)) (some (outOf c)) else s2
  else s
/-- TIME_SYNC_TIMER. -/
def execTimeSyncTimer (s : State) : Host.Outcome State Fault Refusal := .next (s.onLive s.syncRequest)

/-- The first TIME_SYNC cell of a kind delivered and not taken, and the state without it. -/
def State.syncTake (s : State) (kind : Nat) : Option (InEnt × State) :=
  let mine (x : InEnt) : Bool := decide (x.pkt.opc = opTIMESYNC ∧ bytesNat (x.pkt.pay.take 1) = kind) && s.runs x.part
  (s.sw.inbox.find? mine).map (fun e => (e, { s with sw := { s.sw with inbox := dropFirst mine s.sw.inbox } }))

/-- TIME_SYNC_REQUEST_RX (R447, R448): answered on the port it came by, where that is in UP. T2 is the fabric time of its
arrival. -/
def State.syncAnswer (s : State) : State :=
  match s.syncTake 1 with
  | none => s
  | some (e, s1) =>
    let c := e.port
    let b (o n : Nat) : Nat := bytesNat (slice e.pkt.pay o n)
    if 12 ≤ c ∧ s1.up c then
      s1.inject (portPart c) (s1.syncCell c (syncPay 2 (b 1 1) s1.ownStratum (b 8 8) (e.arr - s.ft.aged))) (some (outOf c))
    else s1
/-- TIME_SYNC_REQUEST_RX. -/
def execTimeSyncRequestRx (s : State) : Host.Outcome State Fault Refusal := .next (s.onLive s.syncAnswer)

/-- `o` as the 16-bit field OFFS shows it, saturating. -/
def offsField (o : Int) : Nat := wrapInt 16 (max (-32768) (min 32767 o))

/-- The correction of a sample of offset `o` (R449, R450): a slew over 10 µs with the trim learned so far, a step forward,
or half rate. How the trim follows the samples is not given: free, within 100 ppm. -/
def State.ftCorrect (s : State) (o : Int) : State :=
  if o.natAbs ≤ 256 then
    let d := s.draw
    d.2.setFt (fun t => { t with slew := o, slewEnd := s.now + us 10, frac := 0, trim := (d.1 % 9 : Nat) - 4 })
  else if 256 < o then
    let s1 := s.setFld .ftNow ftNow_TIME (s.fnow + o.toNat)
    (s1.count .ftStat ftStat_STEPS 1).setFt (fun t => { t with slew := 0, slewEnd := 0 })
  else s.setFt (fun t => { t with slew := o, slewEnd := 0 })

/-- The state after a used sample (R451). -/
def State.ftSampled (s : State) (o : Int) : State :=
  let g := if o.natAbs ≤ 16 then s.ft.good + 1 else 0
  let s1 := s.setFt (fun t => { t with good := g, usedAt := s.now, req := none, setNow := true })
  if s1.fts = fsHOLDOVER ∨ (s1.fts = fsACQUIRE ∧ 2 ≤ g) then s1.setFld .ftStat ftStat_STATE fsLOCKED else s1

/-- A response with times T1 to T4 and a stratum (R449). -/
def State.syncSample (s : State) (stratum t1 t2 t3 t4 : Nat) : State :=
  if stratum = 0xFF ∨ t1 + us 2 < t4 then s
  else
    let a : Int := (t2 : Int) - t1
    let b : Int := (t4 : Int) - t3
    let o := (a - b) / 2
    let d := (a + b) / 2
    let s1 := (s.setFld .ftStat ftStat_OFFS (offsField o)).setFld .ftStat ftStat_DELAY (d.toNat % 65536)
    ((s1.setFld .ftStat ftStat_STRATUM (min 0xFE (stratum + 1))).ftSampled o).ftCorrect o

/-- TIME_SYNC_RESPONSE_RX. -/
def State.syncResponse (s : State) : State :=
  match s.syncTake 2 with
  | none => s
  | some (e, s1) =>
    let b (o n : Nat) : Nat := bytesNat (slice e.pkt.pay o n)
    match s1.ft.req with
    | some (q, c, _) =>
      if s1.fld .ftCfg ftCfg_EN = 1 ∧ !s1.master ∧ b 1 1 = q ∧ e.port = c then
        s1.syncSample (b 2 1) (b 8 8) (b 16 8) (b 24 8) (e.arr - s.ft.aged)
      else s1
    | none => s1
def execTimeSyncResponseRx (s : State) : Host.Outcome State Fault Refusal := .next (s.onLive s.syncResponse)

/-- SYNC_HOLDOVER_TIMER (R451). -/
def State.syncHold (s : State) : State :=
  if s.fts = fsLOCKED ∧ s.due s.ft.usedAt (us 30) then
    (s.setFld .ftStat ftStat_STATE fsHOLDOVER).setFt (fun t => { t with heldAt := s.now })
  else s
def execSyncHoldoverTimer (s : State) : Host.Outcome State Fault Refusal := .next (s.onLive s.syncHold)

/-- SYNC_REACQUIRE_TIMER (R451). -/
def State.syncAgain (s : State) : State :=
  if s.fts = fsHOLDOVER ∧ s.due s.ft.heldAt (ms 1) then
    ((s.setFld .ftStat ftStat_STATE fsACQUIRE).setFld .ftStat ftStat_STRATUM 0xFF).setFt (fun t => { t with good := 0 })
  else s
def execSyncReacquireTimer (s : State) : Host.Outcome State Fault Refusal := .next (s.onLive s.syncAgain)

/-! ### The passing of time -/

/-- Reference edges in 10 µs. -/
abbrev slewEdges : Nat := 2500

/-- What fabric time advances by at one edge of the reference (R445, R449), and the unit after it: 16, or 8 at half rate,
or 16 with an even share of the offset and the trim. -/
def FTime.edge (t : FTime) (now : Nat) : Nat × FTime :=
  let i := t.frac
  let share (k : Int) : Int := k * (i + 1) / slewEdges - k * i / slewEdges
  let nx := (i + 1) % slewEdges
  if t.slew < 0 ∧ t.slewEnd = 0 then
    if t.slew ≤ -8 then (8, { t with slew := t.slew + 8 }) else ((16 + t.slew).toNat, { t with slew := 0 })
  else if t.slew ≠ 0 ∧ now < t.slewEnd then
    ((16 + share (t.slew + t.trim)).toNat, { t with frac := nx, slew := if nx = 0 then 0 else t.slew })
  else ((16 + share t.trim).toNat, { t with frac := nx, slew := 0 })

/-- Add 4 ns to a counter of Pn where something of a slice that the partition's filter counts waits (R396). -/
def State.stall (s : State) (n : Nat) (r : Reg) (waiting : List Pkt) : State :=
  if waiting.any (fun p => s.telCounts n p.h.slice.toNat) then s.setReg r (s.reg r + 4) else s

/-- The heads queued for port k of Pn, where none has enough credit (R284). -/
def State.noCredit (s : State) (n k : Nat) : List Pkt :=
  let c := portCode n k
  let hs := ((queuesOf k).filterMap (s.qHead n k)).map (fun x => x.pkt)
  if !s.up c || hs.any (s.creditFor c) then [] else hs
/-- The packets that wait at the heads of a port's channels (R316); one from an endpoint is of the slice of its queue, gallery or
request. -/
def State.rxHeads (s : State) (c : Nat) : List Pkt :=
  (List.range 12).filterMap (fun q => (s.sw.rx.find? (fun x => decide (x.port = c ∧ x.chan = q))).map (fun x =>
    if c < 12 then s.fromEdge c x.pkt else x.pkt))
/-- The packets built in Pn that the shaper or a closed gate holds (R386, R393). -/
def State.held' (s : State) (n : Nat) : List Pkt :=
  ((s.sw.inj.filter (fun x => x.part = n)).filter (fun x =>
    (x.shaped && s.native && (s.rateOf x.pkt.h.slice.toNat x.pkt.h.dst.toNat).isSome)
      || (x.fixed.isNone && s.gateHolds
        { part := n, pkt := x.pkt, inPort := none, arr := 0, built := true, gdel := none, ereq := none } x.pkt))).map (fun x => x.pkt)

/-- Stall counters over one edge of the reference, 4 ns. -/
def State.stalls (s : State) : State :=
  (List.range 6).foldl (fun s n =>
    let s1 := [0, 1, 2].foldl (fun s k =>
      (s.stall n (.telPort n k 4) (s.noCredit n k)).stall n (.telPort n k 5) (s.rxHeads (portCode n k))) s
    s1.stall n (.telInj n) (s1.held' n)) s

/-- One edge of the time reference reaches a powered block. -/
def State.refEdge (s : State) : State :=
  let e := s.ft.edge s.now
  (({ s with ft := e.2 } : State).setReg .ftNow (s.reg .ftNow + BitVec.ofNat 64 e.1)).stalls

/-- A block that has been powered without a reference for 16 ns takes its loss (R51). -/
def State.trefDue (s : State) : State :=
  if !s.ft.tref && !s.ft.lost && s.due s.ft.lostAt (ns 16) && !s.blkRun then s.atOnce (State.settle s.trefLoss) else s

/-- Time passes: one period of the time reference, 4 ns (log entry 2). Without edges fabric time stands (R51). A block reset
line that has been asserted for 20 ns is taken (R42). -/
def State.tick (s : State) : State :=
  let s1 := { s with now := s.now + 16 }
  if !s1.powered then s1
  else
    let s2 := if s1.ft.lost || !s1.ft.tref || s1.blkRun then s1 else s1.refEdge
    s2.trefDue.blockLineDue

end Sys2Proof.Machine
end

