-- ==== Sys2Proof/Machine/FaultRows.lean ====
section
/-! DEFINITION. The rows of the fault units and of engine stalls (spec/14_faults.md R467, R469, R475, R476). -/

namespace Sys2Proof.Machine

/-- Does a FAULT_ACK that covers sequence number `q` of unit `u` stand fetched (R466)? -/
def State.ackWaits (s : State) (u q : Nat) : Bool :=
  s.mg.fetched.any (fun c => decide (c.opc = 0xA0 ∧ c.fld 2 0 3 = u ∧ (q = c.fld 2 16 16 ∨ serialBefore q (c.fld 2 16 16))))
/-- A deadline of class `c` of unit `u` passes (R467); a FAULT_ACK that falls due with it takes effect first (R468). A fault raised so in a
partition out of service has no reaction
(R503). -/
def State.deadlinePast (s : State) (u c : Nat) : State :=
  match (s.funit u).pend.find? (fun x => x.1 = c) with
  | none => s
  | some x =>
    let p := x.2
    if !s.isPending u c ∨ s.fnow < p.deadline ∨ (s.fnow = p.deadline ∧ s.ackWaits u p.seq) then s
    else
      let s1 := s.count (.fltStat u) fltStat_FWMISS 1
      if c = clsFATAL then
        let d := p.deadline + us (s.fld .fltCtl fltCtl_ATO)
        s1.setFunit u (fun f => { f with
          pend := updFirst (fun y => y.1 = c) (fun y => (y.1, { y.2 with deadline := d })) f.pend })
      else
        let s2 := (s1.setFld (.fltStat u) (pendPos c) 0).setFunit u (fun f => { f with pend := f.pend.filter (fun y => y.1 ≠ c) })
        s2.raise u (c + 1) p.src p.code csTIMER p.count p.slice (decide (u < 6) && decide (s.pstate u = ptOOS))
/-- FAULT_ACK_DEADLINE. -/
def execFaultAckDeadline (u cls : Nat) (s : State) : Host.Outcome State Fault Refusal :=
  ifWf (Instr.wf (.faultAckDeadline u cls)) (s.onLive (s.deadlinePast u cls))

/-- A fault unit returns to NORMAL after QUIET (R469). -/
def State.quietEnd (s : State) (u : Nat) : State :=
  if s.fld (.fltStat u) fltStat_STATE = 0 ∨ [clsCORR, clsCONT, clsFATAL].any (s.isPending u)
      ∨ s.fnow < (s.funit u).lastAt + ms (s.fld .fltCtl fltCtl_QUIET) then s
  else (s.setFld (.fltStat u) fltStat_STATE 0).count (.fltStat u) fltStat_RECOV 1
/-- FAULT_QUIET. -/
def execFaultQuiet (u : Nat) (s : State) : Host.Outcome State Fault Refusal :=
  ifWf (Instr.wf (.faultQuiet u)) (s.onLive (s.quietEnd u))

/-- An engine as STYPE and SIDX (R470). -/
def Engine.src : Engine → Src
  | .core j => ⟨syCORE, j⟩
  | .copyEngine m => ⟨syCPE, m⟩
  | .atomicUnit => ⟨syATU, 0⟩
  | .sequencer => ⟨sySEQ, 0⟩
/-- An engine of a running partition whose progress counter has stood still for PTO has stalled (R475, R476): an event of code 0x38
from it. A fenced engine holds no action; that another holds one it could act on, the row says (log entry 85). -/
def State.engineStalled (s : State) (n : Nat) (x : Src) : State :=
  if !s.runs n ∨ s.srcFenced n x ∨ !s.due (s.progOf n x.st x.idx).at' (us (s.fld .hangCfg hangCfg_PTO)) then s
  else State.event (s.setPart n (fun p => { p with stalled := some (x.st, x.idx) })) n 0x38 x
/-- ENGINE_STALL. -/
def execEngineStall (n : Nat) (e : Engine) (s : State) : Host.Outcome State Fault Refusal :=
  ifWf (Instr.wf (.engineStall n e)) (s.onLive (s.engineStalled n (Machine.Engine.src e)))

end Sys2Proof.Machine
end

