-- ==== Sys2Proof/Machine/GalleryRows.lean ====
section
/-! DEFINITION. The rows of gallery frames, sequencer actions and the step timer (spec/05_galleries.md R187 to R206). -/

namespace Sys2Proof.Machine

/-! ### Frames -/

/-- An accumulation tile may change before the row (R224). -/
def State.upset (s : State) (u : Option AccUpset) : State := u.elim s s.accStrike

/-- GAL_UP_RX (R198, R224). -/
def execGalUpRx (upset : Option AccUpset) (s : State) : Host.Outcome State Fault Refusal :=
  ifWf (Instr.wf (.galUpRx upset)) (s.onLive ((s.upset upset).galRow opGALUP))
/-- GAL_DOWN_RX (R198, R224). -/
def execGalDownRx (upset : Option AccUpset) (s : State) : Host.Outcome State Fault Refusal :=
  ifWf (Instr.wf (.galDownRx upset)) (s.onLive ((s.upset upset).galRow opGALDOWN))
/-- GALLERY_CONTRIB_FRAME_RX (R195, R198, R224). -/
def execGalleryContribFrameRx (upset : Option AccUpset) (s : State) : Host.Outcome State Fault Refusal :=
  ifWf (Instr.wf (.galleryContribFrameRx upset)) (s.onLive ((s.upset upset).galRow opGALC))
/-- COMBINE_CONTRIB_FRAME_RX (R205, R224, R359): a frame delivered at the home node, reduced with its weight. -/
def execCombineContribFrameRx (upset : Option AccUpset) (s : State) : Host.Outcome State Fault Refusal :=
  ifWf (Instr.wf (.combineContribFrameRx upset)) (s.onLive ((s.upset upset).galRow opCOMB))
/-- KV_ROTATE_FRAME_RX (R206, R256). -/
def execKvRotateFrameRx (s : State) : Host.Outcome State Fault Refusal := .next (s.onLive (s.galRow opKVR))
/-- GAL_ABORT_RX (R200, R257). -/
def execGalAbortRx (s : State) : Host.Outcome State Fault Refusal :=
  .next (s.onLive (s.rxRow (pktOpc opGALABORT) State.rxAbort))

/-! ### Actions (R187). `e`: the entry's place in the gallery's range; `j`: the chunk. -/

/-- ACTION_NOP. -/
def execActionNop (g e : Nat) (s : State) : Host.Outcome State Fault Refusal :=
  ifWf (Instr.wf (.actionNop g e)) (s.onLive (s.act g e 0 actNOP (fun _ _ => s.galFin g e 0)))
/-- Have the accumulation tiles of gallery `g` been freed to it (R183, R322)? Galleries take freed tiles in the order of
their setup. -/
def State.acctReady (s : State) (g j : Nat) (d : GDef) : Bool :=
  let n := d.home j
  let upTo := s.gals.takeWhile (fun x => decide (x.g ≠ g))
  let before := sumBy (fun (x : Gal) => let y := s.gdef x.g; if y.v ∧ n ∈ y.partsOf then y.acct else 0) upTo
  decide (s.sumpUsed n - s.acctHeld n + before + d.acct ≤ s.sumpSize n)
/-- ACTION_REDUCE: the accumulators of the current set are armed, once their tiles are there (R183). -/
def State.reduce (s : State) (g e j : Nat) (d : GDef) : State := if s.acctReady g j d then s.galFin g e j else s

/-- ACTION_REDUCE. -/
def execActionReduce (g e j : Nat) (s : State) : Host.Outcome State Fault Refusal :=
  ifWf (Instr.wf (.actionReduce g e j)) (s.onLive (s.act g e j actREDUCE (fun d _ => s.reduce g e j d)))
/-- ACTION_WAIT: it finishes once `N` contributions, or frames delivered, of the chunk are there. -/
def execActionWait (g e j : Nat) (s : State) : Host.Outcome State Fault Refusal :=
  ifWf (Instr.wf (.actionWait g e j))
    (s.onLive (s.act g e j actWAIT (fun _ y => if s.waitMet g j (nfld y.w1 0 24) then s.galFin g e j else s)))
/-- SENDUP where it may act: the chunk is emitted (R224). -/
def State.actSendup (s : State) (g e j : Nat) : State :=
  s.act g e j actSENDUP (fun d _ => s.emitting g j d.wideUp (s.sendup g e j d))
/-- MCAST where it may act. -/
def State.actMcast (s : State) (g e j : Nat) : State :=
  s.act g e j actMCAST (fun _ y => s.emitting g j false (s.mcast g e j y))
/-- DSWRITE where it may act. -/
def State.actDswrite (s : State) (g e j : Nat) : State :=
  s.act g e j actDSWRITE (fun d y => s.emitting g j false (s.dswrite g e j d y))
/-- DISPATCH where it may act; frames that come after it has finished on their chunk are dispatched too. -/
def State.actDispatch (s : State) (g e j : Nat) : State :=
  if s.mayAct g e j actDISPATCH then s.dispatch g e j (s.gentry (s.gdef g) e) else s
/-- ACTION_SENDUP (R190, R191, R224). -/
def execActionSendup (g e j : Nat) (upset : Option AccUpset) (s : State) : Host.Outcome State Fault Refusal :=
  ifWf (Instr.wf (.actionSendup g e j upset))
    (s.onLive (State.actSendup (s.upset upset) g e j))
/-- ACTION_MCAST (R190, R224, R576). -/
def execActionMcast (g e j : Nat) (upset : Option AccUpset) (s : State) : Host.Outcome State Fault Refusal :=
  ifWf (Instr.wf (.actionMcast g e j upset))
    (s.onLive (State.actMcast (s.upset upset) g e j))
/-- ACTION_FORWARD (R206, R256, R576). -/
def execActionForward (g e j : Nat) (s : State) : Host.Outcome State Fault Refusal :=
  ifWf (Instr.wf (.actionForward g e j)) (s.onLive (s.act g e j actFORWARD (fun _ y => s.forward g e j y)))
/-- ACTION_DISPATCH (R205). -/
def execActionDispatch (g e j : Nat) (s : State) : Host.Outcome State Fault Refusal :=
  ifWf (Instr.wf (.actionDispatch g e j)) (s.onLive (s.actDispatch g e j))
/-- ACTION_DSWRITE (R224). -/
def execActionDswrite (g e j : Nat) (upset : Option AccUpset) (s : State) : Host.Outcome State Fault Refusal :=
  ifWf (Instr.wf (.actionDswrite g e j upset))
    (s.onLive (State.actDswrite (s.upset upset) g e j))
/-- ACTION_DSREAD. -/
def execActionDsread (g e j : Nat) (s : State) : Host.Outcome State Fault Refusal :=
  ifWf (Instr.wf (.actionDsread g e j)) (s.onLive (s.act g e j actDSREAD (fun d y => s.dsread g e j d y)))
/-- SYNCADD adds only in a step without failure at this node, and only while the object is its slice's (R141, R202). -/
def State.syncaddAct (s : State) (g e : Nat) (d : GDef) (y : GEntry) : State :=
  (if (s.gal g).failed then s else (s.cntAdd (nfld y.w1 0 16) d.slice (nfld y.w1 16 32)).2).galFin g e 0
/-- ACTION_SYNCADD (R141, R202). -/
def execActionSyncadd (g e : Nat) (s : State) : Host.Outcome State Fault Refusal :=
  ifWf (Instr.wf (.actionSyncadd g e)) (s.onLive (s.act g e 0 actSYNCADD (fun d y => s.syncaddAct g e d y)))
/-- ACTION_ADVANCE: the step ends (R185, R196). -/
def execActionAdvance (g e : Nat) (s : State) : Host.Outcome State Fault Refusal :=
  ifWf (Instr.wf (.actionAdvance g e)) (s.onLive (s.act g e 0 actADVANCE (fun _ _ => s.galAdvance g)))

/-! ### The step timer (R199) -/

/-- The step timer of gallery `g`; the next step's runs since its first held command (R199). -/
def State.stepTimer (s : State) (g : Nat) : State :=
  let x := s.gal g
  let t := (s.gdef g).timeout
  if s.gstate g = gsIDLE then s
  else if x.timer.isSome ∧ s.due (x.timer.getD 0) t then s.galAbort g grTIMEOUT 31 99
  else if x.next.isSome ∧ s.due (x.next.getD 0) t then s.nextAbort g grTIMEOUT
  else s
/-- STEP_TIMEOUT. -/
def execStepTimeout (g : Nat) (s : State) : Host.Outcome State Fault Refusal :=
  ifWf (Instr.wf (.stepTimeout g)) (s.onLive (s.stepTimer g))

end Sys2Proof.Machine
end

