-- ==== Sys2Proof/Machine/Keys.lean ====
section
/-! DEFINITION. The key port (spec/16_security.md R509 to R511, R515, R520 to R526). -/

namespace Sys2Proof.Machine

/-- Fields of word 0 of a record (R509). -/
abbrev krOP : Pos := ⟨0, 4⟩
abbrev krSLOT : Pos := ⟨8, 9⟩
abbrev krPH : Pos := ⟨17, 1⟩
abbrev krSLICE : Pos := ⟨24, 6⟩
abbrev krGAL : Pos := ⟨32, 12⟩

/-- Slot, phase and key that a record names. -/
def krSlot (r : KeyRec) : Nat := fget r.w0 krSLOT
def krPh (r : KeyRec) : Bool := decide (fget r.w0 krPH = 1)
def krKey (r : KeyRec) : BitVec 256 := r.w4 ++ r.w3 ++ r.w2 ++ r.w1

/-- Is a record well formed for any OP: reserved fields zero, SLOT at most 271, PH 0 for a content slot (R509, R510)? -/
def krOk (r : KeyRec) : Bool :=
  decide (outside [krOP, krSLOT, krPH, krSLICE, krGAL] r.w0 = 0) && decide (krSlot r ≤ 271)
    && (decide (krSlot r < 256) || !krPh r)

/-- KEYS of a link slot follows its phases (R526: WARN while a loaded phase has reached record number 2^40). -/
def State.keysShow (s : State) (k : Nat) : State :=
  if 256 ≤ k then s
  else
    let x := s.keySlot k
    let old (ph : Bool) : Bool := (x.key ph).isSome && s.sec.recno.any (fun y =>
      decide (y.slot = k ∧ y.ph = ph ∧ y.rx = false ∧ 2 ^ 40 ≤ y.n))
    let v := x.p0.isSome.toNat + 2 * x.p1.isSome.toNat + 4 * (decide (x.tx = some true)).toNat + 8 * (old false || old true).toNat
    s.setFld (.slice (k / 4)) ⟨4 * (k % 4), 4⟩ v

/-- Records under way with a slot's key end before the slot changes (R40). -/
def State.slotClose (s : State) (k : Nat) : State :=
  (s.sw.opens.filter (fun x => decide (4 * x.slice + dirTx x.port = k))).foldl (fun s x => s.closeRec x.port) s

/-- Change a slot between records, and show it. -/
def State.slotSet (s : State) (k : Nat) (f : KSlot → KSlot) : State := ((s.slotClose k).setKeySlot k f).keysShow k

/-- A phase with another content. -/
def phaseSet (ph : Bool) (v : Option (BitVec 256)) (x : KSlot) : KSlot := if ph then { x with p1 := v } else { x with p0 := v }

/-- A content slot loses its binding. -/
def State.unbind (s : State) (k : Nat) : State := if k < 256 then s else s.setFld (.wfan (k - 256)) wfan_V 0

/-- LOAD: the record numbers of the phase restart at 0 on every port. -/
def State.keyLoad (s : State) (r : KeyRec) : State :=
  let k := krSlot r
  let s1 := (s.slotClose k).setKeySlot k (phaseSet (krPh r) (some (krKey r)))
  let s2 : State := { s1 with sec := { s1.sec with
    recno := s1.sec.recno.filter (fun y => !decide (y.slot = k ∧ y.ph = krPh r)) } }
  s2.keysShow k

/-- Discard every packet of a slice held in a receive stage, output buffer or replay buffer, without a FAIL (R522). -/
def State.dropSlice (s : State) (sl : Nat) : State :=
  let mine (p : Pkt) : Bool := decide (p.h.slice.toNat = sl)
  let s1 := (s.sw.copies.filter (fun x => mine x.pkt)).foldl (fun s x => s.ereqSent x.ereq) s
  let s2 : State := { s1 with sw := { s1.sw with
    rx := s1.sw.rx.filter (fun x => !mine x.pkt)
    copies := s1.sw.copies.filter (fun x => !mine x.pkt)
    replay := s1.sw.replay.filter (fun x => !mine x.pkt) } }
  (List.range 18).foldl (fun s c => if s.up c then s.regrant c else s) s2

/-- CONF: setting it, or clearing it with quarantine (R522). -/
def State.keyConf (s : State) (r : KeyRec) : State :=
  let sl := fget r.w0 krSLICE
  if r.w1.getLsbD 0 then s.setFld (.slice sl) slice_CONF 1
  else if s.conf sl then
    (((List.range 4).foldl (fun s d => s.slotClose (4 * sl + d)) s).setFld (.slice sl) slice_CONF 0).setFld (.slice sl)
      slice_QUAR 1 |>.dropSlice sl
  else s

/-- GRANT (R511): PAYLOAD is cleared where the grant is withdrawn. -/
def State.keyGrant (s : State) (r : KeyRec) : State :=
  let g := fget r.w1 ⟨0, 6⟩
  (List.range 6).foldl (fun s n => if nbit g n then s else s.setFld (.sample n) sample_PAYLOAD 0) (s.setFld .secStat secStat_GRANT g)

/-- BIND (R510). -/
def State.keyBind (s : State) (r : KeyRec) : State :=
  let j := krSlot r - 256
  let s1 := s.setKeySlot (krSlot r) (fun x => { x with salt := BitVec.ofNat 32 r.w1.toNat })
  ((s1.setFld (.wfan j) wfan_SLICE (fget r.w0 krSLICE)).setFld (.wfan j) wfan_GAL (fget r.w0 krGAL)).setFld (.wfan j) wfan_V 1

/-- The condition of each operation (R510). -/
def State.keyCond (s : State) (r : KeyRec) : Bool :=
  let k := krSlot r
  let x := s.keySlot k
  let sl := fget r.w0 krSLICE
  match fget r.w0 krOP with
  | 1 => true
  | 2 => decide (k < 256) && (x.key (krPh r)).isSome
  | 3 => decide (256 ≤ k) || !(decide (x.tx = some (krPh r)) && (x.key (krPh r)).isSome)
  | 4 => !r.w1.getLsbD 0 || (s.sliceActive sl && !s.quar sl && (List.range 4).all (fun d =>
      (s.keySlot (4 * sl + d)).tx.any (fun ph => ((s.keySlot (4 * sl + d)).key ph).isSome)))
  | 5 => decide (256 ≤ k) && x.p0.isSome && s.conf sl
  | 6 => true
  | 7 => true
  | 8 => true
  | 9 => decide (256 ≤ k) || !s.conf (k / 4)
  | _ => false

/-- A record of operation `op`: its effect `f`, or KPBAD where it is malformed or its condition fails. A record of another
operation is not this row's, but for one whose OP is not listed. -/
def State.keyRow (s : State) (op : Nat) (r : KeyRec) (f : State) : State :=
  let o := fget r.w0 krOP
  if o ≠ op ∧ 1 ≤ o ∧ o ≤ 9 then s
  else if krOk r ∧ s.keyCond r then f
  else s.count .secStat secStat_KPBAD 1

/-- KEY_PORT_LOAD. -/
def execKeyPortLoad (r : KeyRec) (s : State) : Host.Outcome State Fault Refusal := .next (s.onLive (s.keyRow 1 r (s.keyLoad r)))
/-- KEY_PORT_ACTIVATE. -/
def execKeyPortActivate (r : KeyRec) (s : State) : Host.Outcome State Fault Refusal :=
  .next (s.onLive (s.keyRow 2 r (s.slotSet (krSlot r) (fun x => { x with tx := some (krPh r) }))))
/-- KEY_PORT_ERASE. -/
def execKeyPortErase (r : KeyRec) (s : State) : Host.Outcome State Fault Refusal :=
  .next (s.onLive (s.keyRow 3 r ((s.slotSet (krSlot r) (phaseSet (krPh r) none)).unbind (krSlot r))))
/-- KEY_PORT_CONF. -/
def execKeyPortConf (r : KeyRec) (s : State) : Host.Outcome State Fault Refusal := .next (s.onLive (s.keyRow 4 r (s.keyConf r)))
/-- KEY_PORT_BIND. -/
def execKeyPortBind (r : KeyRec) (s : State) : Host.Outcome State Fault Refusal := .next (s.onLive (s.keyRow 5 r (s.keyBind r)))
/-- KEY_PORT_GRANT. -/
def execKeyPortGrant (r : KeyRec) (s : State) : Host.Outcome State Fault Refusal := .next (s.onLive (s.keyRow 6 r (s.keyGrant r)))
/-- KEY_PORT_HOLD (R515). -/
def execKeyPortHold (r : KeyRec) (s : State) : Host.Outcome State Fault Refusal := .next (s.onLive (s.keyRow 7 r s.mirrorHold))
/-- KEY_PORT_RELEASE (R515). -/
def execKeyPortRelease (r : KeyRec) (s : State) : Host.Outcome State Fault Refusal := .next (s.onLive (s.keyRow 8 r s.mirrorRelease))
/-- KEY_PORT_WIPE. -/
def execKeyPortWipe (r : KeyRec) (s : State) : Host.Outcome State Fault Refusal :=
  .next (s.onLive (s.keyRow 9 r
    ((s.slotSet (krSlot r) (fun x => { x with p0 := none, p1 := none, tx := none })).unbind (krSlot r))))

end Sys2Proof.Machine
end

