-- ==== Sys2Proof/Machine/LinkRx.lean ====
section
/-! DEFINITION. What a port does with what its receiver has made out: lock, marks, TRAIN and the other control blocks, packets,
the pilot, and the events of its lanes (spec/08_lanes_links.md R266 to R301, spec/01_boundary.md R21, spec/16_security.md R525). -/

namespace Sys2Proof.Machine

/-! ### Lanes (R268 to R271) -/

/-- Is a lane in service: not fenced (R305), not under test? -/
def State.laneOn (s : State) (l : Nat) : Bool :=
  !(s.fencedLanes (lanePort l)).getLsbD (laneLocal l) && decide ((s.lane l).mode = 0)
/-- Does a port train on: is it in ALIGN or RETRAIN, or in LOCK? -/
def State.trains (s : State) (c : Nat) : Bool := decide (s.pst c ∈ [psLOCK, psALIGN, psRETRAIN])
/-- Go on with training, where the port trains. -/
def State.trainOn (s : State) (c : Nat) : State := if s.trains c then s.train c else s

/-- A hunting lane locks (R268). It counts as aligned from its lock until its MARKs show otherwise (R271). -/
def State.laneLock (s : State) (l : Nat) : State :=
  if s.laneOn l && !(s.lane l).locked then
    (s.setLane l (fun x => { x with locked := true, aligned := true, good := 0, hist := [] })).trainOn (lanePort l)
  else s

/-- A lane of a port is lost to lock or alignment: counted, and a port that uses it in UP retrains (R268, R274). -/
def State.laneLost (s : State) (l : Nat) : State :=
  let c := lanePort l
  let s1 := (s.count (laneReg l) laneErr_LOCKLOSS 1).laneEvent l 0x0A
  if s1.up c then (if nbit (s1.fld (statReg c) portStat_ACTIVE) (laneLocal l) then s1.enterRetrain c else s1)
  else s1.trainOn c
/-- A locked lane loses lock and hunts again (R268). -/
def State.lockLoss (s : State) (l : Nat) : State :=
  if s.laneOn l && (s.lane l).locked then
    (s.setLane l (fun x => { x with locked := false, aligned := false, good := 0, hist := [], blks := [] })).laneLost l
  else s

/-- One MARK of port `c` (R271, R272): one whose lane index or mask disagrees is an errored block; a skew of up to 64
positions aligns the lane, a larger one does not. -/
def State.mark (s : State) (c : Nat) (m : MarkBlk) : State :=
  let l := portLane0 c + m.lane
  let agrees := match s.heldMask c with | some k => decide (k = m.mask) | none => true
  if portLanes c ≤ m.lane ∨ !s.laneOn l ∨ !(s.lane l).locked ∨ m.idx ≠ m.lane ∨ !agrees then s
  else if m.skew ≤ 64 then
    (s.setLane l (fun x => { x with aligned := true })).setLink c (fun x => { x with marked := x.marked ||| BitVec.ofNat 16 (2 ^ m.lane) })
  else if (s.lane l).aligned then (s.setLane l (fun x => { x with aligned := false })).laneLost l
  else s
/-- MARK blocks of a port (R271). -/
def State.markRound (s : State) (c : Nat) (ms : List MarkBlk) : State :=
  if s.up c || s.trains c then (ms.foldl (fun s m => s.mark c m) s).trainOn c else s

/-! ### Training (R272 to R280) and the end of announced idle (R298 to R300) -/

/-- The lanes of a port's active mask, lowest first. -/
def State.actLanes (s : State) (c : Nat) : List Nat :=
  (bitsOf (s.fld (statReg c) portStat_ACTIVE) (portLanes c)).map (portLane0 c + ·)
/-- Are the lanes of a port's active mask all aligned? -/
def State.allAligned (s : State) (c : Nat) : Bool :=
  decide (BitVec.ofNat 16 (s.fld (statReg c) portStat_ACTIVE) &&& ~~~(s.ownMask c) = 0)
/-- Position 400 of a burst (R299, R300): the lanes that had lost the pilot are not aligned, and a receiver not aligned on every
active lane enters RETRAIN. -/
def State.judge (s : State) (c : Nat) : State :=
  let s1 := (s.actLanes c).foldl (fun s l => s.setLane l (fun x =>
    if x.lostP then { x with locked := false, aligned := false, good := 0, hist := [], lostP := false, dark := none }
    else { x with dark := none })) s
  if s1.allAligned c then (s1.setFld (statReg c) portStat_RXIDLE 0).setLink c (fun l => { l with burst := none }) else s1.enterRetrain c
/-- Judge a burst whose position 400 has passed. -/
def State.burstEnd (s : State) (c : Nat) : State :=
  match (s.link c).burst with
  | some t => if s.up c ∧ s.fld (statReg c) portStat_RXIDLE = 1 ∧ s.due t (ns 128) then s.judge c else s
  | none => s

/-- The TRAIN block that a payload spells (R272, TYPE 0x60). -/
def trainOfCtl (p : BitVec 64) : TrainBlk :=
  { reach := p.extractLsb' 8 2, role := p.getLsbD 10, ready := p.getLsbD 11, mask := p.extractLsb' 16 16, node := p.extractLsb' 32 12 }
/-- Does a partner TRAIN block pass (R275)? -/
def State.trainOk (s : State) (c : Nat) (t : TrainBlk) : Bool :=
  decide (t.reach.toNat = s.fld (cfgReg c) portCfg_REACH) && (t.role == decide (12 ≤ c))
/-- A TRAIN block that a port in LOCK, MISMATCH, ALIGN or RETRAIN takes (R274 to R276). -/
def State.trainTake (s : State) (c : Nat) (t : TrainBlk) : State :=
  if s.trainOk c t then
    let s1 := s.setFld (statReg c) portStat_PEER t.node.toNat
    (s1.setLink c (fun l => { l with partner := some t.mask, pready := t.ready })).train c
  else
    let s1 := (s.count (errReg c) portErr_MISMATCH 1).portEvent c 0x05
    if s.pst c = psLOCK then s1.setPst c psMISMATCH else s1
/-- A TRAIN block: in UP it starts RETRAIN (R280), or it is of the burst that ends announced idle (R298); after PARKED the port
trains again. -/
def State.trainRx (s : State) (c : Nat) (t : TrainBlk) : State :=
  let s := s.burstEnd c
  if s.pst c = psPARKED then (if s.mayTrain c then s.enterLock c else s)
  else if s.up c then
    if s.fld (statReg c) portStat_RXIDLE = 1 then s.setLink c (fun l => { l with burst := l.burst <|> some s.now })
    else (s.enterRetrain c).trainTake c t
  else if s.trains c ∨ s.pst c = psMISMATCH then s.trainTake c t
  else s

/-! ### Control blocks -/

/-- START (R290). In announced idle it is the last block of the burst, and the receiver is judged first (R298, R299). -/
def State.startRx (s : State) (c n : Nat) : State :=
  let s := if s.up c ∧ s.fld (statReg c) portStat_RXIDLE = 1 then s.judge c else s
  let l := s.link c
  if !s.up c then s
  else if serialBefore l.eseq n then
    (s.setLink c (fun x => { x with resync := true })).pendCtl c (ctlLseq ctNAK l.eseq)
  else s.setLink c (fun x => { x with resync := false, cur := n })

/-- CREDIT (R284). -/
def State.creditRx (s : State) (c ch g : Nat) : State :=
  if s.up c then s.setLink c (fun x => { x with granted := x.granted.set ch g }) else s

/-- ACK (R291, R292): the packets covered leave the replay buffer; the next oldest one's replay time runs
anew (R294, R295). -/
def State.ackRx (s : State) (c n : Nat) : State :=
  if !s.up c then s
  else
    let covered (r : Rep) : Bool := decide (r.port = c) && (decide (r.lseq = n) || serialBefore r.lseq n)
    if s.sw.replay.any covered then
      let s1 : State := { s with sw := { s.sw with replay := s.sw.replay.filter (fun r => !covered r) } }
      s1.setLink c (fun x => { x with ackAt := s.now, repN := 0 })
    else s
/-- NAK (R293, R295). -/
def State.nakRx (s : State) (c n : Nat) : State := if s.up c then s.replayFrom c n else s
/-- A port parks (R301): it answers IDLE_ENTER with OFF = 1 and stops. What it held ends as at a loss of the link, without
a loss being counted (log entry 24). -/
def State.park (s : State) (c : Nat) : State :=
  (s.linkEmit c (.ctl c (BitVec.ofNat 64 (ctIDLE + 256)))).portDead c psPARKED
/-- The receive direction enters announced idle (R297, R300): every lane has the pilot. -/
def State.rxIdle (s : State) (c : Nat) : State :=
  let s1 := (s.actLanes c).foldl (fun s l => s.setLane l (fun x => { x with dark := none, lostP := false })) s
  (s1.rxFresh c).setFld (statReg c) portStat_RXIDLE 1
/-- IDLE_ENTER (R297, R301). -/
def State.idleRx (s : State) (c : Nat) (off : Bool) : State :=
  if !s.up c then s else if off then s.park c else s.rxIdle c

/-! ### Packets received (R263, R287 to R291, R525) -/

/-- Report an event of a lane `k` times. -/
def State.laneEvents (s : State) (k l code : Nat) : State := (List.range k).foldl (fun s _ => s.laneEvent l code) s
/-- A word reaches the receive dock of a lane, which holds 16; one more is lost, counted and reported (R21). -/
def State.wordRx (s : State) (l : Nat) (w : BitVec 128) : State :=
  if ((s.lane l).dock.filter (·.isSome)).length < 16 then s.setLane l (fun x => { x with dock := x.dock ++ [some w] })
  else ((s.setLane l (fun x => { x with dock := x.dock ++ [none] })).count (laneReg l) laneErr_OVR 1).laneEvent l 0x0B

/-- What a lane of the port did (R21, R266, R267, R300, R311): every event counted is reported too. PRBS errors count from the
time the checker has locked. -/
def State.laneEvt (s : State) (c : Nat) (e : LaneEvt) : State :=
  let on (l : Nat) : Bool := decide (lanePort l = c) && s.laneOn l
  match e with
  | .word l w => if on l then s.wordRx l w else s
  | .prbsLock l => if lanePort l = c ∧ (s.lane l).mode ∈ [1, 2, 3] then s.setLane l (fun x => { x with plock := true }) else s
  | .pilot l up =>
    if on l ∧ s.up c ∧ s.fld (statReg c) portStat_RXIDLE = 1 then
      s.setLane l (fun x => if up then { x with dark := none } else { x with dark := x.dark <|> some s.now, lostP := true })
    else s
  | .corrected l k => if on l then (s.count (laneReg l) laneErr_CORR k).laneEvents k l 0x08 else s
  | .uncorrectable l => if on l then (s.count (laneReg l) laneErr_UNCOR 1).laneEvent l 0x09 else s
  | .overrun l => if on l then (s.count (laneReg l) laneErr_OVR 1).laneEvent l 0x0B else s
  | .prbs l k =>
    if lanePort l = c ∧ (s.lane l).mode ∈ [1, 2, 3] ∧ (s.lane l).plock then
      (s.count (laneReg l) laneErr_PRBS k).laneEvents k l 0x0C
    else s
/-- Does an event leave errored blocks in the packet that overlaps it: an overrun, or an uncorrectable codeword in class C
or O (R266, R267)? -/
def State.errored (s : State) (c : Nat) (e : LaneEvt) : Bool :=
  match e with
  | .uncorrectable l => decide (lanePort l = c ∧ 2 ≤ s.fld (cfgReg c) portCfg_REACH) && s.laneOn l
  | .overrun l => decide (lanePort l = c) && s.laneOn l
  | _ => false

/-- A link CRC failure (R290): one event, NAK, resync. -/
def State.lcrcFail (s : State) (c : Nat) : State :=
  let s1 := (s.count (errReg c) portErr_LCRC 1).portEvent c 0x01
  (s1.setLink c (fun x => { x with resync := true })).pendCtl c (ctlLseq ctNAK (s1.link c).eseq)

/-- Does an accepted packet set SEEN: from a torus port, under an epoch other than the injection epoch (R364)? -/
def State.seenBy (s : State) (c : Nat) (p : Pkt) : State :=
  if 12 ≤ c ∧ s.oldPkt p then s.setFld .epochCnt epochCnt_SEEN 1 else s

/-- A packet is accepted (R290, R291): its ACK becomes pending, it is counted and snooped, and it enters the receive stage,
whose channel may now be lent more (R285); a malformed one is discarded (R263 check 2, R281). -/
def State.acceptPkt (s : State) (c : Nat) (p : Pkt) : State :=
  let l := s.link c
  let s1 := (s.setLink c (fun x => { x with
    eseq := (x.eseq + 1) % 65536
    cur := (x.cur + 1) % 65536
    arrU := x.arrU.set p.chan ((nthD x.arrU p.chan + p.units) % 65536) })).pendCtl c (ctlLseq ctACK l.eseq)
  let sl := if c < 12 then s.edgeSlice c p else p.h.slice.toNat
  let tel (r k : Nat) (s : State) : State :=
    let t : Reg := .telPort (portPart c) (portK c) r
    if s.telCounts (portPart c) sl then s.setReg t (s.reg t + BitVec.ofNat 64 k) else s
  let s2 := (tel 3 p.size (tel 2 1 s1)).snoop (if c < 12 then 0 else 2) c p
  if !p.wellFormed ∨ !(portChans c).contains p.chan then (s2.portEvent c 0x1B).regrant c
  else
    let e : RxEnt := { port := c, chan := p.chan, pkt := p, arr := s.ageNow, at' := s.now, units := p.units }
    (State.seenBy { s2 with sw := { s2.sw with rx := s2.sw.rx ++ [e] } } c p).regrant c

/-- One packet whose link CRC has been checked, in clear (R290). A replayed duplicate is acknowledged again. -/
def State.seqPkt (s : State) (c : Nat) (bytes : List Byte) : State :=
  let l := s.link c
  if l.resync then s
  else match Pkt.parse bytes with
    | some (p, true) =>
      if serialBefore l.cur l.eseq then
        (s.setLink c (fun x => { x with cur := (x.cur + 1) % 65536 })).pendCtl c (ctlLseq ctACK (l.eseq + 65535))
      else s.acceptPkt c p
    | _ => s.lcrcFail c

/-- One packet that arrived in clear: of a confidential slice, it is handled as a link CRC failure (R525). -/
def State.plainPkt (s : State) (c : Nat) (bytes : List Byte) : State :=
  if (s.link c).resync then s
  else match Pkt.parse bytes with
    | some (p, true) =>
      if s.conf (if c < 12 then s.edgeSlice c p else p.h.slice.toNat) then
        (s.count .secStat secStat_UNSEAL 1).lcrcFail c
      else s.seqPkt c bytes
    | _ => s.lcrcFail c

/-- A sealed record (R525): verified once its packets have passed their link CRCs. -/
def State.sealedPkts (s : State) (c : Nat) (pkts : List (List Byte)) (t : SealTag) : State :=
  if (s.link c).resync then s
  else if !pkts.all linkCrcOk then s.lcrcFail c
  else match s.unseal c pkts t with
    | some r => r.1.foldl (fun s b => s.seqPkt c b) r.2
    | none => (s.count .secStat secStat_SEALF 1).lcrcFail c

end Sys2Proof.Machine
end

