-- ==== Sys2Proof/Machine/Lanes.lean ====
section
/-! DEFINITION. From the words in the docks of a port's lanes to its blocks and packets (spec/08_lanes_links.md R265 to R272, R288 to
R290, spec/16_security.md R523, R525). Log entry 123. -/

namespace Sys2Proof.Machine

/-! ### Lane: bits, units and headers (R265 to R268) -/

/-- Does some slice seal its packets, so that a link may carry SEAL blocks (R523)? -/
def State.sealing (s : State) : Bool := (List.range 64).any s.conf

/-- Take headers one at a time: what the lane remembers of them, and whether 16 invalid ones fell within 1,024 (R268). -/
def histAdd (hs hist : List Bool) : List Bool × Bool :=
  hs.foldl (fun a h =>
    let l := h :: a.1
    (l.take 1023, a.2 || decide (16 ≤ (l.filter (fun x => !x)).length))) (hist, false)

/-- One turn of a lane's decoder on the bits it holds, at least a unit of them (R265 to R268). Hunting, it tests the boundary it
stands on, slips one bit where a header is invalid, and locks after 64 valid ones. Locked, it counts what was corrected and what
was not, hands its blocks on with their arrival in block positions, and loses lock after 16 invalid headers. -/
def State.unitTake (s : State) (l : Nat) : State :=
  let reach := s.fld (cfgReg (lanePort l)) portCfg_REACH
  let n := unitBits reach
  let u := unitDecode reach s.sealing ((s.lane l).buf.take n)
  if !(s.lane l).locked then
    if u.hdrs.all id then
      let s1 := s.setLane l (fun x => { x with buf := x.buf.drop n, good := x.good + u.hdrs.length })
      if 64 ≤ (s1.lane l).good then s1.laneLock l else s1
    else s.setLane l (fun x => { x with buf := x.buf.drop 1, good := 0 })
  else
    let h := histAdd u.hdrs (s.lane l).hist
    let at' := s.now * 25 / 32
    let s1 := s.setLane l (fun x => { x with
      buf := x.buf.drop n, hist := h.1, blks := x.blks ++ u.blks.zipIdx.map (fun b => (at' + b.2, b.1)) })
    let s2 := (s1.count (laneReg l) laneErr_CORR u.corr).laneEvents u.corr l 0x08
    let s3 := if u.uncor then (s2.count (laneReg l) laneErr_UNCOR 1).laneEvent l 0x09 else s2
    if h.2 then s3.lockLoss l else s3
/-- Turns while the lane holds a unit, at most `f` of them: each takes a bit at least. -/
def State.unitsTake (s : State) (l : Nat) : Nat → State
  | 0 => s
  | f + 1 =>
    if (s.lane l).buf.length < unitBits (s.fld (cfgReg (lanePort l)) portCfg_REACH) then s else (s.unitTake l).unitsTake l f
/-- The port controller drains the dock of a lane (R20, R21). -/
def State.dockTake (s : State) (l : Nat) : State :=
  let s1 := s.setLane l (fun x => { x with dock := [], buf := x.buf ++ x.dock.flatMap dockBits })
  s1.unitsTake l ((s1.lane l).buf.length + 1)

/-! ### Blocks outside the stream: training, and the burst that ends announced idle -/

/-- A MARK on lane `j` that arrived in block position `p` (R271): its skew is the spread of its round so far. A lane's second MARK,
or one far from the last, begins a round. -/
def State.markIn (s : State) (c j p : Nat) (b : BitVec 64) : State :=
  let l := s.link c
  let far := decide (l.mkHi + (if s.up c then 8192 else 64) < p)
  let new := far || l.mkLanes.getLsbD j || decide (l.mkLanes = 0)
  let lo := if new then p else min l.mkLo p
  let hi := if new then p else max l.mkHi p
  let on := (if new then 0 else l.mkLanes) ||| BitVec.ofNat 16 (2 ^ j)
  (s.setLink c (fun x => { x with mkLo := lo, mkHi := hi, mkLanes := on })).markRound c
    [{ lane := j, idx := nfld b.toNat 8 4, mask := b.extractLsb' 16 16, skew := hi - lo }]
/-- A block of lane `j` while the port has no stream to take (R271, R274, R298). -/
def State.outerBlk (s : State) (c j p : Nat) (b : Blk) : State :=
  match b with
  | .ctl x =>
    if ctlType x = 0x60 then s.trainRx c (trainOfCtl x)
    else if ctlType x = 0x40 then s.markIn c j p x
    else s
  | _ => s

/-! ### The block stream of a port in UP (R270, R288 to R290, R523) -/

/-- Drop what the receiver holds of a packet and of a record. -/
def State.dropPart (s : State) (c : Nat) : State := s.setLink c (fun l => { l with rxPart := [], rxRec := [], rxSeal := none })
/-- The packet that is arriving fails its link CRC (R266, R267, R289). -/
def State.streamFail (s : State) (c : Nat) : State := if (s.link c).resync then s else (s.dropPart c).lcrcFail c
/-- A record fails (R525): with no SEAL block at all its packets came unsealed. -/
def State.recFail (s : State) (c : Nat) (noSeal : Bool) : State :=
  ((s.dropPart c).count .secStat (if noSeal then secStat_UNSEAL else secStat_SEALF) 1).lcrcFail c

/-- The length of the packet whose first bytes have arrived (R288): `none` while they do not tell it, `some none` where none can be
derived (R289). A sealed frame has its extension enciphered; its SEAL blocks show where it ends (R523). -/
def arrivalLen (sealed : Bool) (l : List Byte) : Option (Option Nat) :=
  let h := Hdr.ofBits (BitVec.ofNat 96 (bytesNat (l.take 12)))
  if l.length < 16 then none
  else if !h.isFrame then some (if 48 < h.len.toNat then none else some 64)
  else if sealed then (if padded 8232 < l.length then some none else none)
  else if l.length < 32 then none
  else some ((frameLen h.opc.toNat (bytesNat (slice l 12 20))).map (40 + ·))
/-- A packet is complete (R290, R525): of a confidential slice, it waits for the SEAL blocks of its record. -/
def State.arrived (s : State) (c : Nat) (bytes : List Byte) : State :=
  let l := s.link c
  let joins := decide (l.rxRec.length < 4) && l.rxSeal.isNone && l.rxRec.all (fun b => decide (sliceOfBytes b = sliceOfBytes bytes))
  if s.conf (sliceOfBytes bytes) then
    if joins then s.setLink c (fun l => { l with rxRec := l.rxRec ++ [bytes] }) else s.recFail c l.rxSeal.isNone
  else if l.rxRec.isEmpty then s.plainPkt c bytes
  else s.recFail c l.rxSeal.isNone
/-- Eight bytes of the stream (R288). -/
def State.streamData (s : State) (c : Nat) (d : BitVec 64) : State :=
  if (s.link c).resync then s
  else
    let part := (s.link c).rxPart ++ natBytes 8 d.toNat
    match arrivalLen (s.conf (sliceOfBytes part)) part with
    | none => s.setLink c (fun l => { l with rxPart := part })
    | some none => s.streamFail c
    | some (some n) =>
      if part.length < n then s.setLink c (fun l => { l with rxPart := part })
      else (s.setLink c (fun l => { l with rxPart := [] })).arrived c (part.take n)
/-- A SEAL block (R523, R525): the first of two ends a sealed frame, the second closes the record. -/
def State.sealRx (s : State) (c : Nat) (p : BitVec 64) : State :=
  let l := s.link c
  if l.resync then s
  else if !p.getLsbD 8 then
    if l.rxPart.isEmpty then s.setLink c (fun l => { l with rxSeal := some p })
    else match ((List.range 8).map (l.rxPart.length - ·)).find? (fun n => linkCrcOk (l.rxPart.take n)) with
      | some n => s.setLink c (fun l => { l with rxRec := l.rxRec ++ [l.rxPart.take n], rxPart := [], rxSeal := some p })
      | none => s.streamFail c
  else match l.rxSeal with
    | some q =>
      if !l.rxRec.isEmpty ∧ q.extractLsb' 9 7 = p.extractLsb' 9 7 then
        (s.dropPart c).sealedPkts c l.rxRec { ph := p.getLsbD 9, rn := p.extractLsb' 10 6, tag := p.extractLsb' 16 48 ++ q.extractLsb' 16 48 }
      else s.recFail c false
    | none => s.recFail c false

/-- Is a block a START? -/
def Blk.isStart : Blk → Bool
  | .ctl p => decide (ctlType p = ctSTART)
  | _ => false
/-- One block of the port's stream (R272, R288, R290). Control blocks do not break a packet, but START begins one anew. In announced
idle nothing counts but the START that ends the burst (R298). -/
def State.streamBlk (s : State) (c : Nat) (b : Blk) : State :=
  if s.fld (statReg c) portStat_RXIDLE = 1 ∧ !b.isStart then s
  else match b with
  | .data d => s.streamData c d
  | .bad => s.streamFail c
  | .ctl p =>
    let n := nfld p.toNat 8 16
    match ctlType p with
    | 0x10 => (s.dropPart c).startRx c n
    | 0x20 => s.creditRx c (nfld p.toNat 8 4) (nfld p.toNat 16 16)
    | 0x30 => s.ackRx c n
    | 0x31 => s.nakRx c n
    | 0x50 => s.idleRx c (p.getLsbD 8)
    | 0x60 => s.trainRx c (trainOfCtl p)
    | 0x70 => s.sealRx c p
    | _ => s
/-- Blocks of the stream, in order, as long as the port is in UP. -/
def State.feed (s : State) (c : Nat) (bs : List Blk) : State := bs.foldl (fun s b => if s.up c then s.streamBlk c b else s) s

/-- Is a block a MARK, or of the training before the stream? -/
def Blk.isMark : Blk → Bool
  | .ctl p => decide (ctlType p = 0x40)
  | _ => false
def Blk.isOuter : Blk → Bool
  | .ctl p => decide (ctlType p = 0x40 ∨ ctlType p = 0x60)
  | .bad => true
  | .data _ => false
/-- The lanes of a port. -/
def lanesOf (c : Nat) : List Nat := (List.range (portLanes c)).map (portLane0 c + ·)
/-- On each active lane the stream begins with the first block that is neither a TRAIN nor a MARK: what stands before it is the
end of the partner's training (log entry 123). The other lanes carry nothing (R276). -/
def State.streamBegin (s : State) (c : Nat) : State :=
  (lanesOf c).foldl (fun s l => s.setLane l (fun x =>
    if l ∉ s.actLanes c then { x with blks := [] }
    else if x.strm then x
    else
      let r := x.blks.dropWhile (fun b => b.2.isOuter)
      { x with blks := r, strm := !r.isEmpty })) s
/-- The first block each lane of a list holds. -/
def State.heads (s : State) (ls : List Nat) : List (Nat × Blk) := ls.map (fun l => (l, ((s.lane l).blks.head?.map (·.2)).getD .bad))
/-- Take the first block of each lane of a list. -/
def State.popBlks (s : State) (ls : List Nat) : State := ls.foldl (fun s l => s.setLane l (fun x => { x with blks := x.blks.drop 1 })) s

/-- One round of the stream (R270, R271): a block of every active lane, lowest first. In a round of MARKs a lane without a valid
block had a corrupted one. Lanes that reach a MARK before others wait for them, and what those carry meanwhile is errored; those
that are more than 64 positions late are not aligned. -/
def State.streamRound (s : State) (c : Nat) : State :=
  let ls := s.actLanes c
  let hs := s.heads ls
  let marks := hs.filter (fun h => h.2.isMark)
  let others := hs.filter (fun h => !h.2.isMark)
  if marks.isEmpty then (s.popBlks ls).feed c (hs.map (·.2))
  else if others.all (fun h => h.2 = .bad) then
    (s.popBlks ls).setLink c (fun l => { l with late := 0 })
  else
    let k := (s.link c).late + 1
    let s1 := ((s.popBlks (others.map (·.1))).setLink c (fun l => { l with late := k })).feed c (others.map (fun _ => .bad))
    if 64 < k then
      others.foldl (fun s h => (s.setLane h.1 (fun x => { x with aligned := false })).laneLost h.1) (s1.setLink c (fun l => { l with late := 0 }))
    else s1

/-- The first block of each lane of a list is taken outside the stream, as long as the port does not enter UP meanwhile. -/
def State.outerTurn (s : State) (c : Nat) (ls : List Nat) : State :=
  let was := s.up c
  ls.foldl (fun s l =>
    match (s.lane l).blks with
    | b :: r => if s.up c ∧ !was then s else (s.setLane l (fun x => { x with blks := r })).outerBlk c (laneLocal l) b.1 b.2
    | [] => s) s
/-- One turn of a port over the blocks its lanes hold. In UP it is a round of the stream, once every active lane has a block of it;
before that, in announced idle, the TRAIN and MARK blocks of the burst. Else it is the first block of each lane that holds one. -/
def State.portTurn (s : State) (c : Nat) : State :=
  let held (l : Nat) : Bool := !(s.lane l).blks.isEmpty
  let outer (l : Nat) : Bool := !(s.lane l).strm && (s.lane l).blks.head?.any (fun b => b.2.isOuter)
  if !s.up c then s.outerTurn c ((lanesOf c).filter held)
  else
    let ls := (s.actLanes c).filter outer
    if s.fld (statReg c) portStat_RXIDLE = 1 ∧ !ls.isEmpty then s.outerTurn c ls
    else
      let s1 := s.streamBegin c
      if (s1.actLanes c).all (fun l => (s1.lane l).strm && !(s1.lane l).blks.isEmpty) then s1.streamRound c else s1

/-- What the lanes of a port did, in order; where words reached their docks, the docks are drained, and the port takes what has become
whole blocks (R20, R21). -/
def State.laneWork (s : State) (c : Nat) (evts : List LaneEvt) : State :=
  let s1 := evts.foldl (fun s e => s.laneEvt c e) s
  let ls := lanesOf c
  if evts.any (fun e => match e with | .word _ _ => true | _ => false) then
    let s2 := ls.foldl State.dockTake s1
    (List.range (ls.foldl (fun k l => k + (s2.lane l).blks.length) 0)).foldl (fun s _ => s.portTurn c) s2
  else s1

end Sys2Proof.Machine
end

