-- ==== Sys2Proof/Machine/LinkRows.lean ====
section
/-! DEFINITION. The rows of lanes and links: lock, marks, training, control blocks, packets received, timers and loss
(spec/08_lanes_links.md R268 to R307). -/

namespace Sys2Proof.Machine

/-! ### What arrives -/

/-- LANE_BLOCK_LOCK (R268). -/
def execLaneBlockLock (lane : Nat) (s : State) : Host.Outcome State Fault Refusal :=
  ifWf (Instr.wf (.laneBlockLock lane)) (s.onLive (s.laneLock lane))
/-- LANE_LOCK_LOSS (R268). -/
def execLaneLockLoss (lane : Nat) (s : State) : Host.Outcome State Fault Refusal :=
  ifWf (Instr.wf (.laneLockLoss lane)) (s.onLive (s.lockLoss lane))
/-- MARK_RECEIVE (R271). -/
def execMarkReceive (port : Nat) (marks : List MarkBlk) (s : State) : Host.Outcome State Fault Refusal :=
  ifWf (Instr.wf (.markReceive port marks)) (s.onLive (s.markRound port marks))
/-- TRAIN_RECEIVE (R274 to R276, R280, R298). -/
def execTrainReceive (port : Nat) (t : TrainBlk) (s : State) : Host.Outcome State Fault Refusal :=
  ifWf (Instr.wf (.trainReceive port t)) (s.onLive (s.trainRx port t))
/-- START_RECEIVE (R290). -/
def execStartReceive (port : Nat) (lseq : BitVec 16) (s : State) : Host.Outcome State Fault Refusal :=
  ifWf (Instr.wf (.startReceive port lseq)) (s.onLive (s.startRx port lseq.toNat))
/-- CREDIT_RECEIVE (R284). -/
def execCreditReceive (port chan : Nat) (g : BitVec 16) (s : State) : Host.Outcome State Fault Refusal :=
  ifWf (Instr.wf (.creditReceive port chan g)) (s.onLive (s.creditRx port chan g.toNat))
/-- ACK_BLOCK_RECEIVE (R291, R292). -/
def execAckBlockReceive (port : Nat) (lseq : BitVec 16) (s : State) : Host.Outcome State Fault Refusal :=
  ifWf (Instr.wf (.ackBlockReceive port lseq)) (s.onLive (s.ackRx port lseq.toNat))
/-- NAK_RECEIVE (R293, R295). -/
def execNakReceive (port : Nat) (lseq : BitVec 16) (s : State) : Host.Outcome State Fault Refusal :=
  ifWf (Instr.wf (.nakReceive port lseq)) (s.onLive (s.nakRx port lseq.toNat))
/-- IDLE_ENTER_RECEIVE (R297, R301). -/
def execIdleEnterReceive (port : Nat) (off : Bool) (s : State) : Host.Outcome State Fault Refusal :=
  ifWf (Instr.wf (.idleEnterReceive port off)) (s.onLive (s.idleRx port off))

/-- LINK_PACKET_RECEIVE: what the lanes of a port did; what the words that reached its docks spell; and the packets delimited, which
a port in UP takes (log entry 123). -/
def State.linkRx (s : State) (c : Nat) (pkts : List (List Byte)) (t : Option SealTag) (evts : List LaneEvt) : State :=
  let s0 := (s.burstEnd c).laneWork c evts
  if pkts.isEmpty || !s0.up c || decide (s0.fld (statReg c) portStat_RXIDLE = 1) then s0
  else if evts.any (s.errored c) then (if (s0.link c).resync then s0 else s0.lcrcFail c)
  else match t with
    | some x => s0.sealedPkts c pkts x
    | none => pkts.foldl (fun s b => s.plainPkt c b) s0
def execLinkPacketReceive (port : Nat) (pkts : List (List Byte)) (sealTag : Option SealTag) (evts : List LaneEvt) (s : State) :
    Host.Outcome State Fault Refusal :=
  ifWf (Instr.wf (.linkPacketReceive port pkts sealTag evts)) (s.onLive (s.linkRx port pkts sealTag evts))

/-! ### Timers of training -/

/-- MISMATCH_TIMER (R274). -/
def State.mismatchEnd (s : State) (c : Nat) : State :=
  if s.pst c = psMISMATCH ∧ s.due (s.link c).since (ms 1) then s.enterLock c else s
def execMismatchTimer (port : Nat) (s : State) : Host.Outcome State Fault Refusal :=
  ifWf (Instr.wf (.mismatchTimer port)) (s.onLive (s.mismatchEnd port))

/-- TRAINING_TIMEOUT (R277). -/
def State.trainLate (s : State) (c : Nat) : State :=
  if s.pst c ∈ [psLOCK, psALIGN, psMISMATCH] ∧ s.due (s.link c).lockAt (ms 20) then
    ((s.count (errReg c) portErr_TRTO 1).portEvent c 0x05).enterLock c
  else s
def execTrainingTimeout (port : Nat) (s : State) : Host.Outcome State Fault Refusal :=
  ifWf (Instr.wf (.trainingTimeout port)) (s.onLive (s.trainLate port))

/-- RETRAIN_LOCK_WAIT (R278): the lanes of the previous mask, and those returned to service since (R306), that are not aligned
after 10 µs are fenced. -/
def State.lockWait (s : State) (c : Nat) : State :=
  let bad := (s.link c).prev &&& ~~~(s.fencedLanes c) &&& ~~~(s.ownMask c)
  if s.pst c ≠ psRETRAIN then s
  else if bad = 0 then s.train c
  else if s.due (s.link c).since (us 10) then
    ((s.setFld (statReg c) portStat_HWFENCE (s.fld (statReg c) portStat_HWFENCE ||| bad.toNat)).lanesFenced c bad).train c
  else s
def execRetrainLockWait (port : Nat) (s : State) : Host.Outcome State Fault Refusal :=
  ifWf (Instr.wf (.retrainLockWait port)) (s.onLive (s.lockWait port))

/-- DOWN_TIMER (R274). -/
def State.downEnd (s : State) (c : Nat) : State :=
  if s.pst c = psDOWN ∧ s.due (s.link c).since (us 1) ∧ s.mayTrain c then s.enterLock c else s
def execDownTimer (port : Nat) (s : State) : Host.Outcome State Fault Refusal :=
  ifWf (Instr.wf (.downTimer port)) (s.onLive (s.downEnd port))

/-! ### Timers of a port in UP -/

/-- CREDIT_REFRESH (R284): G of every channel, at least every 1 µs while the port is UP; in announced idle the blocks pending end
it (R298). -/
def State.creditsAgain (s : State) (c : Nat) : State :=
  if s.up c ∧ s.due (s.link c).refAt (us 1) then
    let s1 := s.setLink c (fun x => { x with refAt := s.now })
    (portChans c).foldl (fun s ch => s.pendCtl c (ctlCredit ch (nthD (s.link c).grantG ch))) s1
  else s
def execCreditRefresh (port : Nat) (s : State) : Host.Outcome State Fault Refusal :=
  ifWf (Instr.wf (.creditRefresh port)) (s.onLive (s.creditsAgain port))

/-- CONTROL_BLOCK_FORCED (R273): the blocks pending for 64 ns are placed. -/
def State.ctlForced (s : State) (c : Nat) : State :=
  let old (x : BitVec 64 × Nat) : Bool := s.due x.2 (ns 64)
  if s.up c ∧ s.fld (statReg c) portStat_TXIDLE = 0 then
    let l := s.link c
    (l.ctl.filter old).foldl (fun s b => s.linkEmit c (.ctl c b.1)) (s.setLink c (fun x => { x with ctl := x.ctl.filter (fun b => !old b) }))
  else s
def execControlBlockForced (port : Nat) (s : State) : Host.Outcome State Fault Refusal :=
  ifWf (Instr.wf (.controlBlockForced port)) (s.onLive (s.ctlForced port))

/-- The replay time of a port (R294). -/
def State.replayTime (s : State) (c : Nat) : Nat :=
  match s.fld (cfgReg c) portCfg_REACH with
  | 0 => ns 250
  | 1 => ns 300
  | 2 => ns 600
  | _ => ns 600 + ns 10 * s.fld (cfgReg c) portCfg_FIBRE
/-- REPLAY_TIMEOUT (R294). -/
def State.replayLate (s : State) (c : Nat) : State :=
  if s.up c ∧ !(s.unacked c).isEmpty ∧ s.due (s.link c).ackAt (s.replayTime c) then s.replayFrom c (s.oldest c) else s
def execReplayTimeout (port : Nat) (s : State) : Host.Outcome State Fault Refusal :=
  ifWf (Instr.wf (.replayTimeout port)) (s.onLive (s.replayLate port))

/-- Does the cause of a loss hold (R302)? What 256 ns without a valid block are, the event says. -/
def State.lossHolds (s : State) (c : Nat) (x : LossCause) : Bool :=
  let rxIdle := decide (s.fld (statReg c) portStat_RXIDLE = 1)
  let both := s.up c || decide (s.pst c = psRETRAIN)
  match x with
  | .silence => both && !rxIdle
  | .noPilot => both && rxIdle && (s.actLanes c).all (fun l => (s.lane l).dark.any (fun t => s.due t (ns 256)))
  | .retrain => decide (s.pst c = psRETRAIN) && s.due (s.link c).since (us 100)
  | .narrow => decide (s.pst c = psRETRAIN)
      && decide (popcount (s.ownMask c &&& (s.link c).partner.getD 0xFFFF).toNat 16 < portMin c)
/-- LINK_LOSS (R302, R303). -/
def State.linkLost (s : State) (c : Nat) (x : LossCause) : State := if s.lossHolds c x then s.portLoss c psDOWN else s
def execLinkLoss (port : Nat) (cause : LossCause) (s : State) : Host.Outcome State Fault Refusal :=
  ifWf (Instr.wf (.linkLoss port cause)) (s.onLive (s.linkLost port cause))

/-! ### Announced idle (R297, R298) -/

/-- May the transmit direction enter announced idle (R297)? -/
def State.mayIdle (s : State) (c : Nat) : Bool :=
  let cfg := s.reg (cfgReg c)
  s.up c && decide (s.fld (statReg c) portStat_TXIDLE = 0 ∧ fget cfg portCfg_FASTIDLE = 1 ∧ s.pwState (portPart c) = 1)
    && s.due (s.link c).lastTx (ns (100 * fget cfg portCfg_IDLEDLY)) && (s.unacked c).isEmpty && (s.link c).ctl.isEmpty
/-- ANNOUNCED_IDLE_ENTRY (R297): IDLE_ENTER on every active lane, and then the pilot (R296). -/
def State.idleTx (s : State) (c : Nat) : State :=
  if s.mayIdle c then
    let s1 := (s.linkEmit c (.ctl c (BitVec.ofNat 64 ctIDLE))).setFld (statReg c) portStat_TXIDLE 1
    s1.emit (.pilot c (s1.pilotLanes c))
  else s
def execAnnouncedIdleEntry (port : Nat) (s : State) : Host.Outcome State Fault Refusal :=
  ifWf (Instr.wf (.announcedIdleEntry port)) (s.onLive (s.idleTx port))

/-- FAST_EXIT (R298): there is a packet or a control block to send; the burst goes out, and the stream begins again behind it, 128 ns
from now. -/
def State.exitIdle (s : State) (c : Nat) : State :=
  if s.up c ∧ s.fld (statReg c) portStat_TXIDLE = 1 ∧ (s.sw.copies.any (Copy.boundFor c) ∨ !(s.link c).ctl.isEmpty) then
    let m := BitVec.ofNat 16 (s.fld (statReg c) portStat_ACTIVE)
    ((s.setFld (statReg c) portStat_TXIDLE 0).emit (.burst c m (s.link c).next)).setLink c
      (fun x => { x with lastTx := s.now, txAt := s.now + ns 128, txN := 0 })
  else s
def execFastExit (port : Nat) (s : State) : Host.Outcome State Fault Refusal :=
  ifWf (Instr.wf (.fastExit port)) (s.onLive (s.exitIdle port))

end Sys2Proof.Machine
end

