-- ==== Sys2Proof/Machine/LowPower.lean ====
section
/-! DEFINITION. The still and dormant states of a partition (spec/17_management.md R551 to R557). -/

namespace Sys2Proof.Machine

/-- PSTATE_STILL (R551, R556). -/
def execPstateStill (s : State) : Host.Outcome State Fault Refusal :=
  .next (s.onLive (s.regRow (fun r v => match r with | .pstate _ => decide (fget v pstate_REQ = 1) | _ => false)))
/-- PSTATE_RUN (R551, R556). -/
def execPstateRun (s : State) : Host.Outcome State Fault Refusal :=
  .next (s.onLive (s.regRow (fun r v => match r with | .pstate _ => decide (fget v pstate_REQ = 0) | _ => false)))
/-- PSTATE_DORMANT (R552, R554). -/
def execPstateDormant (s : State) : Host.Outcome State Fault Refusal :=
  .next (s.onLive (s.regRow (fun r v => match r with | .pstate _ => decide (fget v pstate_REQ = 2) | _ => false)))

/-- Payload of IDLE_ENTER (R272). -/
def ctlIdle (off : Bool) : BitVec 64 := BitVec.ofNat 64 (ctIDLE + off.toNat <<< 8)

/-- A port is sent to sleep (R301): IDLE_ENTER with OFF = 1, then its transmitters are off. -/
def State.portSleep (s : State) (c : Nat) : State :=
  let s1 := if s.pst c ∈ [psUP, psRETRAIN] then s.linkEmit c (.ctl c (ctlIdle true)) else s
  (s1.silence c psOFF).emit (.off c)

/-- The end of dormant entry (R554): ports off, remaining copies discarded, the fields not kept through D at reset. A write
of REQ during entry takes effect now (R556). -/
def State.sleep (s : State) (n : Nat) : State :=
  let s1 := (partPorts n).foldl (fun s c => if s.pst c = psOFF then s else s.portSleep c) s
  let s2 := (s1.discardPart n).retain .dormant (fun r => decide (r.owner = some n))
  let s3 := (s2.setFld (.rcvStat n) rcvStat_PSTATE ptDORMANT).setPart n (fun p => { p with dark := true, stuck := [], gate := false })
  if s3.fld (.pstate n) pstate_REQ = 2 then s3.setFld (.pstate n) pstate_STATE 3
  else (s3.setFld (.pstate n) pstate_STATE 4).setPart n (fun p => { p with enterAt := s3.now })

/-- DORMANT_DRAIN_END: the outputs of Pn have drained, or 100 µs have passed. -/
def execDormantDrainEnd (n : Nat) (s : State) : Host.Outcome State Fault Refusal :=
  ifWf (Instr.wf (.dormantDrainEnd n))
    (s.onLive (if s.pwState n = 2 ∧ (s.sw.copies.all (fun x => x.part ≠ n) ∨ s.due (s.part n).enterAt (us 100))
      then s.sleep n else s))

/-- WAKE_DONE (R52, R556): the domain is enabled, STATE follows REQ, the power demand applies again (R435), and the ports train. -/
def State.wake (s : State) (n : Nat) : State :=
  let s1 := (s.setFld (.rcvStat n) rcvStat_PSTATE ptRUN).setFld (.pstate n) pstate_STATE (s.fld (.pstate n) pstate_REQ)
  (((s1.enable n).setDemand n paceStat_SPWR s1.pw.demand).sensorsBack n).trainPorts (partPorts n)
def execWakeDone (n : Nat) (s : State) : Host.Outcome State Fault Refusal :=
  ifWf (Instr.wf (.wakeDone n)) (s.onLive (if s.pwState n = 4 ∧ s.voltOk then s.wake n else s))

end Sys2Proof.Machine
end

