-- ==== Sys2Proof/Machine/Memory.lean ====
section
/-! DEFINITION. The rows of the SerDes control bus, the memory ports and the store cache (spec/01_boundary.md R23 to R33,
spec/12_deep_store.md R403 to R412, spec/04_memory_model.md R161). -/

namespace Sys2Proof.Machine

/-! ### The SerDes control bus -/

/-- SDB_ANSWER (R23): GO clears; read data lands in DATA. -/
def State.sdbAnswered (s : State) (data : Nat) : State :=
  match s.sdb.acc with
  | none => s
  | some (_, wr) => (if wr then s else s.setFld .sdbData sdbData_DATA data).sdbEnd true
def execSdbAnswer (data : BitVec 32) (s : State) : Host.Outcome State Fault Refusal :=
  .next (s.onLive (s.sdbAnswered data.toNat))

/-- SDB_TIMEOUT (R24): no answer within 2 µs of GO. -/
def State.sdbLate (s : State) : State :=
  match s.sdb.acc with
  | none => s
  | some (_, wr) =>
    if s.due s.sdb.goAt (us 2) then
      ((if wr then s else s.setFld .sdbData sdbData_DATA 0xFFFFFFFF).sdbEnd false).blockEvent 0x30 ⟨syPART, 6⟩
    else s
def execSdbTimeout (s : State) : Host.Outcome State Fault Refusal := .next (s.onLive s.sdbLate)

/-! ### The memory ports -/

/-- An outstanding request. -/
def State.memReq (s : State) (id : Nat) : Option MReq := s.st.reqs.find? (fun r => r.id = id)
/-- Is a request's turn not come? -/
def State.memBehind (s : State) (r : MReq) : Bool := r.behind s.st.reqs
/-- Drop a request. -/
def State.reqDrop (s : State) (id : Nat) : State :=
  { s with st := { s.st with reqs := turnsFrom s.now s.st.reqs (dropFirst (fun r => decide (r.id = id)) s.st.reqs) } }

/-- Poison a tile (R30). -/
def Store.poisonTile (m : Store) (t : Nat) : Store := if t ∈ m.poison then m else { m with poison := m.poison ++ [t] }
/-- The checks of R404 on a tile read with a mark: the failing status, and the counters and events. -/
def State.tileCheck (s : State) (t : Nat) (mark : MemMark) : Option Nat × State :=
  let p := t % 16
  if mark = .uncorrectable ∨ t ∈ s.st.poison then
    let s1 := { s with st := s.st.poisonTile t }
    (some stPOISON, (s1.count (.dsErr p) dsErr_POISON 1).memEvent p 0x20)
  else
    let s1 := if mark = .corrected then (s.count (.dsErr p) dsErr_CORR 1).memEvent p 0x21 else s
    if firstChecked ≤ t ∧ (mark = .altered ∨ s1.st.tileStatus t = stCHECK) then
      (some stCHECK, (s1.count (.dsErr p) dsErr_TCRC 1).memEvent p 0x22)
    else (none, s1)

/-- Fill the line of a tile from memory, or use the one another fill has brought meanwhile (R409, R162). -/
def State.fillTile (s : State) (t : Nat) : Line × State :=
  let f := s.freshLine t
  match f.1 with
  | some l => (l, f.2)
  | none =>
    let l : Line := { tile := t, data := f.2.st.read (4096 * t) 4096, chk := f.2.st.check t, inval := none }
    (l, { f.2 with st := f.2.st.fillLine l })

/-- A tile that has been read and has passed its checks is used for a request that is no longer outstanding (R405,
R410). -/
def State.memUse (s : State) (r : MReq) : State :=
  match r.kind with
  | .fill =>
    let f := s.fillTile r.tile
    f.2.pieceDone r.job r.off (slice f.1.data r.lo r.len) none
  | .fillw =>
    let f := s.fillTile r.tile
    (f.2.applyLine f.1 r.lo r.data false).pieceDone r.job r.off [] none
  | .atom =>
    let f := s.fillTile r.tile
    let op (o n : Nat) : Nat := bytesNat (Machine.slice r.data o n)
    f.2.lineAtomic f.1 r.lo r.len (op 16 1) (op 0 8) (op 8 8) r.job r.off false
  | _ => s.pieceDone r.job r.off (s.st.read (4096 * r.tile + r.lo) r.len) none

/-- MEMORY_READ_RETURN (R30, R404, R405, R409). The read of a merge is followed by its write, in the same turn (R406). -/
def State.memRead (s : State) (id : Nat) (mark : MemMark) : State :=
  match s.memReq id with
  | none => s
  | some r =>
    if r.kind = .write ∨ s.memBehind r then s
    else
      let c := s.tileCheck r.tile mark
      match c.1 with
      | some st => (c.2.reqDrop id).pieceDone r.job r.off [] (some st)
      | none =>
        if r.kind = .merge then
          let rs := updFirst (fun (x : MReq) => decide (x.id = id)) (fun x => { x with kind := .write, at' := s.now }) c.2.st.reqs
          { c.2 with st := { c.2.st with reqs := rs } }
        else (c.2.reqDrop id).memUse r
def execMemoryReadReturn (id : Nat) (mark : MemMark) (s : State) : Host.Outcome State Fault Refusal :=
  .next (s.onLive (s.memRead id mark))

/-- A write and its check word reach a tile (R32, R405, R407). A whole tile ends poison; part of a tile that fails its
check leaves it failing. -/
def Store.memWrite (m : Store) (t lo : Nat) (d : List Byte) : Store :=
  if lo = 0 ∧ d.length = 4096 then { m.writeTile t lo d with poison := m.poison.filter (fun x => x ≠ t) }
  else if m.tileStatus t = stCHECK then m.write (4096 * t + lo) d
  else m.writeTile t lo d
/-- A frame-carried write of a tile has been performed: its line is to be invalidated (R161). -/
def Store.stale (m : Store) (t now : Nat) : Store :=
  { m with lines := updAll (fun l => decide (l.tile = t)) (fun l => { l with inval := some now }) m.lines }

/-- MEMORY_WRITE_ANSWER (R142). -/
def State.memWritten (s : State) (id : Nat) : State :=
  match s.memReq id with
  | none => s
  | some r =>
    if r.kind ≠ .write ∨ s.memBehind r then s
    else
      let s1 := s.reqDrop id
      let m := s1.st.memWrite r.tile r.lo r.data
      let s2 := { s1 with st := if r.part.isSome then m.stale r.tile s.now else m }
      if r.thru then s2 else s2.pieceDone r.job r.off [] none
def execMemoryWriteAnswer (id : Nat) (s : State) : Host.Outcome State Fault Refusal := .next (s.onLive (s.memWritten id))

/-- MEMORY_PORT_TIMEOUT (R31): no answer within 10 µs of the time the request's turn came. Whether the data of a write had reached its tile is free; the check
word stays (R32, R412). -/
def State.memLate (s : State) (id : Nat) : State :=
  match s.memReq id with
  | none => s
  | some r =>
    if !s.due r.at' (us 10) ∨ s.memBehind r then s
    else
      let p := r.tile % 16
      let s1 := ((s.cancelReqs (fun x => decide (x.id = id))).count (.dsErr p) dsErr_PTO 1).memEvent p 0x23
      if r.thru then s1 else s1.pieceDone r.job r.off [] (some stCHECK)
def execMemoryPortTimeout (id : Nat) (s : State) : Host.Outcome State Fault Refusal := .next (s.onLive (s.memLate id))

/-- STORE_CACHE_INVALIDATE (R161). -/
def State.invalidate (s : State) (t : Nat) : State :=
  { s with st := { s.st with lines := s.st.lines.filter (fun l => !(decide (l.tile = t) && l.inval.isSome)) } }
def execStoreCacheInvalidate (tile : Nat) (s : State) : Host.Outcome State Fault Refusal :=
  .next (s.onLive (s.invalidate tile))

end Sys2Proof.Machine
end

