-- ==== Sys2Proof/Machine/Queues.lean ====
section
/-! DEFINITION. The rows of the queue manager: pushes, spilled contexts, draining (spec/02_command_queues.md R68 to R77). -/

namespace Sys2Proof.Machine

/-- Discard a push: one event against the port that sent it (R69). -/
def State.pushDrop (s : State) (c : Nat) : State := s.portEvent c 0x18

/-- The record of a push that overruns the credits, OVR, and ERROR (R76); its OPC is 0x00 (R83). -/
def State.overrun (s : State) (c q : Nat) (cmd : Cmd) : State :=
  let s1 := s.writeRec q c (BitVec.ofNat 64 (recWord0 cmd.tag stFORMAT 0 q (s.gen (portPart c)) 0))
    (BitVec.ofNat 64 (resFmt 4 0)) false
  (s1.updCtx q (fun x => { x with w2 := fset x.w2 qOVR 1 })).setQState q qsERROR

/-- May a confidential slice's queue on port `c` take pushes (R521)? -/
def State.pushMasked (s : State) (c sl : Nat) : Bool := !s.conf sl || nbit (s.portMask s.active sl s.node) c

/-- Take a push whose context is on die (R69, R76, R521). -/
def State.pushTake (s : State) (c q : Nat) (cmd : Cmd) : State :=
  let x := s.ctx q
  let sl := fget x.w0 qSLICE
  if fget x.w0 qPORT ≠ c ∨ fget x.w0 qSTATE ≠ qsACTIVE ∨ !s.pushMasked c sl then s.pushDrop c
  else if fget x.w0 qCREDITS ≤ fget x.w2 qINFL then s.overrun c q cmd
  else (s.putCtx x).accept q c sl cmd

/-- Is a delivered push one to take next: no push of its port waits before it (R73)? -/
def State.pushReady (s : State) (e : InEnt) : Bool :=
  decide (e.pkt.opc = opPUSH) && s.runs e.part && !s.tp.pushW.any (fun w => decide (w.port = e.port))

/-- COMMAND_PUSH: the first push that may be taken. One whose end-to-end CRC fails is discarded (R263). -/
def State.push (s : State) : State :=
  match s.sw.inbox.find? s.pushReady with
  | none => s
  | some e =>
    let s1 : State := { s with sw := { s.sw with inbox := dropFirst s.pushReady s.sw.inbox } }
    let c := e.port
    let q := nfld e.pkt.ext.toNat 0 20
    let cmd := Cmd.ofBytes e.pkt.pay
    if e.pkt.e2e ≠ e.pkt.e2eOf ∨ q = 0 then s1.pushDrop c
    else if (s1.ctxDie q).isSome then s1.pushTake c q cmd
    else { s1 with tp := { s1.tp with pushW := s1.tp.pushW ++ [{ port := c, qid := q, cmd, slot := s1.ctxRoom }] } }
def execCommandPush (s : State) : Host.Outcome State Fault Refusal := .next (s.onLive s.push)

/-- PUSH_SLOT_FREED (R71, R73): the push that waits on a port has a slot, and its context is fetched; credits held back are
granted. A TABLE_WRITE that waits for a slot goes on. -/
def State.pushSlot (s : State) (c : Nat) : State :=
  if s.ctxRoom then
    let give (w : PushW) : PushW := { w with slot := true }
    let s1 : State := { s with tp := { s.tp with pushW := updFirst (fun w => decide (w.port = c) && !w.slot) give s.tp.pushW } }
    (if s1.up c then s1.regrant c else s1).tabResume
  else s
def execPushSlotFreed (port : Nat) (s : State) : Host.Outcome State Fault Refusal :=
  ifWf (Instr.wf (.pushSlotFreed port)) (s.onLive (s.pushSlot port))

/-- SPILLED_CONTEXT_FETCH (R72, R74): the context of a waiting push arrives, its tile read with a mark (R404). A context that
another push has brought on die meanwhile is used as it is. -/
def State.ctxFetch (s : State) (q : Nat) (mark : MemMark) : State :=
  let mine (w : PushW) : Bool := decide (w.qid = q) && w.slot
  match s.tp.pushW.find? mine with
  | none => s
  | some w =>
    let s1 : State := { s with tp := { s.tp with pushW := dropFirst mine s.tp.pushW } }
    if (s.ctxDie q).isSome then (s1.pushTake w.port q w.cmd).tabResume
    else if !s.ctxRoom then
      let lose (x : PushW) : PushW := { x with slot := false }
      { s with tp := { s.tp with pushW := updFirst mine lose s.tp.pushW } }
    else
      let c := s1.tileCheck (spillAddr q / 4096) mark
      let s2 := c.2.putCtx (c.2.ctxSpilled q)
      (match c.1 with
        | none => s2.pushTake w.port q w.cmd
        | some _ => (s2.setQState q qsERROR).blockEvent 0x19 ⟨syUNIT, 0⟩).tabResume
def execSpilledContextFetch (qid : Nat) (mark : MemMark) (s : State) : Host.Outcome State Fault Refusal :=
  ifWf (Instr.wf (.spilledContextFetch qid mark)) (s.onLive (s.ctxFetch qid mark))

/-- QUEUE_DRAINED (R76 and the queue state table). -/
def State.drained (s : State) (q : Nat) : State :=
  let x := s.ctx q
  if fget x.w0 qSTATE = qsDRAINING ∧ fget x.w2 qINFL = 0 ∧ !s.recOut q then s.setQState q qsFREE else s
def execQueueDrained (qid : Nat) (s : State) : Host.Outcome State Fault Refusal :=
  ifWf (Instr.wf (.queueDrained qid)) (s.onLive (s.drained qid))

end Sys2Proof.Machine
end

