-- ==== Sys2Proof/Machine/SwitchRows.lean ====
section
/-! DEFINITION. The rows of the switch core: admission, selection at an output, held cells (spec/09_switch_core.md R315 to
R337). -/

namespace Sys2Proof.Machine

/-- PACKET_ADMIT (R315, R321): a first attempt. -/
def execPacketAdmit (src : AdmitSrc) (s : State) : Host.Outcome State Fault Refusal :=
  ifWf (Instr.wf (.packetAdmit src)) (s.onLive (s.tryAdmit src))
/-- ADMISSION_RETRY (R316): a further attempt for what waits. -/
def execAdmissionRetry (src : AdmitSrc) (s : State) : Host.Outcome State Fault Refusal :=
  ifWf (Instr.wf (.admissionRetry src)) (s.onLive (s.tryAdmit src))
/-- OUTPUT_SELECT (R326, R328, R337, R379). `upset`: a bit that changes in a buffer of the partition before it (R325). -/
def execOutputSelect (n o : Nat) (upset : Option Upset) (s : State) : Host.Outcome State Fault Refusal :=
  ifWf (Instr.wf (.outputSelect n o upset)) (s.onLive (State.outputStep (upset.elim s (s.strike n)) n o))
/-- HELD_CELL_EXPIRY (R249, R329). -/
def execHeldCellExpiry (s : State) : Host.Outcome State Fault Refusal := .next (s.onLive s.heldExpire)

end Sys2Proof.Machine
end

