-- ==== Sys2Proof/Machine/Dispatch.lean ====
section
/-! DEFINITION. Dispatch: one arm per command, each one call of its meaning. -/

namespace Sys2Proof.Machine

/-- The effect of a command on everything but the queue. -/
def exec (i : Instr) (s : State) : Host.Outcome State Fault Refusal :=
  match i with
  | .blockPowerUp => Sys2Proof.Machine.execBlockPowerUp s
  | .blockPowerOff => Sys2Proof.Machine.execBlockPowerOff s
  | .systemAreaInitDone => Sys2Proof.Machine.execSystemAreaInitDone s
  | .blockResetAssert => Sys2Proof.Machine.execBlockResetAssert s
  | .blockResetComplete => Sys2Proof.Machine.execBlockResetComplete s
  | .partitionResetAssert n => Sys2Proof.Machine.execPartitionResetAssert n s
  | .partitionResetLineTake n => Sys2Proof.Machine.execPartitionResetLineTake n s
  | .partitionResetRelease n => Sys2Proof.Machine.execPartitionResetRelease n s
  | .windowEnableChange on => Sys2Proof.Machine.execWindowEnableChange on s
  | .debugWindowAccess write addr data => Sys2Proof.Machine.execDebugWindowAccess write addr data s
  | .keyPortLoad r => Sys2Proof.Machine.execKeyPortLoad r s
  | .keyPortActivate r => Sys2Proof.Machine.execKeyPortActivate r s
  | .keyPortErase r => Sys2Proof.Machine.execKeyPortErase r s
  | .keyPortConf r => Sys2Proof.Machine.execKeyPortConf r s
  | .keyPortBind r => Sys2Proof.Machine.execKeyPortBind r s
  | .keyPortGrant r => Sys2Proof.Machine.execKeyPortGrant r s
  | .keyPortHold r => Sys2Proof.Machine.execKeyPortHold r s
  | .keyPortRelease r => Sys2Proof.Machine.execKeyPortRelease r s
  | .keyPortWipe r => Sys2Proof.Machine.execKeyPortWipe r s
  | .droopTrip k => Sys2Proof.Machine.execDroopTrip k s
  | .droopClear k => Sys2Proof.Machine.execDroopClear k s
  | .droopHoldExpiry n => Sys2Proof.Machine.execDroopHoldExpiry n s
  | .droopDescentStep n => Sys2Proof.Machine.execDroopDescentStep n s
  | .droopStuck k => Sys2Proof.Machine.execDroopStuck k s
  | .thermalReading m reading => Sys2Proof.Machine.execThermalReading m reading s
  | .thermalStale m => Sys2Proof.Machine.execThermalStale m s
  | .thermalDemandStep n => Sys2Proof.Machine.execThermalDemandStep n s
  | .thermalCritical m => Sys2Proof.Machine.execThermalCritical m s
  | .trefLoss => Sys2Proof.Machine.execTrefLoss s
  | .trefReturn => Sys2Proof.Machine.execTrefReturn s
  | .powerEstimate watts => Sys2Proof.Machine.execPowerEstimate watts s
  | .powerDemandLower => Sys2Proof.Machine.execPowerDemandLower s
  | .powerDemandHeld => Sys2Proof.Machine.execPowerDemandHeld s
  | .wearTick => Sys2Proof.Machine.execWearTick s
  | .replicaMeasure n ps => Sys2Proof.Machine.execReplicaMeasure n ps s
  | .sdbGo => Sys2Proof.Machine.execSdbGo s
  | .sdbAnswer data => Sys2Proof.Machine.execSdbAnswer data s
  | .sdbTimeout => Sys2Proof.Machine.execSdbTimeout s
  | .memoryReadReturn id mark => Sys2Proof.Machine.execMemoryReadReturn id mark s
  | .memoryWriteAnswer id => Sys2Proof.Machine.execMemoryWriteAnswer id s
  | .memoryPortTimeout id => Sys2Proof.Machine.execMemoryPortTimeout id s
  | .storeCacheInvalidate tile => Sys2Proof.Machine.execStoreCacheInvalidate tile s
  | .mirrorUpdate => Sys2Proof.Machine.execMirrorUpdate s
  | .mgmtDoorbell tail => Sys2Proof.Machine.execMgmtDoorbell tail s
  | .mgmtCommandFetch cmd => Sys2Proof.Machine.execMgmtCommandFetch cmd s
  | .mgmtPortTimeout id => Sys2Proof.Machine.execMgmtPortTimeout id s
  | .mqCfgWrite => Sys2Proof.Machine.execMqCfgWrite s
  | .commandPush => Sys2Proof.Machine.execCommandPush s
  | .pushSlotFreed port => Sys2Proof.Machine.execPushSlotFreed port s
  | .spilledContextFetch qid mark => Sys2Proof.Machine.execSpilledContextFetch qid mark s
  | .queueDrained qid => Sys2Proof.Machine.execQueueDrained qid s
  | .put qid => Sys2Proof.Machine.execPut qid s
  | .putInline qid => Sys2Proof.Machine.execPutInline qid s
  | .get qid => Sys2Proof.Machine.execGet qid s
  | .copy qid => Sys2Proof.Machine.execCopy qid s
  | .atomicAddI32 qid => Sys2Proof.Machine.execAtomicAddI32 qid s
  | .atomicAddI64 qid => Sys2Proof.Machine.execAtomicAddI64 qid s
  | .atomicAddF32 qid => Sys2Proof.Machine.execAtomicAddF32 qid s
  | .atomicAddBf16x2 qid => Sys2Proof.Machine.execAtomicAddBf16x2 qid s
  | .atomicMinI64 qid => Sys2Proof.Machine.execAtomicMinI64 qid s
  | .atomicMaxI64 qid => Sys2Proof.Machine.execAtomicMaxI64 qid s
  | .atomicCas64 qid => Sys2Proof.Machine.execAtomicCas64 qid s
  | .atomicSwap64 qid => Sys2Proof.Machine.execAtomicSwap64 qid s
  | .syncAdd qid => Sys2Proof.Machine.execSyncAdd qid s
  | .syncSet qid => Sys2Proof.Machine.execSyncSet qid s
  | .syncWait qid => Sys2Proof.Machine.execSyncWait qid s
  | .fence qid => Sys2Proof.Machine.execFence qid s
  | .galleryContrib qid => Sys2Proof.Machine.execGalleryContrib qid s
  | .combineContrib qid => Sys2Proof.Machine.execCombineContrib qid s
  | .kvRotate qid => Sys2Proof.Machine.execKvRotate qid s
  | .regRead => Sys2Proof.Machine.execRegRead s
  | .regWrite => Sys2Proof.Machine.execRegWrite s
  | .tableWriteQueueContext => Sys2Proof.Machine.execTableWriteQueueContext s
  | .tableWriteRegion => Sys2Proof.Machine.execTableWriteRegion s
  | .tableWriteSequencer => Sys2Proof.Machine.execTableWriteSequencer s
  | .tableWriteRouting => Sys2Proof.Machine.execTableWriteRouting s
  | .epochSwap => Sys2Proof.Machine.execEpochSwap s
  | .gallerySetup => Sys2Proof.Machine.execGallerySetup s
  | .galleryTeardown => Sys2Proof.Machine.execGalleryTeardown s
  | .sliceCreate => Sys2Proof.Machine.execSliceCreate s
  | .sliceTeardown => Sys2Proof.Machine.execSliceTeardown s
  | .sliceTeardownDrain => Sys2Proof.Machine.execSliceTeardownDrain s
  | .scrub => Sys2Proof.Machine.execScrub s
  | .scanCrc => Sys2Proof.Machine.execScanCrc s
  | .dump => Sys2Proof.Machine.execDump s
  | .fwActivate => Sys2Proof.Machine.execFwActivate s
  | .fwActivateResponse refused => Sys2Proof.Machine.execFwActivateResponse refused s
  | .fwActivateTimeout => Sys2Proof.Machine.execFwActivateTimeout s
  | .faultAck => Sys2Proof.Machine.execFaultAck s
  | .laneTestStop => Sys2Proof.Machine.execLaneTestStop s
  | .laneTestPrbs31 => Sys2Proof.Machine.execLaneTestPrbs31 s
  | .laneTestPrbs13q => Sys2Proof.Machine.execLaneTestPrbs13q s
  | .laneTestNearLoop => Sys2Proof.Machine.execLaneTestNearLoop s
  | .laneTestFarLoop => Sys2Proof.Machine.execLaneTestFarLoop s
  | .attestSpdm => Sys2Proof.Machine.execAttestSpdm s
  | .attestManifest => Sys2Proof.Machine.execAttestManifest s
  | .attestMailboxPoll word0 word1 => Sys2Proof.Machine.execAttestMailboxPoll word0 word1 s
  | .attestTimeout => Sys2Proof.Machine.execAttestTimeout s
  | .mirrorHoldScan => Sys2Proof.Machine.execMirrorHoldScan s
  | .mirrorHoldTimeout => Sys2Proof.Machine.execMirrorHoldTimeout s
  | .dxCtlWrite => Sys2Proof.Machine.execDxCtlWrite s
  | .dxNodeWrite => Sys2Proof.Machine.execDxNodeWrite s
  | .dxRouteCtlWrite => Sys2Proof.Machine.execDxRouteCtlWrite s
  | .dxStrictWrite => Sys2Proof.Machine.execDxStrictWrite s
  | .dxRsvWrite => Sys2Proof.Machine.execDxRsvWrite s
  | .dxPortCfgWrite => Sys2Proof.Machine.execDxPortCfgWrite s
  | .hwfenceClear => Sys2Proof.Machine.execHwfenceClear s
  | .dxFltFenceWrite => Sys2Proof.Machine.execDxFltFenceWrite s
  | .dumpSlotRelease => Sys2Proof.Machine.execDumpSlotRelease s
  | .dxQuarRelease => Sys2Proof.Machine.execDxQuarRelease s
  | .dxRstCtlReq => Sys2Proof.Machine.execDxRstCtlReq s
  | .returnToService => Sys2Proof.Machine.execReturnToService s
  | .restart => Sys2Proof.Machine.execRestart s
  | .pstateStill => Sys2Proof.Machine.execPstateStill s
  | .pstateRun => Sys2Proof.Machine.execPstateRun s
  | .pstateDormant => Sys2Proof.Machine.execPstateDormant s
  | .dormantDrainEnd n => Sys2Proof.Machine.execDormantDrainEnd n s
  | .wakeDone n => Sys2Proof.Machine.execWakeDone n s
  | .dxFtNowWrite => Sys2Proof.Machine.execDxFtNowWrite s
  | .dxFtCfgWrite => Sys2Proof.Machine.execDxFtCfgWrite s
  | .dxWearWrite => Sys2Proof.Machine.execDxWearWrite s
  | .dxNoiseWrite => Sys2Proof.Machine.execDxNoiseWrite s
  | .dxSyncValWrite => Sys2Proof.Machine.execDxSyncValWrite s
  | .dxSyncOwnWrite => Sys2Proof.Machine.execDxSyncOwnWrite s
  | .dxCcCfgWrite => Sys2Proof.Machine.execDxCcCfgWrite s
  | .dxTelFiltWrite => Sys2Proof.Machine.execDxTelFiltWrite s
  | .dxCrcChWrite => Sys2Proof.Machine.execDxCrcChWrite s
  | .dxSmpRingWrite => Sys2Proof.Machine.execDxSmpRingWrite s
  | .dxSampleWrite => Sys2Proof.Machine.execDxSampleWrite s
  | .dxPoliceWrite => Sys2Proof.Machine.execDxPoliceWrite s
  | .laneBlockLock lane => Sys2Proof.Machine.execLaneBlockLock lane s
  | .laneLockLoss lane => Sys2Proof.Machine.execLaneLockLoss lane s
  | .markReceive port marks => Sys2Proof.Machine.execMarkReceive port marks s
  | .trainReceive port t => Sys2Proof.Machine.execTrainReceive port t s
  | .startReceive port lseq => Sys2Proof.Machine.execStartReceive port lseq s
  | .creditReceive port chan g => Sys2Proof.Machine.execCreditReceive port chan g s
  | .ackBlockReceive port lseq => Sys2Proof.Machine.execAckBlockReceive port lseq s
  | .nakReceive port lseq => Sys2Proof.Machine.execNakReceive port lseq s
  | .idleEnterReceive port off => Sys2Proof.Machine.execIdleEnterReceive port off s
  | .linkPacketReceive port pkts sealTag evts => Sys2Proof.Machine.execLinkPacketReceive port pkts sealTag evts s
  | .creditRefresh port => Sys2Proof.Machine.execCreditRefresh port s
  | .controlBlockForced port => Sys2Proof.Machine.execControlBlockForced port s
  | .replayTimeout port => Sys2Proof.Machine.execReplayTimeout port s
  | .mismatchTimer port => Sys2Proof.Machine.execMismatchTimer port s
  | .trainingTimeout port => Sys2Proof.Machine.execTrainingTimeout port s
  | .retrainLockWait port => Sys2Proof.Machine.execRetrainLockWait port s
  | .linkLoss port cause => Sys2Proof.Machine.execLinkLoss port cause s
  | .downTimer port => Sys2Proof.Machine.execDownTimer port s
  | .announcedIdleEntry port => Sys2Proof.Machine.execAnnouncedIdleEntry port s
  | .fastExit port => Sys2Proof.Machine.execFastExit port s
  | .packetAdmit src => Sys2Proof.Machine.execPacketAdmit src s
  | .admissionRetry src => Sys2Proof.Machine.execAdmissionRetry src s
  | .outputSelect n o badTile => Sys2Proof.Machine.execOutputSelect n o badTile s
  | .heldCellExpiry => Sys2Proof.Machine.execHeldCellExpiry s
  | .putCellRx => Sys2Proof.Machine.execPutCellRx s
  | .putFrameRx => Sys2Proof.Machine.execPutFrameRx s
  | .getRx => Sys2Proof.Machine.execGetRx s
  | .copyRx => Sys2Proof.Machine.execCopyRx s
  | .atomicRx => Sys2Proof.Machine.execAtomicRx s
  | .syncAddRx => Sys2Proof.Machine.execSyncAddRx s
  | .syncSetRx => Sys2Proof.Machine.execSyncSetRx s
  | .syncWaitRx => Sys2Proof.Machine.execSyncWaitRx s
  | .syncWaitDeadline => Sys2Proof.Machine.execSyncWaitDeadline s
  | .syncWaitIssuerTimeout txn => Sys2Proof.Machine.execSyncWaitIssuerTimeout txn s
  | .probeRx => Sys2Proof.Machine.execProbeRx s
  | .probeAnswer => Sys2Proof.Machine.execProbeAnswer s
  | .getDataRx => Sys2Proof.Machine.execGetDataRx s
  | .ackRx => Sys2Proof.Machine.execAckRx s
  | .failRx => Sys2Proof.Machine.execFailRx s
  | .copyRptRx => Sys2Proof.Machine.execCopyRptRx s
  | .retransmitTimer snd fidx => Sys2Proof.Machine.execRetransmitTimer snd fidx s
  | .transportTimeout txn => Sys2Proof.Machine.execTransportTimeout txn s
  | .ackDelayTimer => Sys2Proof.Machine.execAckDelayTimer s
  | .receiveRecordExpiry => Sys2Proof.Machine.execReceiveRecordExpiry s
  | .rdAnsRx => Sys2Proof.Machine.execRdAnsRx s
  | .wrAnsRx => Sys2Proof.Machine.execWrAnsRx s
  | .atAnsRx => Sys2Proof.Machine.execAtAnsRx s
  | .edgeRequestTimeout port etag => Sys2Proof.Machine.execEdgeRequestTimeout port etag s
  | .etagReuseTimer port etag => Sys2Proof.Machine.execEtagReuseTimer port etag s
  | .galUpRx badAcc => Sys2Proof.Machine.execGalUpRx badAcc s
  | .galDownRx badAcc => Sys2Proof.Machine.execGalDownRx badAcc s
  | .galleryContribFrameRx badAcc => Sys2Proof.Machine.execGalleryContribFrameRx badAcc s
  | .combineContribFrameRx badAcc => Sys2Proof.Machine.execCombineContribFrameRx badAcc s
  | .kvRotateFrameRx => Sys2Proof.Machine.execKvRotateFrameRx s
  | .galAbortRx => Sys2Proof.Machine.execGalAbortRx s
  | .actionNop g e => Sys2Proof.Machine.execActionNop g e s
  | .actionReduce g e j => Sys2Proof.Machine.execActionReduce g e j s
  | .actionWait g e j => Sys2Proof.Machine.execActionWait g e j s
  | .actionSendup g e j badAcc => Sys2Proof.Machine.execActionSendup g e j badAcc s
  | .actionMcast g e j badAcc => Sys2Proof.Machine.execActionMcast g e j badAcc s
  | .actionForward g e j => Sys2Proof.Machine.execActionForward g e j s
  | .actionDispatch g e j => Sys2Proof.Machine.execActionDispatch g e j s
  | .actionDswrite g e j badAcc => Sys2Proof.Machine.execActionDswrite g e j badAcc s
  | .actionDsread g e j => Sys2Proof.Machine.execActionDsread g e j s
  | .actionSyncadd g e => Sys2Proof.Machine.execActionSyncadd g e s
  | .actionAdvance g e => Sys2Proof.Machine.execActionAdvance g e s
  | .stepTimeout g => Sys2Proof.Machine.execStepTimeout g s
  | .epochCtlPrepare => Sys2Proof.Machine.execEpochCtlPrepare s
  | .epochCtlSwitch => Sys2Proof.Machine.execEpochCtlSwitch s
  | .epochCtlPoll => Sys2Proof.Machine.execEpochCtlPoll s
  | .epochCtlRetire => Sys2Proof.Machine.execEpochCtlRetire s
  | .epochCtlReplyRx => Sys2Proof.Machine.execEpochCtlReplyRx s
  | .epochCtlTimeout node => Sys2Proof.Machine.execEpochCtlTimeout node s
  | .swapDrainLimit => Sys2Proof.Machine.execSwapDrainLimit s
  | .rateIncrease slice dst => Sys2Proof.Machine.execRateIncrease slice dst s
  | .shaperRelease slice dst => Sys2Proof.Machine.execShaperRelease slice dst s
  | .gateRelease n => Sys2Proof.Machine.execGateRelease n s
  | .timeSyncTimer => Sys2Proof.Machine.execTimeSyncTimer s
  | .timeSyncRequestRx => Sys2Proof.Machine.execTimeSyncRequestRx s
  | .timeSyncResponseRx => Sys2Proof.Machine.execTimeSyncResponseRx s
  | .syncHoldoverTimer => Sys2Proof.Machine.execSyncHoldoverTimer s
  | .syncReacquireTimer => Sys2Proof.Machine.execSyncReacquireTimer s
  | .faultAckDeadline u cls => Sys2Proof.Machine.execFaultAckDeadline u cls s
  | .faultQuiet u => Sys2Proof.Machine.execFaultQuiet u s
  | .engineStall n e => Sys2Proof.Machine.execEngineStall n e s
  | .heartbeat => Sys2Proof.Machine.execHeartbeat s
  | .heartbeatCheck => Sys2Proof.Machine.execHeartbeatCheck s
  | .interpAutoRestart => Sys2Proof.Machine.execInterpAutoRestart s
  | .dumpUnitRead => Sys2Proof.Machine.execDumpUnitRead s
  | .dumpReadTimeout word => Sys2Proof.Machine.execDumpReadTimeout word s
  | .dumpTimeLimit => Sys2Proof.Machine.execDumpTimeLimit s
  | .dumpWaitEnd => Sys2Proof.Machine.execDumpWaitEnd s
  | .partitionClear n => Sys2Proof.Machine.execPartitionClear n s
  | .partitionReady n => Sys2Proof.Machine.execPartitionReady n s
  | .resetWindowExpiry n => Sys2Proof.Machine.execResetWindowExpiry n s
  | .blockResetRelease => Sys2Proof.Machine.execBlockResetRelease s
  | .mgmtMemoryPortAnswer id data => Sys2Proof.Machine.execMgmtMemoryPortAnswer id data s

end Sys2Proof.Machine
end

