-- ==== Sys2Proof/Safety.lean ====
section
/-! DEFINITION. What counts as a safe run, and the words the statements are written in. -/

namespace Sys2Proof.Machine

/-- The block takes commands: it is powered and no block reset runs. -/
def State.isLive (s : State) : Bool := s.powered && !s.blkRun

/-- Every command that waits names units the block has. -/
def State.queueOk (s : State) : Bool := s.pending.all Instr.wf

/-- What a safe outcome is: a next state, neither a fault nor a refusal. -/
def Goes (o : Host.Outcome State Fault Refusal) : Prop := ∃ t, o = .next t

/-- The registers are in the canonical form of sparse tables: addresses rising, no entry at its reset value. -/
def State.regsOk (s : State) : Bool := swf addrReset s.regs

/-- The canonical form of the deep store's bytes and check words: an unlisted byte reads zero, an unlisted check
word as Store.chkDefault says. -/
def Memory.wf (m : Store) : Bool := swf (fun _ => (0 : Byte)) m.bytes && swf m.chkDefault m.chk

/-- Nothing is left of a block without power (R17): every register reads its reset value, and nothing is held in queues,
buffers, tables or engines. The deep store's contents lie outside the block. -/
def State.holdsNothing (s : State) : Prop :=
  s.regs = [] ∧ s.evq = [] ∧ s.sw = Switch.init ∧ s.tp = Transport.init ∧ s.mv = Moves.init ∧ s.gals = [] ∧ s.sec = Sec.init
    ∧ s.st.lines = [] ∧ s.st.reqs = [] ∧ s.blkRun = false

/-- Nothing waits in the block: no event, data move, accepted or fetched command, edge request, engine work or dump, no entry of the
command ring to read, no frame held for a gallery's step and no step to pass over, and no reserve short of its tiles. -/
def State.quiet (s : State) : Bool :=
  s.evq.isEmpty && s.mv.jobs.isEmpty && s.tp.txns.isEmpty && s.mg.fetched.isEmpty && s.mv.ereq.isEmpty
    && s.mg.engScan.isEmpty && s.mg.engScrub.isEmpty && s.mg.engAtt.isEmpty && s.mg.engTear.isEmpty && s.mg.dump.isNone
    && decide (s.mg.interp ≠ .restarting) && (s.mg.fetch.isSome || !s.mayFetch)
    && s.sw.copies.all (fun x => decide (x.out ≠ outHeld)) && s.gals.all (fun x => (s.gal x.g).skip.isNone)
    && (List.range 6).all (fun n => (s.part n).short.isEmpty)

/-- The command fetched first is `c`, the interpreter may start it, and none of its reserved fields is set (R540, R544). -/
def State.starts (s : State) (c : Cmd) : Prop := s.mgmtFirst = some c ∧ c.reservedFail = none

/-- The first command of queue `q` that has not started is `t`, and it may start (R81). -/
def State.mayStart (s : State) (q : Nat) (t : Txn) : Prop := s.startable q = some t

/-- May a packet delivered in a running partition that meets `p` be taken: is it held neither for an earlier ORDERED access (R146)
nor for another suspect command (R498)? -/
def State.mayTake (s : State) (p : Pkt → Bool) (e : InEnt) : Bool :=
  s.runs e.part && p e.pkt && !s.ordHeld e.pkt && !s.suspBehind e
/-- The oldest packet that may be taken. -/
def State.oldestRx (s : State) (p : Pkt → Bool) : Option InEnt := s.sw.inbox.find? (s.mayTake p)
/-- The state with it taken. -/
def State.rxTaken (s : State) (p : Pkt → Bool) : State := { s with sw := { s.sw with inbox := dropFirst (s.mayTake p) s.sw.inbox } }
/-- May a sync operation be taken: has everything on its object that arrived before it been applied (R167)? -/
def State.syncTurn (s : State) (opc : Nat) (e : InEnt) : Bool :=
  s.runs e.part && pktOpc opc e.pkt && !s.ordHeld e.pkt && !s.syncBehind e

/-- The rows of register writes with the registers and written words that each carries. -/
def regRows : List (Instr × (Reg → Word → Bool)) :=
  [(.sdbGo, fun r v => match r with | .sdbCmd => decide (fget v sdbCmd_GO = 1) | _ => false),
   (.mqCfgWrite, fun r _ => match r with | .mqCfg => true | _ => false),
   (.dxCtlWrite, fun r _ => match r with | .ctl => true | _ => false),
   (.dxNodeWrite, fun r _ => match r with | .node => true | _ => false),
   (.dxRouteCtlWrite, fun r _ => match r with | .routeCtl => true | _ => false),
   (.dxStrictWrite, fun r _ => match r with | .strict => true | _ => false),
   (.dxRsvWrite, fun r _ => match r with | .rsv _ _ => true | _ => false),
   (.dxPortCfgWrite, fun r _ => match r with | .portCfg _ _ => true | _ => false),
   (.hwfenceClear, fun r _ => match r with | .portStat _ _ => true | _ => false),
   (.dxFltFenceWrite, fun r _ => match r with | .fltFence _ => true | _ => false),
   (.dumpSlotRelease, fun r _ => match r with | .dumpStat => true | _ => false),
   (.dxQuarRelease, fun r _ => match r with | .quar _ _ => true | _ => false),
   (.dxRstCtlReq, fun r _ => match r with | .rstCtl => true | _ => false),
   (.returnToService, fun r _ => match r with | .rcvCtl _ => true | _ => false),
   (.pstateStill, fun r v => match r with | .pstate _ => decide (fget v pstate_REQ = 1) | _ => false),
   (.pstateRun, fun r v => match r with | .pstate _ => decide (fget v pstate_REQ = 0) | _ => false),
   (.pstateDormant, fun r v => match r with | .pstate _ => decide (fget v pstate_REQ = 2) | _ => false),
   (.dxFtNowWrite, fun r _ => match r with | .ftNow => true | _ => false),
   (.dxFtCfgWrite, fun r _ => match r with | .ftCfg => true | _ => false),
   (.dxWearWrite, fun r _ => match r with | .wear _ => true | _ => false),
   (.dxNoiseWrite, fun r _ => match r with | .noise _ => true | _ => false),
   (.dxSyncValWrite, fun r _ => match r with | .syncVal _ => true | _ => false),
   (.dxSyncOwnWrite, fun r _ => match r with | .syncOwn _ => true | _ => false),
   (.dxCcCfgWrite, fun r _ => match r with | .ccCfg => true | _ => false),
   (.dxTelFiltWrite, fun r _ => match r with | .telFilt _ => true | .ccFilt => true | _ => false),
   (.dxCrcChWrite, fun r _ => match r with | .crcCh _ => true | _ => false),
   (.dxSmpRingWrite, fun r _ => match r with | .smpRing => true | _ => false),
   (.dxSampleWrite, fun r _ => match r with | .sample _ => true | _ => false),
   (.dxPoliceWrite, fun r _ => match r with | .police _ => true | _ => false),
   (.regWrite, fun r v => !regHasRow r v)]

/-- The rows that start a command of a data queue, with the commands that each starts. -/
def startRows : List ((Nat → Instr) × (Cmd → Bool)) :=
  [(.put, isOpc opPUT), (.putInline, isOpc opPUTI), (.get, isOpc opGET), (.copy, isOpc opCOPY),
   (.atomicAddI32, isAtomic 0), (.atomicAddI64, isAtomic 1), (.atomicAddF32, isAtomic 2), (.atomicAddBf16x2, isAtomic 3),
   (.atomicMinI64, isAtomic 4), (.atomicMaxI64, isAtomic 5), (.atomicCas64, isAtomic 6), (.atomicSwap64, isAtomic 7),
   (.syncAdd, isOpc opSYNCADD), (.syncSet, isOpc opSYNCSET), (.syncWait, isOpc opSYNCWAIT)]

/-- The rows of gallery commands. -/
def galStartRows : List ((Nat → Instr) × Nat) := [(.galleryContrib, opGALC), (.combineContrib, opCOMB), (.kvRotate, opKVR)]

/-- The rows that move power or the window-enable line. -/
def isPowerLine : Instr → Bool
  | .blockPowerUp | .blockPowerOff | .windowEnableChange _ => true
  | _ => false

/-- The rows of power, of the block's input lines and of the time reference, whose lines lie outside the block's power. -/
def isLine : Instr → Bool
  | .blockPowerUp | .blockPowerOff | .windowEnableChange _ | .blockResetAssert | .blockResetRelease
  | .partitionResetAssert _ | .partitionResetRelease _ | .trefLoss | .trefReturn => true
  | _ => false

end Sys2Proof.Machine
end

