-- ==== Sys2Proof/Certificates/Slice0/Obligations.lean ====
section
/-! DEFINITION. The statements for the provers. Most say what a command leaves as `exec c s = .next (s.after u)`: `u` is
what the rules give the command, and `s.after u` is `u` once what follows from it at once has settled, with the queue and
the clock of `s`; `Obligations.SettledWhenQuiet` says what settling adds where nothing waits. -/

section

open Sys2Proof.Machine Sys2Proof

/-! ### The queue, the clock and the whole machine -/

/-- A step with a command at the front of the queue is that command on the state with the queue's rest. -/
def Obligations.StepRunsFront : Prop :=
  ∀ (s : State) (c : Instr) (rest : List Instr), s.pending = c :: rest → step s = exec c { s with pending := rest }

/-- On an empty queue a step lets one edge of the reference clock pass, 16 units of 0.25 ns: the model's choice (log
entry 2). -/
def Obligations.EmptyQueuePassesAnEdge : Prop :=
  ∀ s : State, s.pending = [] → step s = .next s.tick ∧ s.tick.now = s.now + 16 ∧ s.tick.pending = []
    ∧ s.tick.powered = s.powered

/-- Every well-formed command answers a next state, and leaves the queue and the clock alone; only the rows of power and of
window-enable change those lines (log entry 2 for the clock). A command whose operand names a unit the block does not have
faults, and only such a command does: the model's choice (log entry 1). -/
def Obligations.EveryCommandCompletes : Prop :=
  (∀ (c : Instr) (s : State), c.wf = true → ∃ t, exec c s = .next t ∧ t.pending = s.pending ∧ t.now = s.now
      ∧ (isPowerLine c = false → t.powered = s.powered ∧ t.winEn = s.winEn))
  ∧ (∀ (c : Instr) (s : State), c.wf = false ↔ exec c s = .fault .noSuchUnit)

/-- The queue of well-formed commands is an invariant, and from it every step answers a next state: no run stops. -/
def Obligations.QueueInvariant : Prop :=
  ∀ s : State, s.queueOk = true → ∃ t, step s = .next t ∧ t.queueOk = true ∧ t.pending = s.pending.tail

/-- `k` commands are served in `k` steps, in order, and the steps after them pass edges of the reference clock: after
`k` commands and `m` edges the queue is empty and the clock has moved on by `16 m` (log entry 2). -/
def Obligations.QueueIsServedInOrder : Prop :=
  ∀ (m : Nat) (s : State), s.queueOk = true → ∃ t, Host.Core.run core (s.pending.length + m) s = .next t ∧ t.pending = []
    ∧ t.now = s.now + 16 * m

/-- A block without power holds nothing, and no step fills it (R17). -/
def Obligations.UnpoweredHoldsNothing : Prop :=
  ∀ s t : State, (s.powered = false → s.holdsNothing) → step s = .next t → (t.powered = false → t.holdsNothing)

/-- The invariants hold after reset. -/
def Obligations.InvariantsAtReset : Prop :=
  State.reset.queueOk = true ∧ State.reset.regsOk = true ∧ Memory.wf State.reset.st = true
    ∧ (State.reset.powered = false → State.reset.holdsNothing) ∧ State.reset.quiet = true

/-- Where nothing waits in the block, settling changes nothing but PEND of DX_MQ_HEAD (R93). -/
def Obligations.SettledWhenQuiet : Prop :=
  ∀ s t : State, t.quiet = true → s.after t = s.atOnce t.pendRefresh

/-- Without power no command but those of power, of the block's input lines and of the time reference changes anything: the
model's choice (log entry 9). -/
def Obligations.DeadBlockIsUntouched : Prop :=
  ∀ (c : Instr) (s : State), c.wf = true → s.powered = false → isLine c = false → exec c s = .next s

/-- While the reference is present and nothing corrects it, fabric time adds 16 at each edge of the time reference
(R445), and an edge changes no memory, no command, no link and no gallery. -/
def Obligations.FabricTimeAddsSixteen : Prop :=
  ∀ s : State, s.pending = [] → s.powered = true → s.blkRun = false → s.blkOn = false → s.ft.lost = false → s.ft.tref = true → s.ft.slew = 0 →
    s.ft.trim = 0 → ∃ t, step s = .next t ∧ t.reg .ftNow = s.reg .ftNow + 16 ∧ t.st = s.st ∧ t.tp = s.tp ∧ t.mv = s.mv
      ∧ t.links = s.links ∧ t.gals = s.gals ∧ t.sw = s.sw ∧ t.sec = s.sec ∧ t.mg = s.mg

/-! ### Registers, tables and the deep store -/

/-- The register map decodes every address to the register at that address and to no other (R13, R561). -/
def Obligations.RegisterMapRoundTrip : Prop :=
  ∀ (a : Nat) (r : Reg), Reg.ofAddr a = some r → r.addr = a ∧ a % 8 = 0

/-- A write by access codes leaves RO and RC fields as they are, takes RW bits as written, clears W1C bits and sets W1S
bits written 1 (R562), in the register it names and in no other. -/
def Obligations.AccessCodesHold : Prop :=
  ∀ (s : State) (r : Reg) (v : Word),
    ((s.regStore r v).reg r &&& r.accMask .ro = s.reg r &&& r.accMask .ro)
    ∧ ((s.regStore r v).reg r &&& r.accMask .rc = s.reg r &&& r.accMask .rc)
    ∧ ((s.regStore r v).reg r &&& r.accMask .rw = v &&& r.accMask .rw)
    ∧ ((s.regStore r v).reg r &&& r.accMask .w1c = s.reg r &&& ~~~v &&& r.accMask .w1c)
    ∧ ((s.regStore r v).reg r &&& r.accMask .w1s = (s.reg r ||| v) &&& r.accMask .w1s)
    ∧ (∀ q : Reg, q.addr ≠ r.addr → (s.regStore r v).reg q = s.reg q)
    ∧ (s.regStore r v).st = s.st ∧ (s.regStore r v).tp = s.tp ∧ (s.regStore r v).links = s.links

/-- A run of bytes written to the deep store reads back, and every byte outside it is unchanged. -/
def Obligations.StoreReadsBack : Prop :=
  ∀ (m : Store) (a : Nat) (d : List Byte), (m.write a d).read a d.length = d
    ∧ ∀ k, (k < a ∨ a + d.length ≤ k) → (m.write a d).byte k = m.byte k

/-- A tile written passes its check unless it is poisoned, and a whole-tile write ends poison (R404, R405, R407). Zeroed tiles
read zero and pass their check (R413, R415), and every byte outside them is unchanged. -/
def Obligations.TilesPass : Prop :=
  (∀ (m : Store) (t lo : Nat) (d : List Byte), lo + d.length ≤ 4096 →
      (m.writeTile t lo d).check t = (m.writeTile t lo d).tileCrc t
      ∧ ((m.writeTile t lo d).tileStatus t = if t ∈ m.poison then stPOISON else stDONE)
      ∧ (lo = 0 → d.length = 4096 → (m.memWrite t lo d).tileStatus t = stDONE))
  ∧ (∀ (m : Store) (lo hi : Nat),
      (∀ a, lo ≤ a / 4096 → a / 4096 < hi → (m.clearTiles lo hi).byte a = 0)
      ∧ (∀ t, lo ≤ t → t < hi → (m.clearTiles lo hi).tileStatus t = stDONE)
      ∧ (∀ a, ¬ (lo ≤ a / 4096 ∧ a / 4096 < hi) → (m.clearTiles lo hi).byte a = m.byte a))

/-! ### Wire formats -/

/-- A packet whose length agrees with its header survives the link: what its bytes spell is the packet, with its link CRC
good (R237, R247, R252, R261, R288); the payload bytes of a cell beyond LEN are sent as zero (R247). -/
def Obligations.PacketRoundTrip : Prop :=
  ∀ p : Pkt,
    (if p.isFrame then frameLen p.opc p.ext.toNat = some p.pay.length
     else p.h.len.toNat ≤ 48 ∧ p.ext = 0 ∧ p.e2e = 0 ∧ p.pay.length = 48 ∧ (p.pay.drop p.h.len.toNat).all (· = 0) = true) →
    Pkt.parse p.bytes = some (p, true)

/-- A transport descriptor and a gallery extension whose fields have their widths survive their encodings (R246, R254). -/
def Obligations.FieldsRoundTrip : Prop :=
  (∀ d : Desc, d.rreg < 2 ^ 20 → d.roff < 2 ^ 44 → d.key < 2 ^ 16 → d.sync < 2 ^ 16 → d.qid < 2 ^ 20 → d.seq < 2 ^ 16 →
      d.tlen < 2 ^ 21 → d.fidx < 2 ^ 7 → Desc.ofNat d.toNat = d ∧ d.toNat < 2 ^ 160)
  ∧ (∀ x : GExt, x.gal < 2 ^ 12 → x.sgen < 2 ^ 8 → x.chunk < 2 ^ 24 → x.flen < 2 ^ 14 → x.token < 2 ^ 24 → x.weight < 2 ^ 32 →
      GExt.ofNat x.toNat = x ∧ x.toNat < 2 ^ 120)

/-! ### Power, reset lines and the debug window -/

/-- R17: every field returns to its reset value when the block's power is switched off and on again. The deep store lies
outside the block, so its bytes, check words and poison stay. -/
def Obligations.PowerCycleResets : Prop :=
  ∀ s : State, ∃ t u, exec .blockPowerOff s = .next t ∧ t.powered = false ∧ t.holdsNothing
    ∧ exec .blockPowerUp t = .next u ∧ u.powered = true ∧ u.holdsNothing ∧ (∀ r : Reg, u.reg r = r.reset)
    ∧ (∀ n, u.part n = { Part.init with lineOn := (u.part n).lineOn, lineAt := (u.part n).lineAt })
    ∧ u.links = Vector.replicate 18 Link.init ∧ u.funits = Vector.replicate 7 FUnit.init ∧ u.pw = Power.init
    ∧ u.st.bytes = s.st.bytes ∧ u.st.chk = s.st.chk ∧ u.st.poison = s.st.poison

/-- The system areas are zeroed once and SYSRDY is set (R413); the mirror copy is brought up to date (R402), and is scanned
and released under a hold (R424, R515). -/
def Obligations.SystemAreasAndMirrorComplete : Prop :=
  ∀ s : State, s.isLive = true →
    (s.fld .dsStat dsStat_SYSRDY = 0 → s.mg.tabWait = false → exec .systemAreaInitDone s
      = .next (s.after (State.setFld { s with st := s.st.clearTiles 0xC000 0x20000 } .dsStat dsStat_SYSRDY 1)))
    ∧ (s.fld .dsStat dsStat_SYSRDY = 1 → s.fld .dsStat dsStat_MSYNC = 0 → s.sec.mirror.pend = [] →
      exec .mirrorUpdate s = .next (s.after ((s.setMirror (fun m => { m with pend := [] })).setFld .dsStat dsStat_MSYNC 1)))
    ∧ (s.fld .dsStat dsStat_MSYNC = 1 → s.sec.mirror.held.isSome = true → s.sec.mirror.scanned = false →
      exec .mirrorHoldScan s
        = .next (s.after ((s.setMirror (fun m => { m with scanned := true })).scanAdd 0x0F000000 0x2A0208 2 none)))
    ∧ (∀ t, s.sec.mirror.held = some t → t + ms 10 ≤ s.now → s.sec.mirror.waiting = [] → s.mg.tabWait = false →
      exec .mirrorHoldTimeout s = .next (s.after ((s.setMirror (fun m =>
        { m with held := none, scanned := false, waiting := [] })).setFld .secStat secStat_HOLD 0).tearStep))

/-- R42: every assertion of a reset line that has lasted 20 ns is taken, and a shorter one counts as one reset-glitch event
(code 0x31) and is ignored. A taken partition line goes on to clear its partition on release (R43), and a block reset ends
with the spill and region tables zeroed and the partitions that no line of their own holds CLEARING (R43, R46, R412). -/
def Obligations.ResetLines : Prop :=
  (∀ (s : State) (n : Nat), n < 6 →
      ((s.part n).lineOn = false → exec (.partitionResetAssert n) s
        = .next (s.setPart n (fun p =>
            { p with lineOn := true, lineAt := s.now, lineTaken := s.blkRun, lineVoid := s.blkRun })))
      ∧ (s.isLive = true → (s.part n).lineOn = true → (s.part n).lineTaken = false →
        ((s.part n).lineAt + ns 20 ≤ s.now → exec (.partitionResetLineTake n) s
          = .next (s.after ((s.setPart n (fun p => { p with lineTaken := true })).resetLine n)))
        ∧ (s.now < (s.part n).lineAt + ns 20 → exec (.partitionResetRelease n) s
          = .next (s.after ((s.setPart n (fun p =>
            { p with lineOn := false, lineTaken := false, lineVoid := false })).blockEvent 0x31 ⟨syPART, 6⟩))))
      ∧ (s.isLive = true → (s.part n).lineOn = true → (s.part n).lineTaken = true → s.pstate n = ptHELD →
        exec (.partitionResetRelease n) s
          = .next (s.after ((s.setPart n (fun p => { p with lineOn := false, lineTaken := false, lineVoid := false })).setFld
              (.rcvStat n) rcvStat_PSTATE ptCLEARING))))
  ∧ (∀ s : State,
      (s.blkOn = false → exec .blockResetAssert s = .next { s with blkOn := true, blkAt := s.now })
      ∧ (s.isLive = true → s.blkOn = true → s.blkAt + ns 20 ≤ s.now → s.blockLineDue = s.atOnce s.blockTake
        ∧ exec .blockResetRelease s = .next { s.atOnce s.blockTake with blkOn := false })
      ∧ (s.blkOn = true → s.blkRun = true → exec .blockResetRelease s = .next { s with blkOn := false })
      ∧ (s.isLive = true → s.blkOn = true → s.now < s.blkAt + ns 20 → exec .blockResetRelease s
        = .next (s.after (State.blockEvent { s with blkOn := false } 0x31 ⟨syPART, 6⟩)))
      ∧ (s.powered = true → s.blkRun = true → s.blkOn = false → exec .blockResetComplete s = .next (s.after
        ((List.range 6).foldl (fun s n => if (s.part n).lineHolds then s else s.setFld (.rcvStat n) rcvStat_PSTATE ptCLEARING)
          (State.mirrorAll { s with st := s.st.clearTiles 0xC000 0xF000, blkRun := false })))))

/-- A partition reset goes on by steps 3 to 5 of R490 and ends ready or out of service (R501); a reset leaves the window of
ESCW seconds (R501). Dormant entry and waking end as R554 and R556 say; a partition domain is enabled only where the block
domain is at least at 0.68 V (R52). -/
def Obligations.PartitionSequences : Prop :=
  (∀ (s : State) (n : Nat), n < 6 → s.isLive = true →
      (s.pstate n = ptCLEARING → (s.part n).cleared = false → (s.voltOk = true ∨ (s.part n).dark = false) →
        exec (.partitionClear n) s = .next (s.after (s.clearStep n)))
      ∧ (s.pstate n = ptCLEARING → (s.part n).cleared = true → s.genRested n = true →
        let u := s.setPart n (fun p => { p with rst := false, cleared := false, wasOos := false, thermOos := false })
        exec (.partitionReady n) s = .next (s.after (if s.endsOos n then u.setFld (.rcvStat n) rcvStat_PSTATE ptOOS
          else ((u.setFld (.rcvStat n) rcvStat_PSTATE ptRUN).deferred n).trainPorts (partPorts n))))
      ∧ (∀ t l, (s.part n).resetAt = t :: l → t + ms (1000 * s.fld .hangCfg hangCfg_ESCW) ≤ s.now →
        exec (.resetWindowExpiry n) s = .next (s.after ((s.setPart n (fun p => { p with resetAt := l })).rwin n))))
  ∧ (∀ (s : State) (n : Nat), n < 6 → s.isLive = true →
      (s.pwState n = 2 → (s.sw.copies.all (fun x => x.part ≠ n) = true ∨ (s.part n).enterAt + us 100 ≤ s.now) →
        exec (.dormantDrainEnd n) s = .next (s.after (s.sleep n)))
      ∧ (s.pwState n = 4 → s.voltOk = true → exec (.wakeDone n) s = .next (s.after (s.wake n)))
      ∧ ((s.sleep n).pwState n = 3 ∨ (s.sleep n).pwState n = 4) ∧ (s.sleep n).pstate n = ptDORMANT)

/-- Taking a block reset leaves every partition held, its cause 0xFE, and nothing in queues, buffers or engines (R46, R412,
R501). -/
def Obligations.BlockResetTakesAll : Prop :=
  ∀ s : State, s.blockTake.blkRun = true ∧ s.blockTake.evq = [] ∧ s.blockTake.sw = Switch.init ∧ s.blockTake.gals = []
    ∧ s.blockTake.tp = Transport.init ∧ s.blockTake.mv.jobs = [] ∧ s.blockTake.sec = Sec.init
    ∧ (∀ n, n < 6 → s.blockTake.pstate n = ptHELD ∧ (s.blockTake.part n).cause = 0xFE
      ∧ s.blockTake.fld (.rcvStat n) rcvStat_LASTCODE = 0xFE)

/-- R36: while window-enable is deasserted, a read through the window returns zero, a write has no effect, and each refused
access counts one event. What a read returned is kept in `winRead`, a field of the model's own. The open window reads and
writes a register as REG_READ and REG_WRITE do (R546), and RESTART is its own (R479). -/
def Obligations.DebugWindow : Prop :=
  (∀ (s : State) (on : Bool) (a : BitVec 32) (d : Word),
      exec (.windowEnableChange on) s = .next { s with winEn := on }
      ∧ (s.isLive = true → s.winEn = false →
        exec (.debugWindowAccess false a d) s = .next (s.after (State.blockEvent { s with winRead := 0 } 0x32 ⟨syPART, 6⟩))
        ∧ exec (.debugWindowAccess true a d) s = .next (s.after (s.blockEvent 0x32 ⟨syPART, 6⟩))
        ∧ exec .restart s = .next (s.after (s.blockEvent 0x32 ⟨syPART, 6⟩))))
  ∧ (∀ (s : State) (a : BitVec 32) (d : Word) (r : Reg), s.isLive = true → s.winEn = true →
      a.toNat % 8 = 0 → Reg.ofAddr a.toNat = some r →
      exec (.debugWindowAccess false a d) s = .next (s.after { (s.readReg r).2 with winRead := (s.readReg r).1 })
      ∧ (r.addr ≠ Reg.interpCtl.addr → heldByMirror s r = false →
        exec (.debugWindowAccess true a d) s = .next (s.after
          (if s.regRefused r d then (s.refusedWrite r d).blockEvent 0x32 ⟨syPART, 6⟩ else s.regWrite r d)))
      ∧ (s.mg.interp = .running → s.mg.att = none → exec .restart s = .next (s.after
          (let u := s.setFld .hb hb_MISS 0
           { u with mg := { u.mg with interp := .restarting, missAt := none } }))))

/-! ### The key port -/

/-- A record whose condition holds has its effect (R509, R510, R515, R520 to R522); any other counts one KPBAD and does nothing
else. A loaded phase reads back, and no other slot changes; WIPE leaves nothing in a slot (R510). -/
def Obligations.KeyPort : Prop :=
  (∀ (s : State) (r : KeyRec), s.isLive = true →
      (krOk r = true → s.keyCond r = true →
        (fget r.w0 krOP = 1 → exec (.keyPortLoad r) s = .next (s.after (s.keyLoad r)))
        ∧ (fget r.w0 krOP = 2 → exec (.keyPortActivate r) s
          = .next (s.after (s.slotSet (krSlot r) (fun x => { x with tx := some (krPh r) }))))
        ∧ (fget r.w0 krOP = 3 → exec (.keyPortErase r) s
          = .next (s.after ((s.slotSet (krSlot r) (phaseSet (krPh r) none)).unbind (krSlot r))))
        ∧ (fget r.w0 krOP = 4 → r.w1.getLsbD 0 = true → exec (.keyPortConf r) s
          = .next (s.after (s.setFld (.slice (fget r.w0 krSLICE)) slice_CONF 1)))
        ∧ (fget r.w0 krOP = 4 → r.w1.getLsbD 0 = false → exec (.keyPortConf r) s
          = .next (s.after (if s.conf (fget r.w0 krSLICE) then s.keyConf r else s)))
        ∧ (fget r.w0 krOP = 5 → exec (.keyPortBind r) s = .next (s.after (s.keyBind r)))
        ∧ (fget r.w0 krOP = 6 → exec (.keyPortGrant r) s = .next (s.after (s.keyGrant r)))
        ∧ (fget r.w0 krOP = 7 → exec (.keyPortHold r) s = .next (s.after s.mirrorHold))
        ∧ (fget r.w0 krOP = 8 → exec (.keyPortRelease r) s = .next (s.after s.mirrorRelease))
        ∧ (fget r.w0 krOP = 9 → exec (.keyPortWipe r) s
          = .next (s.after ((s.slotSet (krSlot r) (fun x => { x with p0 := none, p1 := none, tx := none })).unbind (krSlot r)))))
      ∧ ((krOk r && s.keyCond r) = false → ∀ x ∈ [(1, Instr.keyPortLoad r), (2, .keyPortActivate r), (3, .keyPortErase r),
          (4, .keyPortConf r), (5, .keyPortBind r), (6, .keyPortGrant r), (7, .keyPortHold r), (8, .keyPortRelease r),
          (9, .keyPortWipe r)], fget r.w0 krOP = x.1 → exec x.2 s = .next (s.after (s.count .secStat secStat_KPBAD 1))))
  ∧ (∀ (s : State) (r : KeyRec) (k : Nat), krSlot r ≤ 271 → k ≤ 271 →
      ((s.keyLoad r).keySlot (krSlot r)).key (krPh r) = some (krKey r)
      ∧ ((s.keyLoad r).keySlot (krSlot r)).key (!krPh r) = (s.keySlot (krSlot r)).key (!krPh r)
      ∧ (k ≠ krSlot r → (s.keyLoad r).keySlot k = s.keySlot k)
      ∧ (s.slotSet k (fun x => { x with p0 := none, p1 := none, tx := none })).keySlot k
        = { s.keySlot k with p0 := none, p1 := none, tx := none })

/-- R511: a write that sets PAYLOAD without the grant is refused with reason 0x03, and a GRANT that clears bit `n` clears
PAYLOAD of Pn. -/
def Obligations.PayloadNeedsGrant : Prop :=
  ∀ s : State, s.isLive = true →
    (∀ (c : Cmd) (n : Nat), s.starts c → c.opc = 0x81 → cmdReg c = some (.sample n) → fget c.w3 sample_PAYLOAD = 1 →
      nbit (s.fld .secStat secStat_GRANT) n = false →
      exec .dxSampleWrite s = .next (s.after (s.mgmtTaken.mgmtRec c stFORMAT (resFmt 3 24))))
    ∧ (∀ (r : KeyRec) (n : Nat), krOk r = true → fget r.w0 krOP = 6 → n < 6 → nbit (fget r.w1 ⟨0, 6⟩) n = false →
      ∃ u, exec (.keyPortGrant r) s = .next (s.after u) ∧ u.fld (.sample n) sample_PAYLOAD = 0
        ∧ u.fld .secStat secStat_GRANT = fget r.w1 ⟨0, 6⟩)

/-! ### Pace, power, temperature and fabric time -/

/-- A trip raises the droop demand of partition k div 4 to at least DSTEP and counts in DROOPS (R430). The hold, the descent by
one level every 50 ns (R431) and a stuck sensor (R48) follow. A reading shows at once (R439); staleness is one event (R47);
the demand moves one level every 100 µs (R438); 1 ms at TCRIT is one fatal event (R439). -/
def Obligations.DroopAndThermalRows : Prop :=
  (∀ (s : State) (k n : Nat), k < 24 → n < 6 → s.isLive = true →
      (s.dormant (k / 4) = false → (s.part (k / 4)).trips.any (fun x => x.1 = k) = false → exec (.droopTrip k) s
        = .next (s.after ((((s.count (.paceStat (k / 4)) paceStat_DROOPS 1).setPart (k / 4)
            (fun p => { p with trips := p.trips ++ [(k, s.now)] })).setDemand (k / 4) paceStat_SDROOP
              (max (s.fld (.paceStat (k / 4)) paceStat_SDROOP) (s.fld .paceCfg paceCfg_DSTEP))))))
      ∧ ((s.part (k / 4)).trips.any (fun x => x.1 = k) = true → exec (.droopClear k) s
        = .next (s.after (s.setPart (k / 4) (fun p =>
            { p with trips := p.trips.filter (fun x => x.1 ≠ k), stuck := p.stuck.filter (fun x => x ≠ k)
                     dClearAt := if (p.trips.filter (fun x => x.1 ≠ k)).isEmpty then s.now else p.dClearAt }))))
      ∧ ((s.part n).trips = [] → (s.part n).descends = false → 0 < s.fld (.paceStat n) paceStat_SDROOP →
        (s.part n).dClearAt + ns (10 * s.fld .paceCfg paceCfg_DHOLD) ≤ s.now →
        exec (.droopHoldExpiry n) s = .next (s.after (s.setPart n (fun p => { p with dStepAt := s.now }))))
      ∧ ((s.part n).descends = true → 0 < s.fld (.paceStat n) paceStat_SDROOP → (s.part n).dStepAt + ns 50 ≤ s.now →
        exec (.droopDescentStep n) s = .next (s.after ((s.setPart n (fun p => { p with dStepAt := p.dStepAt + ns 50 })).setDemand
          n paceStat_SDROOP (s.fld (.paceStat n) paceStat_SDROOP - 1))))
      ∧ (∀ t, s.dormant (k / 4) = false → (s.part (k / 4)).trips = [(k, t)] → t + ms 1 ≤ s.now → (s.part (k / 4)).stuck = [] →
        exec (.droopStuck k) s = .next (s.after ((s.setPart (k / 4) (fun p => { p with stuck := k :: p.stuck })).event (k / 4)
          0x28 ⟨sySENS, k⟩))))
  ∧ (∀ (s : State) (m n : Nat) (v : BitVec 16), m < 12 → n < 6 → s.isLive = true →
      (s.dormant (m / 2) = false → ∃ u, exec (.thermalReading m v) s = .next (s.after u)
        ∧ u.fld (.therm m) therm_TEMP = v.toNat ∧ u.fld (.therm m) therm_STALE = 0
        ∧ (∀ q : Reg, q.addr ≠ (Reg.therm m).addr → u.reg q = s.reg q) ∧ u = { s with regs := u.regs, therms := u.therms })
      ∧ (∀ t, s.dormant (m / 2) = false → s.fld (.therm m) therm_STALE = 0 → s.therms[m]? = some t → t.lastAt + us 100 ≤ s.now →
        exec (.thermalStale m) s = .next (s.after (State.event
          { s.setFld (.therm m) therm_STALE 1 with therms := s.therms.setIfInBounds m { t with hotAt := none } }
          (m / 2) 0x29 ⟨sySENS, 24 + m⟩)))
      ∧ (s.dormant n = false → (s.part n).thermAt + us 100 ≤ s.now →
        let w : Int := 4 * s.fld .paceCfg paceCfg_TWARN
        let d := s.fld (.paceStat n) paceStat_STHERM
        exec (.thermalDemandStep n) s = .next (s.after ((s.setPart n (fun p => { p with thermAt := s.now })).setDemand n
          paceStat_STHERM (if w ≤ s.hottest n then min 8 (d + 1) else if s.hottest n < w - 8 then d - 1 else d))))
      ∧ (∀ t h, s.therms[m]? = some t → t.hotAt = some h → h + ms 1 ≤ s.now → s.fld (.therm m) therm_STALE = 0 →
        s.asleep (m / 2) = false → s.pstate (m / 2) ≠ ptOOS →
        exec (.thermalCritical m) s = .next (s.after (State.event
          { s with therms := s.therms.setIfInBounds m { t with hotAt := some s.now } } (m / 2) 0x2B ⟨syPART, m / 2⟩))))

/-- S is the largest of the three demands whenever one of them is set (R429), and setting one demand leaves the other two,
every other register and every other unit as they were. -/
def Obligations.PaceIsTheLargestDemand : Prop :=
  ∀ (s : State) (n v : Nat) (p : Pos), p ∈ [paceStat_SDROOP, paceStat_SPWR, paceStat_STHERM] → v < 16 →
    let t := s.setDemand n p v
    t.fld (.paceStat n) p = v
    ∧ t.fld (.paceStat n) paceStat_S = max (t.fld (.paceStat n) paceStat_SDROOP)
        (max (t.fld (.paceStat n) paceStat_SPWR) (t.fld (.paceStat n) paceStat_STHERM))
    ∧ (∀ q ∈ [paceStat_SDROOP, paceStat_SPWR, paceStat_STHERM], q ≠ p → t.fld (.paceStat n) q = s.fld (.paceStat n) q)
    ∧ (∀ q : Reg, q.addr ≠ (Reg.paceStat n).addr → t.reg q = s.reg q)
    ∧ t = { s with regs := t.regs }

/-- An estimate above the cap raises the power demand by one level and one at the cap or below leaves it (R435); 10 µs at the
cap less 5 W or below lower it (R435); 100 µs at 8 are one event (R436). Each running partition adds the factor of its
hottest reading to EQS once a second (R440, R442); a replica shows its period in MEAS, and sets PSLOW above 850 ps (R443). -/
def Obligations.PowerWearAndReplica : Prop :=
  (∀ (s : State) (w : PowerMeas), s.isLive = true →
      (∃ u, exec (.powerEstimate w) s = .next (s.after u) ∧ u.fld .pwrStat pwrStat_EST = w.watts.toNat ∧ u.volt = w.mv.toNat
        ∧ (s.pw.demand ≤ 8 → u.pw.demand = if s.cap < w.watts.toNat then min 8 (s.pw.demand + 1) else s.pw.demand)
        ∧ u.st = s.st ∧ u.tp = s.tp ∧ u.links = s.links ∧ u.sw = s.sw)
      ∧ (0 < s.pw.demand → s.pw.lowAt + us 10 ≤ s.now → exec .powerDemandLower s
        = .next (s.after (State.powerDemand { s with pw := { s.pw with lowAt := s.now } } (s.pw.demand - 1))))
      ∧ (s.pw.demand = 8 → s.pw.rep = false → s.pw.heldAt + us 100 ≤ s.now → s.cap < s.fld .pwrStat pwrStat_EST →
        exec .powerDemandHeld s = .next (s.after (State.blockEvent { s with pw := { s.pw with rep := true } } 0x2A ⟨syPART, 6⟩))))
  ∧ (∀ (s : State) (n : Nat) (ps : BitVec 16), n < 6 → s.isLive = true →
      exec .wearTick s = .next (s.after ((List.range 6).foldl State.wearPart s))
      ∧ (s.runs n = true → (s.part n).wearAt + ms 1000 ≤ s.now →
        s.wearPart n = ((s.setPart n (fun p => { p with wearAt := s.now })).count (.wear n) wear_EQS
          (if s.hottest n ≤ 340 then 1 else if s.hottest n ≤ 380 then 2 else if s.hottest n ≤ 420 then 4 else 8)).wearFlags n)
      ∧ (s.runs n = false → s.wearPart n = s)
      ∧ (s.asleep n = false → (s.part n).measAt + ms 1 ≤ s.now →
        let u := (s.setPart n (fun p => { p with measAt := s.now })).setFld (.paceStat n) paceStat_MEAS ps.toNat
        exec (.replicaMeasure n ps) s = .next (s.after
          (if 850 < ps.toNat ∧ u.hottest n ≤ 440 ∧ (u.part n).trips = [] then
            (u.setFld (.paceStat n) paceStat_PSLOW 1).event n 0x2C ⟨syPART, n⟩ else u))))

/-- The loss and the return of the time reference (R51), and the timers of synchronisation (R447, R451). A TIME_SYNC request
delivered on a port in UP is answered on that port (R447, R448), and a response to the request outstanding is used (R449). -/
def Obligations.FabricTimeRows : Prop :=
  (∀ s : State, s.isLive = true →
      (s.ft.lost = false → exec .trefLoss s = .next (s.after
        ((s.setFt (fun t => { t with tref := false, lost := true, lostAt := s.now })).blockEvent 0x34 ⟨syUNIT, 6⟩)))
      ∧ (s.ft.tref = false → s.ft.lost = true → s.fts = fsFREE → exec .trefReturn s = .next (s.after
        (s.setFt (fun t => { t with tref := true, lost := false, aged := t.aged + (s.now - s.ft.lostAt), good := 0 }))))
      ∧ (s.ft.tref = false → s.ft.lost = true → s.fts ≠ fsFREE → exec .trefReturn s = .next (s.after
        ((s.setFt (fun t => { t with tref := true, lost := false, aged := t.aged + (s.now - s.ft.lostAt), good := 0 })).setFld
          .ftStat ftStat_STATE fsACQUIRE)))
      ∧ (s.fts = fsLOCKED → s.ft.usedAt + us 30 ≤ s.now → exec .syncHoldoverTimer s = .next (s.after
        ((s.setFld .ftStat ftStat_STATE fsHOLDOVER).setFt (fun t => { t with heldAt := s.now }))))
      ∧ (s.fts = fsHOLDOVER → s.ft.heldAt + ms 1 ≤ s.now → exec .syncReacquireTimer s = .next (s.after
        (((s.setFld .ftStat ftStat_STATE fsACQUIRE).setFld .ftStat ftStat_STRATUM 0xFF).setFt (fun t => { t with good := 0 }))))
      ∧ (s.fld .ftCfg ftCfg_EN = 1 → 12 ≤ s.fld .ftCfg ftCfg_PARENT → s.fld .ftCfg ftCfg_PARENT ≤ 17 →
        s.ft.sendAt + us 10 ≤ s.now → s.ft.req = none → s.runs (portPart s.syncPort) = true →
        let q := (s.ft.seq + 1) % 256
        let u := s.setFt (fun t => { t with seq := q, req := some (q, s.syncPort, s.now), sendAt := s.now })
        exec .timeSyncTimer s = .next (s.after
          (u.inject (portPart s.syncPort) (u.syncCell s.syncPort (syncPay 1 q s.ownStratum 0 0)) (some (outOf s.syncPort))))))
  ∧ (∀ (s u : State) (e : InEnt), s.isLive = true →
      (s.syncTake 1 = some (e, u) → 12 ≤ e.port → u.up e.port = true → exec .timeSyncRequestRx s
        = .next (s.after (u.inject (portPart e.port) (u.syncCell e.port (syncPay 2 (bytesNat (slice e.pkt.pay 1 1)) u.ownStratum
            (bytesNat (slice e.pkt.pay 8 8)) (e.arr - s.ft.aged))) (some (outOf e.port)))))
      ∧ (∀ q c t0, s.syncTake 2 = some (e, u) → u.ft.req = some (q, c, t0) → u.fld .ftCfg ftCfg_EN = 1 → u.master = false →
        bytesNat (slice e.pkt.pay 1 1) = q → e.port = c → exec .timeSyncResponseRx s
          = .next (s.after (u.syncSample (bytesNat (slice e.pkt.pay 2 1)) (bytesNat (slice e.pkt.pay 8 8))
            (bytesNat (slice e.pkt.pay 16 8)) (bytesNat (slice e.pkt.pay 24 8)) (e.arr - s.ft.aged)))))

/-- A used sample makes the next stratum the node's own and ends the request; one ahead by more than 64 ns steps the counter
forward at once, and any other leaves the counter to its rate (R449). -/
def Obligations.SamplesCorrectTime : Prop :=
  ∀ (s : State) (k t1 t2 t3 t4 : Nat), k < 0xFF → t4 ≤ t1 + us 2 →
    let o : Int := (((t2 : Int) - t1) - ((t4 : Int) - t3)) / 2
    let t := s.syncSample k t1 t2 t3 t4
    t.fld .ftStat ftStat_STRATUM = min 0xFE (k + 1) ∧ t.ft.req = none ∧ t.ft.setNow = true ∧ t.st = s.st
    ∧ (256 < o → t.fnow = (s.fnow + o.toNat) % 2 ^ 64)
    ∧ (o ≤ 256 → t.fnow = s.fnow)

/-! ### The SerDes bus, the memory ports and the management port -/

/-- R24: without an answer within 2 µs GO is cleared, ERR is set, DATA of a read is all ones, and one bus-timeout event is
counted. R25 and R26: a write of 1 to GO with LANE above 191 clears GO and sets ERR without a bus cycle, and one while GO is
1 changes nothing. An answer clears GO and brings the read data (R23). -/
def Obligations.SerdesBus : Prop :=
  (∀ (s : State) (l : Nat) (wr : Bool) (d : BitVec 32), s.isLive = true → s.sdb.acc = some (l, wr) →
      exec (.sdbAnswer d) s = .next (s.after ((if wr then s else s.setFld .sdbData sdbData_DATA d.toNat).sdbEnd true))
      ∧ (s.sdb.goAt + us 2 ≤ s.now → exec .sdbTimeout s = .next (s.after
        (((if wr then s else s.setFld .sdbData sdbData_DATA 0xFFFFFFFF).sdbEnd false).blockEvent 0x30 ⟨syPART, 6⟩)))
      ∧ (∀ ok, (s.sdbEnd ok).fld .sdbCmd sdbCmd_GO = 0 ∧ (s.sdbEnd ok).sdb.acc = none)
      ∧ (s.sdbEnd false).fld .sdbCmd sdbCmd_ERR = 1)
  ∧ (∀ (s : State) (v : Word), fget v sdbCmd_GO = 1 →
      (s.fld .sdbCmd sdbCmd_GO = 1 → s.regWrite .sdbCmd v = s)
      ∧ (s.fld .sdbCmd sdbCmd_GO = 0 → 191 < fget v sdbCmd_LANE →
        (s.regWrite .sdbCmd v).fld .sdbCmd sdbCmd_GO = 0 ∧ (s.regWrite .sdbCmd v).fld .sdbCmd sdbCmd_ERR = 1
          ∧ (s.regWrite .sdbCmd v).sdb = s.sdb ∧ (s.regWrite .sdbCmd v).out = s.out)
      ∧ (s.fld .sdbCmd sdbCmd_GO = 0 → fget v sdbCmd_LANE ≤ 191 →
        (s.regWrite .sdbCmd v).sdb.acc = some (fget v sdbCmd_LANE, decide (fget v sdbCmd_WR = 1))
          ∧ (s.regWrite .sdbCmd v).fld .sdbCmd sdbCmd_GO = 1))

/-- Each answer of a memory port ends its request in its turn: a read that passes its checks, one that fails them, a write
with its check word; an unanswered one is abandoned after 10 µs (R30, R31, R404, R405, R407); a stale line is dropped
(R161). A tile is poisoned where the controller or an earlier read says so, and fails its check where the check word does not
match (R30, R404). -/
def Obligations.MemoryPort : Prop :=
  (∀ (s : State) (r : MReq) (m : MemMark) (tile : Nat), s.isLive = true → s.memReq r.id = some r →
      (s.memBehind r = false → r.kind ≠ .write → r.kind ≠ .merge → (s.tileCheck r.tile m).1 = none →
        exec (.memoryReadReturn r.id m) s = .next (s.after (((s.tileCheck r.tile m).2.reqDrop r.id).memUse r)))
      ∧ (∀ st, s.memBehind r = false → r.kind ≠ .write → (s.tileCheck r.tile m).1 = some st →
        exec (.memoryReadReturn r.id m) s
          = .next (s.after (((s.tileCheck r.tile m).2.reqDrop r.id).pieceDone r.job r.off [] (some st))))
      ∧ (s.memBehind r = false → r.kind = .merge → (s.tileCheck r.tile m).1 = none →
        let u := (s.tileCheck r.tile m).2
        let wr (x : MReq) : MReq := { x with kind := .write, at' := s.now }
        let reqs := updFirst (fun (x : MReq) => decide (x.id = r.id)) wr u.st.reqs
        exec (.memoryReadReturn r.id m) s = .next (s.after { u with st := { u.st with reqs := reqs } }))
      ∧ (s.memBehind r = false → r.kind = .write → r.thru = false →
        let n := (s.reqDrop r.id).st.memWrite r.tile r.lo r.data
        exec (.memoryWriteAnswer r.id) s = .next (s.after (State.pieceDone
          { s.reqDrop r.id with st := if r.part.isSome then n.stale r.tile s.now else n } r.job r.off [] none)))
      ∧ (s.memBehind r = false → r.at' + us 10 ≤ s.now → r.thru = false → exec (.memoryPortTimeout r.id) s = .next (s.after
        ((((s.cancelReqs (fun x => decide (x.id = r.id))).count (.dsErr (r.tile % 16)) dsErr_PTO 1).memEvent (r.tile % 16)
          0x23).pieceDone r.job r.off [] (some stCHECK))))
      ∧ exec (.storeCacheInvalidate tile) s = .next (s.after { s with st := { s.st with
          lines := s.st.lines.filter (fun l => !(decide (l.tile = tile) && l.inval.isSome)) } }))
  ∧ (∀ (s : State) (t : Nat) (m : MemMark),
      ((m = .uncorrectable ∨ t ∈ s.st.poison) → (s.tileCheck t m).1 = some stPOISON
        ∧ t ∈ (s.tileCheck t m).2.st.poison ∧ (s.tileCheck t m).2.evq.length = s.evq.length + 1)
      ∧ (m = .clean → t ∉ s.st.poison → firstChecked ≤ t → s.st.check t ≠ s.st.tileCrc t →
        (s.tileCheck t m).1 = some stCHECK ∧ (s.tileCheck t m).2.st = s.st)
      ∧ (m = .clean → t ∉ s.st.poison → (t < firstChecked ∨ s.st.check t = s.st.tileCrc t) → s.tileCheck t m = (none, s)))

/-- Where nothing waits, the answer to a write-through of the store cache writes its bytes and no other byte, and no register
but PEND changes (R32, R405, R412). -/
def Obligations.WriteThroughFrame : Prop :=
  ∀ (s : State) (r : MReq), s.isLive = true → s.quiet = true → s.memReq r.id = some r → s.memBehind r = false → r.kind = .write →
    r.thru = true → ∃ t, exec (.memoryWriteAnswer r.id) s = .next t
      ∧ t.st.read (4096 * r.tile + r.lo) r.data.length = r.data
      ∧ (∀ a, (a < 4096 * r.tile + r.lo ∨ 4096 * r.tile + r.lo + r.data.length ≤ a) → t.st.byte a = s.st.byte a)
      ∧ (∀ q : Reg, q.addr ≠ Reg.mqHead.addr → t.reg q = s.reg q)
      ∧ t.tp = s.tp ∧ t.sw = s.sw ∧ t.links = s.links ∧ t.gals = s.gals ∧ t.sec = s.sec ∧ t.mv = s.mv

/-- The management queue pair: the latest tail stands (R35), a command fetched advances FETCH (R34), an access unanswered
for 4 µs stops fetching and is one event (R34), and an answer ends its access. -/
def Obligations.ManagementPort : Prop :=
  ∀ (s : State) (tail : BitVec 12) (c : Cmd) (r : MgReq) (d : List Byte), s.isLive = true →
    exec (.mgmtDoorbell tail) s = .next (s.after (s.doorbell tail.toNat))
    ∧ (s.mayFetch = true → exec (.mgmtCommandFetch c) s = .next (s.after
      (let u := s.setFld .mqHead mqHead_FETCH ((s.fld .mqHead mqHead_FETCH + 1) % 2 ^ s.fld .mqCfg mqCfg_CLOG2)
       { u with mg := { u.mg with fetched := u.mg.fetched ++ [c], fetch := none } })))
    ∧ (∀ t, s.mv.mgreq.find? (fun x => x.id = r.id) = none → s.mg.fetch = some (r.id, t) → t + us 4 ≤ s.now →
      exec (.mgmtPortTimeout r.id) s = .next (s.after s.mgPortErr))
    ∧ (s.mv.mgreq.find? (fun x => x.id = r.id) = some r →
      let u : State := { s with mv := { s.mv with mgreq := s.mv.mgreq.filter (fun x => x.id ≠ r.id) } }
      (r.at' + us 4 ≤ s.now → exec (.mgmtPortTimeout r.id) s
        = .next (s.after (u.mgPortErr.pieceDone r.job r.off [] (some stTGTTO))))
      ∧ (s.mgBehind r = false → exec (.mgmtMemoryPortAnswer r.id d) s = .next (s.after
          (if r.wr then u.pieceDone r.job r.off r.old none
          else match r.op with
            | none => u.pieceDone r.job r.off (padTo r.len d) none
            | some (sub, a, b) =>
              { s with mv := { s.mv with mgreq := updFirst (fun x => decide (x.id = r.id)) (fun _ =>
                { r with wr := true, op := none, old := padTo r.len d, at' := s.now
                         data := natBytes r.len (atomicOp sub (bytesNat (padTo r.len d)) a b) }) s.mv.mgreq } }))))

/-! ### Queues and their commands -/

/-- A push to an active queue of its port, with credit left, is accepted (R69, R76); one for another port, an inactive queue or
with a bad end-to-end CRC is discarded with one event (R69, R263). A waiting push gets a freed slot (R73), takes its spilled
context (R72, R74), and a drained queue becomes FREE (R76). -/
def Obligations.QueuePushes : Prop :=
  (∀ (s : State) (e : InEnt), s.isLive = true → s.sw.inbox.find? s.pushReady = some e →
      let u : State := { s with sw := { s.sw with inbox := dropFirst s.pushReady s.sw.inbox } }
      let q := nfld e.pkt.ext.toNat 0 20
      ((e.pkt.e2e ≠ e.pkt.e2eOf ∨ q = 0) → exec .commandPush s = .next (s.after (u.portEvent e.port 0x18)))
      ∧ (∀ x, e.pkt.e2e = e.pkt.e2eOf → q ≠ 0 → s.ctxDie q = some x → (fget x.w0 qPORT ≠ e.port ∨ fget x.w0 qSTATE ≠ qsACTIVE) →
        exec .commandPush s = .next (s.after (u.portEvent e.port 0x18)))
      ∧ (∀ x, e.pkt.e2e = e.pkt.e2eOf → q ≠ 0 → s.ctxDie q = some x → fget x.w0 qPORT = e.port →
        fget x.w0 qSTATE = qsACTIVE → s.conf (fget x.w0 qSLICE) = false → fget x.w2 qINFL < fget x.w0 qCREDITS →
        exec .commandPush s = .next (s.after ((u.putCtx x).accept q e.port (fget x.w0 qSLICE) (Cmd.ofBytes e.pkt.pay))))
      ∧ (e.pkt.e2e = e.pkt.e2eOf → q ≠ 0 → s.ctxDie q = none → exec .commandPush s = .next (s.after
        { u with tp := { u.tp with pushW :=
            u.tp.pushW ++ [{ port := e.port, qid := q, cmd := Cmd.ofBytes e.pkt.pay, slot := u.ctxRoom }] } })))
  ∧ (∀ (s : State) (q c : Nat) (w : PushW), s.isLive = true → 1 ≤ q → q < 1048576 → c < 12 →
      (s.ctxRoom = true →
        let v : State := { s with tp := { s.tp with
          pushW := updFirst (fun w => decide (w.port = c) && !w.slot) (fun w => { w with slot := true }) s.tp.pushW } }
        exec (.pushSlotFreed c) s = .next (s.after (if v.up c then v.regrant c else v).tabResume))
      ∧ (s.tp.pushW.find? (fun w => decide (w.qid = q) && w.slot) = some w → s.ctxDie q = none → s.ctxRoom = true →
        let u : State := { s with tp := { s.tp with pushW := dropFirst (fun w => decide (w.qid = q) && w.slot) s.tp.pushW } }
        u.tileCheck (spillAddr q / 4096) .clean = (none, u) →
        exec (.spilledContextFetch q .clean) s
          = .next (s.after (((u.putCtx (u.ctxSpilled q)).pushTake w.port q w.cmd).tabResume)))
      ∧ (fget (s.ctx q).w0 qSTATE = qsDRAINING → fget (s.ctx q).w2 qINFL = 0 → s.recOut q = false →
        exec (.queueDrained q) s = .next (s.after (s.setQState q qsFREE))))

/-- A data command that may start, passes its checks and that nothing holds back is sent (R97 to R108, R164, R168), the request
commands as one cell to their target (R99, R105, R108, R250); one held back stays held. A FENCE that may start runs (R149),
and a gallery command that passes its checks joins the step under way or is held for the next one (R193, R194). -/
def Obligations.CommandsStart : Prop :=
  (∀ x ∈ startRows, ∀ (s : State) (q : Nat) (t : Txn), Instr.wf (x.1 q) = true → s.isLive = true → s.mayStart q t →
      x.2 t.cmd = true → s.findTxn t.id = some t → t.formatFail = none → s.issueCheck t = none →
      let u := s.updTxn t.id (fun y => { y with stage := .held })
      let h : Txn := { t with stage := .held }
      exec (x.1 q) s = .next (s.after (if u.tp.txns.any (fun y => h.behind y) then u
        else if t.cmd.releases then u.release h else u.sendTxn h)))
  ∧ (∀ (s : State) (t : Txn), t.cmd.opc ≠ opPUT → t.cmd.opc ≠ opPUTI → s.findTxn t.id = some t →
      s.sendTxn t = (s.updTxn t.id (fun x => { x with stage := .running, acked := false })).send (s.tPart t) (s.reqCell t)
      ∧ (s.reqCell t).h.opc.toNat = t.cmd.opc ∧ (s.reqCell t).isFrame = false
      ∧ (s.reqCell t).h.dst.toNat = (if t.cmd.opc = opCOPY then t.cmd.srcep else t.cmd.dst) % 65536)
  ∧ (∀ (s : State) (q : Nat) (t : Txn), s.isLive = true → s.mayStart q t → s.findTxn t.id = some t → q < 1048576 →
      (t.cmd.opc = opFENCE → t.formatFail = none → exec (.fence q) s
        = .next (s.after (s.updTxn t.id (fun y => { y with stage := .running }))))
      ∧ (∀ x ∈ galStartRows, Instr.wf (x.1 q) = true → t.cmd.opc = x.2 → s.galCheck t = none →
        let u := s.updTxn t.id (fun y => { y with stage := .held })
        (t.cmd.sgen ≠ s.gsgen t.cmd.gal → exec (x.1 q) s = .next (s.after (u.updGal t.cmd.gal (fun g =>
          { g with heldC := g.heldC ++ [t.id], next := g.next <|> some s.now }))))
        ∧ (t.cmd.sgen = s.gsgen t.cmd.gal → ∀ v, (u.memJoin t.cmd.gal [t]).findTxn t.id = some v →
          exec (x.1 q) s = .next (s.after ((u.memJoin t.cmd.gal [t]).galRelease v)))))

/-! ### Management commands -/

/-- REG_READ answers DONE with the register's value, and a REG_WRITE that its register takes answers DONE; one that the register
refuses, and an address in no register, answer FORMAT_ERROR, reason 0x03 (R543), and reason 0x02 for a routing table word with a
non-zero reserved field (R347). Every write is the one of exactly one row. -/
def Obligations.RegisterCommands : Prop :=
  (∀ (s : State) (c : Cmd), s.isLive = true → s.starts c →
      (cmdReg c = none → ∀ x ∈ [(0x80, Instr.regRead), (0x81, .regWrite)], c.opc = x.1 →
        exec x.2 s = .next (s.after (s.mgmtTaken.mgmtRec c stFORMAT (resFmt 3 16))))
      ∧ (∀ r, cmdReg c = some r →
        (c.opc = 0x80 → exec .regRead s
          = .next (s.after ((s.mgmtTaken.readReg r).2.mgmtRec c stDONE (s.mgmtTaken.readReg r).1.toNat)))
        ∧ (c.opc = 0x81 → heldByMirror s r = false → ∀ x ∈ regRows, x.2 r c.w3 = true →
          (s.mgmtTaken.regRefused r c.w3 = false →
            exec x.1 s = .next (s.after ((s.mgmtTaken.regWrite r c.w3).mgmtRec c stDONE 0)))
          ∧ (s.mgmtTaken.regRefused r c.w3 = true →
            exec x.1 s = .next (s.after ((s.mgmtTaken.refusedWrite r c.w3).mgmtRec c stFORMAT
              (resFmt (regReason r c.w3).1 (regReason r c.w3).2)))))
        ∧ ((∀ e w, r ≠ .rtab e w) → regReason r c.w3 = (3, 24))
        ∧ (∀ e, r = .rtab e 0x2040 → 0x10000 ≤ c.w3.toNat → regReason r c.w3 = (2, 26))))
  ∧ (∀ (r : Reg) (v : Word), (regRows.filter (fun x => x.2 r v)).length = 1)

/-- R95 and R93: DX_MQ_CFG takes EN = 1 only with both ring sizes from 4 to 12, else it sets MGMT_PORT_ERR and EN stays 0;
taking it sets the fetch index and slot to 0 and the phase to 1; while EN is 1 only EN changes. -/
def Obligations.ManagementRingsAreChecked : Prop :=
  ∀ (s : State) (v : Word),
    let t := s.regWrite .mqCfg v
    (s.fld .mqCfg mqCfg_EN = 1 → t = s.setFld .mqCfg mqCfg_EN (fget v mqCfg_EN))
    ∧ (s.fld .mqCfg mqCfg_EN = 0 → s.fld .mqHead mqHead_PEND = 0 → fget v mqCfg_EN = 1 →
      ((4 ≤ fget v mqCfg_CLOG2 ∧ fget v mqCfg_CLOG2 ≤ 12 ∧ 4 ≤ fget v mqCfg_RLOG2 ∧ fget v mqCfg_RLOG2 ≤ 12) →
        t.fld .mqCfg mqCfg_EN = 1 ∧ t.fld .mqHead mqHead_FETCH = 0 ∧ t.fld .mqHead mqHead_WIDX = 0 ∧ t.fld .mqHead mqHead_PH = 1)
      ∧ (¬ (4 ≤ fget v mqCfg_CLOG2 ∧ fget v mqCfg_CLOG2 ≤ 12 ∧ 4 ≤ fget v mqCfg_RLOG2 ∧ fget v mqCfg_RLOG2 ≤ 12) →
        t.fld .mqCfg mqCfg_EN = 0 ∧ t.fld .stat stat_MGMTPORTERR = 1))
    ∧ (s.fld .mqCfg mqCfg_EN = 0 → s.fld .mqHead mqHead_PEND = 1 → fget v mqCfg_EN = 1 →
      t.fld .mqCfg mqCfg_EN = 0 ∧ t.fld .stat stat_MGMTPORTERR = 1)
    ∧ (∀ q : Reg, q.addr ≠ Reg.mqCfg.addr → q.addr ≠ Reg.mqHead.addr → q.addr ≠ Reg.stat.addr → t.reg q = s.reg q)

/-- R454: a REG_WRITE that changes PARENT or ALT while EN is 1, or names another than 12 to 17 and 31, is refused with reason
0x03 and leaves the register as it was. DX_FT_NOW takes a value only at a master and only forward (R453). -/
def Obligations.TimeRegistersRefuse : Prop :=
  ∀ (s : State) (c : Cmd), s.isLive = true → s.starts c → c.opc = 0x81 →
    let v := c.w3
    let refused := s.after (s.mgmtTaken.mgmtRec c stFORMAT (resFmt 3 24))
    (cmdReg c = some .ftCfg →
      (s.fld .ftCfg ftCfg_EN = 1 →
        (fget v ftCfg_PARENT ≠ s.fld .ftCfg ftCfg_PARENT ∨ fget v ftCfg_ALT ≠ s.fld .ftCfg ftCfg_ALT) →
        exec .dxFtCfgWrite s = .next refused)
      ∧ (∀ p ∈ [ftCfg_PARENT, ftCfg_ALT], fget v p ≠ 31 → (fget v p < 12 ∨ 17 < fget v p) → exec .dxFtCfgWrite s = .next refused))
    ∧ (cmdReg c = some .ftNow →
      ((s.fld .ftCfg ftCfg_PARENT ≠ 31 ∨ v.toNat < s.fnow) → exec .dxFtNowWrite s = .next refused)
      ∧ (s.fld .ftCfg ftCfg_PARENT = 31 → s.fnow ≤ v.toNat → ∃ u : State,
        exec .dxFtNowWrite s = .next (s.after (u.mgmtRec c stDONE 0)) ∧ u.reg .ftNow = v ∧ u.st = s.st
          ∧ (∀ q : Reg, q.addr ≠ Reg.ftNow.addr → q.addr ≠ Reg.ftStat.addr → u.reg q = s.reg q)))

/-- A TABLE_WRITE, GALLERY_SETUP or removal that its table takes answers DONE, with the table written; one that it refuses answers
FORMAT_ERROR with the reason and the place of the field, and writes nothing (R63, R100, R182, R184, R207, R347, R541). SLICE_CREATE makes
a FREE slice ACTIVE, and any other is refused (R533); SLICE_TEARDOWN of slice 0 is refused, that of a FREE slice is DONE at once, that of
an ACTIVE one is handed to its engine, and that of the slice being torn down ends with it (R533). A teardown whose drain is over clears
what the slice had: one that is confidential or in quarantine has its memory scrubbed first, any other is FREE at once (R535). -/
def Obligations.TableAndSliceCommands : Prop :=
  (∀ (s : State) (c : Cmd), s.isLive = true → s.starts c →
      let u := s.mgmtTaken
      let ix := cmdIndex c
      let refused (f : Instr) (x : Nat × Nat) : Prop := exec f s = .next (s.after (u.mgmtRec c stFORMAT (resFmt x.1 x.2)))
      (c.opc = 0x82 → cmdTid c = 1 → s.fld .dsStat dsStat_SYSRDY = 1 → s.tp.pushW = [] → (fget c.w3 qPIN = 0 ∨ s.ctxRoom = true) →
        (u.ctxRefused ix c.w3 c.w4 = none → exec .tableWriteQueueContext s = .next (s.after ((u.ctxWrite ix c.w3 c.w4).mgmtRec c stDONE 0)))
        ∧ (∀ x, u.ctxRefused ix c.w3 c.w4 = some x → refused .tableWriteQueueContext x))
      ∧ (c.opc = 0x82 → cmdTid c = 2 → s.fld .dsStat dsStat_SYSRDY = 1 →
        (ix < 1048576 → u.regionRefused c.w3 c.w4 = none →
          exec .tableWriteRegion s = .next (s.after ((u.regionWrite ix c.w3 c.w4).mgmtRec c stDONE 0)))
        ∧ (∀ x, ix < 1048576 → u.regionRefused c.w3 c.w4 = some x → refused .tableWriteRegion x)
        ∧ (1048576 ≤ ix → refused .tableWriteRegion (3, 17)))
      ∧ (c.opc = 0x82 → cmdTid c = 3 →
        (ix / 16384 < 6 → u.seqBusy (ix / 16384) (ix % 16384) = false →
          exec .tableWriteSequencer s = .next (s.after ((u.seqWrite (ix / 16384) (ix % 16384) c.w3 c.w4).mgmtRec c stDONE 0)))
        ∧ ((6 ≤ ix / 16384 ∨ u.seqBusy (ix / 16384) (ix % 16384) = true) → refused .tableWriteSequencer (3, 17)))
      ∧ (c.opc = 0x82 → (cmdTid c = 4 ∨ cmdTid c = 5) → s.sec.mirror.held = none →
        (ix < 0x18000 → rtabWord (8 * ix) = true → u.rtabRefused (cmdTid c - 4) ix c.w3 = none →
          exec .tableWriteRouting s = .next (s.after ((u.rtabWrite (cmdTid c - 4) ix c.w3).mgmtRec c stDONE 0)))
        ∧ (∀ x, ix < 0x18000 → rtabWord (8 * ix) = true → u.rtabRefused (cmdTid c - 4) ix c.w3 = some x → refused .tableWriteRouting x)
        ∧ ((0x18000 ≤ ix ∨ rtabWord (8 * ix) = false) → refused .tableWriteRouting (3, 17)))
      ∧ (let g := c.fld 2 0 12
        c.opc = 0x84 → s.sec.mirror.held = none →
        (cmdGalV c = true → u.setupRefused g c.w3 c.w4 c.w5 c.w6 = none →
          exec .gallerySetup s = .next (s.after ((u.galSetup g c.w3 c.w4 c.w5 c.w6).mgmtRec c stDONE 0)))
        ∧ (∀ x, cmdGalV c = true → u.setupRefused g c.w3 c.w4 c.w5 c.w6 = some x → refused .gallerySetup x)
        ∧ (cmdGalV c = false → gdefReserved c.w3 c.w4 c.w5 c.w6 = none →
          exec .galleryTeardown s = .next (s.after ((u.galRemove g c.w3 c.w4 c.w5 c.w6).mgmtRec c stDONE 0)))
        ∧ (∀ x, cmdGalV c = false → gdefReserved c.w3 c.w4 c.w5 c.w6 = some x → refused .galleryTeardown x))
      ∧ (let sl := c.fld 2 0 6
        (c.opc = 0x88 →
          (sl ≠ 0 → u.fld (.slice sl) slice_STATE = 0 → exec .sliceCreate s = .next (s.after
            ((((u.setFld (.slice sl) slice_STATE 1).setFld (.slice sl) slice_QUAR 0).quotaCheck (List.range 6)).mgmtRec c stDONE 0)))
          ∧ ((sl = 0 ∨ u.fld (.slice sl) slice_STATE ≠ 0) → refused .sliceCreate (3, 16)))
        ∧ (c.opc = 0x89 →
          (sl = 0 → refused .sliceTeardown (3, 16))
          ∧ (sl ≠ 0 → u.fld (.slice sl) slice_STATE = 0 → exec .sliceTeardown s = .next (s.after (u.mgmtRec c stDONE 0)))
          ∧ (sl ≠ 0 → u.fld (.slice sl) slice_STATE ≠ 0 →
            (s.mg.tear = none → exec .sliceTeardown s = .next (s.after
              (State.tearNext (s.mg.engTear.length + 1) { u with mg := { u.mg with engTear := s.mg.engTear ++ [c] } })))
            ∧ (∀ t, s.mg.tear = some t → t.slice = sl → exec .sliceTeardown s
              = .next (s.after { u with mg := { u.mg with tear := some { t with cmds := t.cmds ++ [c] } } }))
            ∧ (∀ t, s.mg.tear = some t → t.slice ≠ sl → exec .sliceTeardown s
              = .next (s.after { u with mg := { u.mg with engTear := s.mg.engTear ++ [c] } }))))))
  ∧ (∀ (s : State) (t : Tear), s.isLive = true → s.mg.tear = some t → s.sec.mirror.held = none →
      (t.step = 2 → s.tearDrained t.slice = true →
        let r := s.tearClear t.slice
        let rg := if s.conf t.slice || s.quar t.slice then r.1.filterMap generalPart else []
        let w : Tear := { t with step := 4, ranges := rg }
        let v : State := { r.2 with mg := { r.2.mg with tear := some w } }
        let u := if rg.isEmpty then v.tearFree w else rg.foldl (fun s x => s.scrubAdd x.1 x.2 none) v
        exec .sliceTeardownDrain s = .next (s.after (u.tearNext u.mg.engTear.length)))
      ∧ (t.step = 1 → exec .sliceTeardownDrain s
        = .next (s.after (State.tearClose { s with mg := { s.mg with tear := some { t with step := 2 } } } t.slice))))

/-- The commands that engines run are handed to them where their operands are in range: EPOCH_SWAP, SCRUB, SCAN_CRC, DUMP,
ATTEST and FW_ACTIVATE (R367, R415, R423, R481, R512, R544, R548). An answer to an activation starts the staged image with
DX_HB at zero, a refusal ends the command with KEY_FAIL, and 1 ms without an answer leaves the interpreter halted (R549). -/
def Obligations.EngineCommands : Prop :=
  (∀ (s : State) (c : Cmd), s.isLive = true → s.starts c →
      let u := s.mgmtTaken
      let a := c.fld 2 0 40
      let n := c.fld 3 0 40
      (c.opc = 0x83 → s.mg.engSwap = [] → exec .epochSwap s
        = .next (s.after (State.swapNext 1 { u with mg := { u.mg with engSwap := [c] } })))
      ∧ (c.opc = 0x8A → a % 4096 = 0 → n % 4096 = 0 → 0 < n →
        ((0x20000000 ≤ a ∧ a + n ≤ dsEnd) ∨ (0x10000000 ≤ a ∧ a + n ≤ 0x14000000)) →
        exec .scrub s = .next (s.after (u.scrubAdd a n (some c))))
      ∧ (c.opc = 0x8C → 0 < n → a + n ≤ dsEnd → exec .scanCrc s = .next (s.after (u.scanAdd a n (c.fld 4 0 2) (some c))))
      ∧ (c.opc = 0x90 → c.fld 2 0 3 < 6 → exec .dump s = .next (s.after (State.dumpNext
        { u with mg := { u.mg with engDump := u.mg.engDump ++ [(c.fld 2 0 3, some c)] } })))
      ∧ (c.opc = 0xB0 → c.w2.toNat % 8 = 0 → c.w3.toNat % 8 = 0 → 1 ≤ c.fld 4 0 16 → c.fld 4 0 16 ≤ 32704 → c.fld 4 16 16 ≤ 32768 →
        ∀ x ∈ [(0, Instr.attestSpdm), (1, .attestManifest)], c.subop = x.1 →
          exec x.2 s = .next (s.after (State.attNext { u with mg := { u.mg with engAtt := u.mg.engAtt ++ [c] } })))
      ∧ (c.opc = 0x98 → s.mg.att = none → s.mg.engAtt = [] → exec .fwActivate s = .next (s.after
        (State.attBegin { u with mg := { u.mg with interp := .holding, holdAt := u.now } } (some c) true c.w2.toNat))))
  ∧ (∀ (s : State) (a : Att) (c : Cmd) (w0 w1 : Word), s.isLive = true → s.mg.att = some a → a.cmd = some c →
      (a.fw = true → a.stage = 3 →
        exec (.fwActivateResponse true) s = .next (s.after (((s.setAtt none).setInterp .running).mgmtEp c stKEY))
        ∧ exec (.fwActivateResponse false) s = .next (s.after
          ((((s.mgWrite s.mbox (mboxWord0 a.seq 0 a.subop a.len) .drop).setAtt (some { a with stage := 6 })).setInterp
            .starting).setReg .hb 0)))
      ∧ (a.fw = true → a.stage ≤ 3 → a.start + ms 1 ≤ s.now → exec .fwActivateTimeout s
        = .next (s.after (((s.setAtt none).setInterp .halted).mgmtEp c stTGTTO)))
      ∧ (a.fw = false → a.stage = 3 →
        (a.pollAt + us 1 ≤ s.now →
          (nfld w0.toNat 16 4 = 3 → exec (.attestMailboxPoll w0 w1) s = .next (s.after (s.attEnd false stKEY (s.ep 14))))
          ∧ (nfld w0.toNat 16 4 = 2 → nfld w1.toNat 0 32 = 0 →
            exec (.attestMailboxPoll w0 w1) s = .next (s.after (s.attEnd true stDONE 0)))
          ∧ (nfld w0.toNat 16 4 < 2 → exec (.attestMailboxPoll w0 w1) s = .next (s.after (s.setAtt (some { a with pollAt := s.now })))))
        ∧ (a.start + ms 500 ≤ s.now → exec .attestTimeout s = .next (s.after (s.attEnd true stTGTTO (s.ep 14))))))

/-- R466: FAULT_ACK clears the pending bits at or before its sequence number and sets ACKSEQ; it unfences nothing; a unit
above 6 or a number at or after NEXTSEQ is refused with reason 0x03 and no effect. -/
def Obligations.FaultAcknowledged : Prop :=
  ∀ (s : State) (c : Cmd), s.isLive = true → s.starts c → c.opc = 0xA0 →
    let u := c.fld 2 0 3
    let q := c.fld 2 16 16
    let m := s.mgmtTaken
    ((6 < u ∨ serialBefore q (m.fld (.fltStat u) fltStat_NEXTSEQ) = false) →
      ∃ off, exec .faultAck s = .next (s.after (m.mgmtRec c stFORMAT (resFmt 3 off))))
    ∧ (u ≤ 6 → serialBefore q (m.fld (.fltStat u) fltStat_NEXTSEQ) = true → ∃ t : State,
      exec .faultAck s = .next (s.after (t.mgmtRec c stDONE 0)) ∧ t.fld (.fltStat u) fltStat_ACKSEQ = q
      ∧ (∀ x ∈ (t.funit u).pend, x ∈ (m.funit u).pend ∧ x.2.seq ≠ q ∧ serialBefore x.2.seq q = false)
      ∧ (∀ x ∈ (m.funit u).pend, (x.2.seq = q ∨ serialBefore x.2.seq q = true) →
        t.fld (.fltStat u) (pendPos x.1) = 0)
      ∧ (∀ r : Reg, r.addr ≠ (Reg.fltStat u).addr → t.reg r = m.reg r) ∧ t.parts = m.parts)

/-- LANE_TEST sets the mode of its lane, and the injection where the mode has a PRBS stream, and is DONE; a lane that may not be fenced refuses it (R308 to R310).
A lane fenced before keeps every register and every other lane. -/
def Obligations.LaneTests : Prop :=
  ∀ (s : State) (c : Cmd), s.isLive = true → s.starts c → c.opc = 0xA8 → c.fld 2 0 8 ≤ 191 →
    (c.fld 2 8 4 = 0 ∨ c.fld 2 16 6 = 0 ∨ (10 ≤ c.fld 2 16 6 ∧ c.fld 2 16 6 ≤ 40)) →
    ∀ x ∈ [(0, Instr.laneTestStop), (1, .laneTestPrbs31), (2, .laneTestPrbs13q), (3, .laneTestNearLoop), (4, .laneTestFarLoop)],
      c.fld 2 8 4 = x.1 →
      let l := c.fld 2 0 8
      let p := lanePort l
      let r := s.reg (.portCfg (portPart p) (portK p))
      let bad := s.mgmtTaken.portCfgRefused (portPart p) (portK p)
        (fset r portCfg_FENCE (fget r portCfg_FENCE ||| 2 ^ laneLocal l))
      ((s.fencedLanes p).getLsbD (laneLocal l) = true → ∃ t : State, exec x.2 s = .next (s.after (t.mgmtRec c stDONE 0))
        ∧ (t.lane l).mode = x.1 ∧ (t.lane l).inj = (if x.1 ∈ [1, 2, 3] then c.fld 2 16 6 else 0)
        ∧ (∀ k, k ≠ l → t.lane k = s.lane k) ∧ t.regs = s.regs)
      ∧ ((s.fencedLanes p).getLsbD (laneLocal l) = false → bad = false → ∃ t : State,
        exec x.2 s = .next (s.after (t.mgmtRec c stDONE 0)) ∧ (t.lane l).mode = x.1)
      ∧ ((s.fencedLanes p).getLsbD (laneLocal l) = false → bad = true →
        exec x.2 s = .next (s.after (s.mgmtTaken.mgmtRec c stFORMAT (resFmt 3 16))))

/-! ### Lanes and links -/

/-- Lanes lock, lose lock and mark (R268, R271), and a port goes on training by what its partner sends and by its timers
(R274 to R280, R305). -/
def Obligations.LanesAndTraining : Prop :=
  ∀ (s : State) (l c : Nat) (t : TrainBlk) (bl : List MarkBlk), l < 192 → c < 18 → s.isLive = true →
    (s.laneOn l = true → (s.lane l).locked = false → exec (.laneBlockLock l) s
      = .next (s.after ((s.setLane l (fun x => { x with locked := true, aligned := true, good := 0, hist := [] })).trainOn (lanePort l))))
    ∧ (s.laneOn l = true → (s.lane l).locked = true → exec (.laneLockLoss l) s
      = .next (s.after ((s.setLane l (fun x =>
        { x with locked := false, aligned := false, good := 0, hist := [], blks := [] })).laneLost l)))
    ∧ (s.trains c = true → Instr.wf (.markReceive c bl) = true → exec (.markReceive c bl) s
      = .next (s.after ((bl.foldl (fun s m => s.mark c m) s).trainOn c)))
    ∧ (s.pst c = psALIGN → s.trainOk c t = true → exec (.trainReceive c t) s = .next (s.after
      (((s.setFld (statReg c) portStat_PEER t.node.toNat).setLink c
        (fun l => { l with partner := some t.mask, pready := t.ready })).train c)))
    ∧ (s.pst c = psLOCK → s.trainOk c t = false → exec (.trainReceive c t) s
      = .next (s.after (((s.count (errReg c) portErr_MISMATCH 1).portEvent c 0x05).setPst c psMISMATCH)))
    ∧ (s.pst c = psMISMATCH → s.trainOk c t = false → exec (.trainReceive c t) s
      = .next (s.after ((s.count (errReg c) portErr_MISMATCH 1).portEvent c 0x05)))
    ∧ (s.pst c = psMISMATCH → (s.link c).since + ms 1 ≤ s.now → exec (.mismatchTimer c) s = .next (s.after (s.enterLock c)))
    ∧ (s.pst c = psALIGN → (s.link c).lockAt + ms 20 ≤ s.now → exec (.trainingTimeout c) s
      = .next (s.after (((s.count (errReg c) portErr_TRTO 1).portEvent c 0x05).enterLock c)))
    ∧ (s.pst c = psDOWN → (s.link c).since + us 1 ≤ s.now → s.mayTrain c = true → exec (.downTimer c) s
      = .next (s.after (s.enterLock c)))
    ∧ (s.pst c = psRETRAIN →
      let bad := (s.link c).prev &&& ~~~(s.fencedLanes c) &&& ~~~(s.ownMask c)
      (bad = 0 → exec (.retrainLockWait c) s = .next (s.after (s.train c)))
      ∧ (bad ≠ 0 → (s.link c).since + us 10 ≤ s.now → exec (.retrainLockWait c) s = .next (s.after (((s.setFld (statReg c)
          portStat_HWFENCE (s.fld (statReg c) portStat_HWFENCE ||| bad.toNat)).lanesFenced c bad).train c))))

/-- Control blocks on a port in UP: START re-bases or asks again (R290), and in announced idle ends the burst, by which the lanes
are judged (R298, R299); CREDIT sets the grant (R284), ACK frees what it
covers (R291, R292), NAK replays (R293), IDLE_ENTER is announced idle or parks the port (R297, R301). -/
def Obligations.ControlBlocks : Prop :=
  ∀ (s : State) (c ch : Nat) (n g : BitVec 16), c < 18 → ch < 12 → (portChans c).contains ch = true → s.isLive = true →
    s.up c = true →
    let start (s : State) : State :=
      if serialBefore (s.link c).eseq n.toNat then (s.setLink c (fun x => { x with resync := true })).pendCtl c (ctlLseq ctNAK (s.link c).eseq)
      else s.setLink c (fun x => { x with resync := false, cur := n.toNat })
    ((s.fld (statReg c) portStat_RXIDLE = 0 → exec (.startReceive c n) s = .next (s.after (start s)))
      ∧ (s.fld (statReg c) portStat_RXIDLE = 1 → exec (.startReceive c n) s
        = .next (s.after (if (s.judge c).up c then start (s.judge c) else s.judge c))))
    ∧ exec (.creditReceive c ch g) s = .next (s.after (s.setLink c (fun x => { x with granted := x.granted.set ch g.toNat })))
    ∧ (∀ r ∈ s.sw.replay, r.port = c → r.lseq = n.toNat → exec (.ackBlockReceive c n) s = .next (s.after (State.setLink
      { s with sw := { s.sw with replay := s.sw.replay.filter (fun r =>
          !(decide (r.port = c) && (decide (r.lseq = n.toNat) || serialBefore r.lseq n.toNat))) } } c
      (fun x => { x with ackAt := s.now, repN := 0 }))))
    ∧ exec (.nakReceive c n) s = .next (s.after (s.replayFrom c n.toNat))
    ∧ exec (.idleEnterReceive c false) s = .next (s.after (s.rxIdle c))
    ∧ exec (.idleEnterReceive c true) s = .next (s.after ((s.linkEmit c (.ctl c (BitVec.ofNat 64 (ctIDLE + 256)))).portDead c psPARKED))

/-- A packet in clear whose link CRC fails asks for a replay, a duplicate is acknowledged again and dropped, and the next one in
sequence is accepted (R290, R291). Accepting it touches no store, no command and no gallery: it enters its receive stage. -/
def Obligations.LinkPacketsReceived : Prop :=
  (∀ (s : State) (c : Nat) (b : List Byte), c < 18 → Instr.wf (.linkPacketReceive c [b] none []) = true → s.isLive = true →
      s.up c = true → s.fld (statReg c) portStat_RXIDLE = 0 → (s.link c).resync = false →
      ((∀ p, Pkt.parse b ≠ some (p, true)) → exec (.linkPacketReceive c [b] none []) s = .next (s.after
        ((((s.count (errReg c) portErr_LCRC 1).portEvent c 0x01).setLink c (fun x => { x with resync := true })).pendCtl c
          (ctlLseq ctNAK (s.link c).eseq))))
      ∧ (∀ p, Pkt.parse b = some (p, true) → s.conf (if c < 12 then s.edgeSlice c p else p.h.slice.toNat) = false →
        (serialBefore (s.link c).cur (s.link c).eseq = true → exec (.linkPacketReceive c [b] none []) s = .next (s.after
          ((s.setLink c (fun x => { x with cur := (x.cur + 1) % 65536 })).pendCtl c (ctlLseq ctACK ((s.link c).eseq + 65535)))))
        ∧ (serialBefore (s.link c).cur (s.link c).eseq = false → exec (.linkPacketReceive c [b] none []) s
          = .next (s.after (s.acceptPkt c p)))))
  ∧ (∀ (s : State) (c : Nat) (p : Pkt), let t := s.acceptPkt c p
      t.st = s.st ∧ t.tp = s.tp ∧ t.mv = s.mv ∧ t.gals = s.gals ∧ t.mg = s.mg ∧ t.sec = s.sec ∧ t.sw.copies = s.sw.copies
      ∧ t.sw.inbox = s.sw.inbox ∧ (t.sw.rx = s.sw.rx ∨ ∃ e, t.sw.rx = s.sw.rx ++ [e] ∧ e.pkt = p ∧ e.port = c))

/-- The timers of a port in UP: credits again every 1 µs (R284), control blocks after 64 ns (R273), a replay (R294), a loss
(R302), announced idle and its end (R297, R298). -/
def Obligations.LinkTimers : Prop :=
  ∀ (s : State) (c : Nat) (x : LossCause), c < 18 → s.isLive = true →
    (s.up c = true →
      ((s.link c).refAt + us 1 ≤ s.now → exec (.creditRefresh c) s = .next (s.after
        ((portChans c).foldl (fun s ch => s.pendCtl c (ctlCredit ch (nthD (s.link c).grantG ch)))
          (s.setLink c (fun x => { x with refAt := s.now })))))
      ∧ (s.fld (statReg c) portStat_TXIDLE = 0 → exec (.controlBlockForced c) s = .next (s.after
        (((s.link c).ctl.filter (fun b => decide (b.2 + ns 64 ≤ s.now))).foldl (fun s b => s.linkEmit c (.ctl c b.1))
          (s.setLink c (fun x => { x with ctl := x.ctl.filter (fun b => !decide (b.2 + ns 64 ≤ s.now)) }))))))
    ∧ (s.up c = true → (s.unacked c).isEmpty = false → (s.link c).ackAt + s.replayTime c ≤ s.now →
      exec (.replayTimeout c) s = .next (s.after (s.replayFrom c (s.oldest c))))
    ∧ (s.lossHolds c x = true → exec (.linkLoss c x) s = .next (s.after (s.portLoss c psDOWN)))
    ∧ (s.mayIdle c = true → exec (.announcedIdleEntry c) s
      = .next (s.after (let t := (s.linkEmit c (.ctl c (BitVec.ofNat 64 ctIDLE))).setFld (statReg c) portStat_TXIDLE 1
        t.emit (.pilot c (t.pilotLanes c)))))
    ∧ (s.up c = true → s.fld (statReg c) portStat_TXIDLE = 1 → (s.link c).ctl.isEmpty = false →
      exec (.fastExit c) s = .next (s.after (((s.setFld (statReg c) portStat_TXIDLE 0).emit
        (.burst c (BitVec.ofNat 16 (s.fld (statReg c) portStat_ACTIVE)) (s.link c).next)).setLink c
          (fun x => { x with lastTx := s.now, txAt := s.now + ns 128, txN := 0 }))))

/-! ### The switch -/

/-- A packet that may be admitted leaves the head of its channel, or the packets built here, and its credit returns (R315,
R316, R321); where another head contends for the buffer it is written to, the one of the better class goes (R317). An output sends
the copy it chooses once: to the node's own units, unless a quarantined key sent it (R499), or on its port, where the replay buffer
holds it with its LSEQ (R292, R326, R337); one of no gallery packet whose tile fails its check goes nowhere (R326). Cells held for their first one expire at 200 µs (R249, R329). -/
def Obligations.SwitchRows : Prop :=
  ∀ (s : State) (c ch n o : Nat) (e : RxEnt) (i : Inj) (x : Copy) (d : Drr), s.isLive = true →
    (∀ f ∈ [Instr.packetAdmit, Instr.admissionRetry],
      (c < 18 → ch < 12 → s.rxHead c ch = some e → ∀ y, s.rival e = some y →
        exec (f (.recv c ch)) s = .next (s.after (s.xbarTake y)) ∧ xbarRank y.pkt.cls ≤ xbarRank e.pkt.cls)
      ∧ (c < 18 → ch < 12 → s.rxHead c ch = some e → s.flows (portPart c) = true → s.headBypass e = false → s.rival e = none →
        let w : Pend :=
          { part := portPart c, pkt := e.pkt, inPort := some c, arr := e.arr, built := false, gdel := none, ereq := none }
        let u : State := { s with sw := { s.sw with rx := dropFirst (fun y => decide (y.port = c ∧ y.chan = ch)) s.sw.rx } }
        let r := if c < 12 then u.admitEdge c w else u.admitTorus w
        let t := r.2.regrant c
        r.1 = true → ∃ l, exec (f (.recv c ch)) s = .next (s.after { t with sw := { t.sw with rrIn := l } }))
      ∧ (∀ l, n < 6 → s.runs n = true → s.sw.inj = i :: l → i.part = n → i.shaped = false →
        let w : Pend :=
          { part := n, pkt := i.pkt, inPort := none, arr := i.arr, built := true, gdel := i.gdel, ereq := i.ereq }
        let r := State.admitBuilt { s with sw := { s.sw with inj := l } } w i.fixed
        r.1 = true → exec (f (.built n)) s = .next (s.after (r.2.heldAll (fun y => decide (y.part = n))))))
    ∧ (n < 6 → o < 5 → s.flows n = true → s.choose n o = some (x, d) → s.quar x.pkt.h.slice.toNat = false → s.tooOld x = false →
      x.pkt.isGal = false → x.firstBad.isSome = true →
      ∃ u, exec (.outputSelect n o none) s = .next (s.after u) ∧ u.sw.copies = dropFirst (fun y => decide (y = x)) s.sw.copies
        ∧ u.sw.replay = s.sw.replay ∧ u.sw.inbox = s.sw.inbox)
    ∧ (n < 6 → o < 5 → s.flows n = true → s.choose n o = some (x, d) → s.quar x.pkt.h.slice.toNat = false → s.tooOld x = false →
      x.flips = [] →
      let ent (p : Pkt) : InEnt := { part := n, pkt := p, inPort := x.inPort, arr := x.arr, at' := s.now }
      ∃ u q, exec (.outputSelect n o none) s = .next (s.after u)
        ∧ u.sw.copies = dropFirst (fun y => decide (y = x)) s.sw.copies ∧ q.pay = x.pkt.pay ∧ q.h.dst = x.pkt.h.dst
        ∧ (2 < o → s.quarPart (ent x.pkt) = none → u.sw.inbox = inboxAdd (ent q) s.sw.inbox)
        ∧ (2 < o → s.quarPart (ent x.pkt) ≠ none → u.sw.inbox = s.sw.inbox)
        ∧ (o ≤ 2 → s.conf x.pkt.h.slice.toNat = false → x.pkt.opc ≠ opTIMESYNC →
          u.sw.replay = s.sw.replay ++ [{ port := portCode n o, lseq := (s.link (portCode n o)).next, pkt := q }]))
    ∧ exec .heldCellExpiry s = .next (s.after { s with tp := { s.tp with held := s.tp.held.filter (fun h => !s.aged h.2 false) } })

/-! ### Packets delivered -/

/-- Each row of a delivered packet takes the oldest of its kind from a running partition, a packet held for earlier ORDERED
accesses of its queue (R146) or for other suspect commands (R498) aside, and its operation acts on the state without that packet. A delivered packet is taken once: those
that wait are those before, in order, without it. A sync operation is taken in its turn at its object (R167, R172). -/
def Obligations.DeliveredPacketsAreTaken : Prop :=
  (∀ x ∈ ([(.putCellRx, fun p => decide (p.opc = opPUT ∨ p.opc = opPUTI) && !p.isFrame, State.rxPutCell),
        (.putFrameRx, fun p => decide (p.opc = opPUT ∨ p.opc = opPUTI) && p.isFrame, State.rxPutFrame),
        (.getRx, pktOpc opGET, fun s e => s.rxRead e false), (.copyRx, pktOpc opCOPY, fun s e => s.rxRead e true),
        (.atomicRx, pktOpc opATOMIC, State.rxAtomic), (.probeRx, pktOpc opPROBE, State.rxProbe),
        (.getDataRx, pktOpc opGETDATA, State.rxGetData), (.ackRx, pktOpc opACK, fun s e => s.rxAck e.pkt),
        (.failRx, pktOpc opFAIL, fun s e => s.rxFail e.pkt), (.copyRptRx, pktOpc opCOPYRPT, fun s e => s.rxCopyRpt e.pkt),
        (.rdAnsRx, pktOpc opRDANS, State.rdAns),
        (.wrAnsRx, pktOpc opWRANS, fun s e => s.answer e .wr e.pkt.ansCode (fun _ => [])),
        (.atAnsRx, pktOpc opATANS, fun s e => s.answer e .at' e.pkt.ansCode (fun r => Machine.slice e.pkt.pay 8 r.len)),
        (.galAbortRx, pktOpc opGALABORT, State.rxAbort), (.epochCtlPrepare, epochIs epPREPARE, State.swPrepare),
        (.epochCtlSwitch, epochIs epSWITCH, State.swSwitch), (.epochCtlPoll, epochIs epPOLL, State.swPoll),
        (.epochCtlRetire, epochIs epRETIRE, State.swRetire)] : List (Instr × (Pkt → Bool) × (State → InEnt → State))),
      ∀ (s : State) (e : InEnt), s.isLive = true → s.oldestRx x.2.1 = some e →
        exec x.1 s = .next (s.after (x.2.2 (s.rxTaken x.2.1) e)))
  ∧ (∀ (s : State) (p : Pkt → Bool) (e : InEnt), s.oldestRx p = some e →
      ∃ a b, s.sw.inbox = a ++ e :: b ∧ (s.rxTaken p).sw.inbox = a ++ b
        ∧ (∀ x ∈ a, s.mayTake p x = false) ∧ s.mayTake p e = true)
  ∧ (∀ x ∈ ([(.syncAddRx, opSYNCADD, State.syncOpTake), (.syncSetRx, opSYNCSET, State.syncOpTake),
        (.syncWaitRx, opSYNCWAIT, State.syncWaitTake)] : List (Instr × Nat × (State → Nat → Pkt → State))),
      ∀ (s : State) (e : InEnt), s.isLive = true → s.sw.inbox.find? (s.syncTurn x.2.1) = some e →
        exec x.1 s = .next (s.after (x.2.2 { s with sw := { s.sw with inbox := dropFirst (s.syncTurn x.2.1) s.sw.inbox } } e.part e.pkt)))

/-- R171: a wait whose condition does not hold and that finds none of the 65,536 slots free is answered with TARGET_TIMEOUT at
once and counts one in EXHAUST. With a slot free and its deadline not past, it is registered and nothing is answered (R169). A SYNC_ADD or SYNC_SET of a
slice that owns the object gives it its new value, wrapping at 2^64, and no other register but DX_SYNC_STAT changes (R166);
another slice is answered SLICE_DENIED (R165). -/
def Obligations.SyncObjects : Prop :=
  (∀ (s : State) (n : Nat) (p : Pkt),
      let i := (Desc.ofNat p.desc).sync
      let b (o k : Nat) : Nat := bytesNat (slice p.pay o k)
      s.syncOwned i p.h.slice.toNat = true → waitHolds (b 20 1 % 8) (s.syncVal i) (b 24 8) = false →
      (65536 ≤ s.tp.waits.length → s.syncWaitTake n p = (s.count .syncStat syncStat_EXHAUST 1).ackReq n p stTGTTO p.h.dst.toNat)
      ∧ (s.tp.waits.length < 65536 → s.fnow ≤ b 32 8 → (s.syncWaitTake n p).sw = s.sw
        ∧ ∃ w, (s.syncWaitTake n p).tp.waits = s.tp.waits ++ [w] ∧ w.sync = i ∧ w.target = b 24 8 ∧ w.deadline = b 32 8
          ∧ (s.syncWaitTake n p).fld .syncStat syncStat_WAITS = s.tp.waits.length + 1))
  ∧ (∀ (s : State) (n : Nat) (p : Pkt),
      let i := (Desc.ofNat p.desc).sync
      let v := bytesNat (slice p.pay 24 8)
      (s.syncOwned i p.h.slice.toNat = false → s.syncOpTake n p = s.ackReq n p stSLICE p.h.dst.toNat)
      ∧ (s.syncOwned i p.h.slice.toNat = true →
        (s.syncOpTake n p).syncVal i = (if p.opc = opSYNCADD then s.syncVal i + v else v) % 2 ^ 64
        ∧ (s.syncOpTake n p).st = s.st
        ∧ (∀ r : Reg, r.addr ≠ (Reg.syncVal i).addr → r.addr ≠ Reg.syncStat.addr → (s.syncOpTake n p).reg r = s.reg r)))

/-- The timers of the transport: a wait past its deadline leaves its slot (R169), a SYNC_WAIT ends 1 µs after it (R170), a
probe is answered (R151), a frame goes again (R117), a command ends at TTO (R122, R124), an acknowledgement goes (R116), and
old receive records are dropped (R118). -/
def Obligations.TransportTimers : Prop :=
  ∀ (s : State) (w : Wait) (t : Txn) (x : Snd) (u : SUnit) (r : RRec), s.isLive = true →
    (s.tp.waits.find? (fun w => decide (w.deadline < s.fnow)) = some w → exec .syncWaitDeadline s
      = .next (s.after ((s.waitsRefresh (dropFirst (fun x => decide (x = w)) s.tp.waits)).answerWait w stTGTTO w.dst.toNat)))
    ∧ (s.findTxn t.id = some t → t.fstat = none →
      (t.cmd.opc = opSYNCWAIT → t.accFt + us t.cmd.wto + us 1 ≤ s.fnow → exec (.syncWaitIssuerTimeout t.id) s
        = .next (s.after (s.endTxn t.id stTRANSTO (resEp t.cmd.dst 0))))
      ∧ (t.cmd.opc ∉ [opSYNCWAIT, opFENCE, opGALC, opCOMB, opKVR] → s.tp.snds = [] → t.acc + t.tto ≤ s.now →
        exec (.transportTimeout t.id) s = .next (s.after (s.endTxn t.id stTRANSTO (resEp t.cmd.dst t.perf)))))
    ∧ (let ok (e : InEnt) : Bool := s.performed e.pkt.h.src.toNat (Desc.ofNat e.pkt.desc).qid
      ∀ e, s.tp.probes.find? ok = some e → exec .probeAnswer s
        = .next (s.after (State.answerProbe { s with tp := { s.tp with probes := dropFirst ok s.tp.probes } } e)))
    ∧ (s.findSnd x.id = some x → x.frames = true → s.now < x.start + x.tto → x.units.find? (fun y => decide (y.idx = u.idx)) = some u →
      u.st = 1 → u.at' + s.rtiNow ≤ s.now →
      let q : Pkt := { u.pkt with h := { u.pkt.h with ep := BitVec.ofNat 1 s.active } }
      let q1 : Pkt := { q with e2e := q.e2eOf }
      exec (.retransmitTimer x.id u.idx) s = .next (s.after ((s.updSnd x.id (fun y => { y with units := y.units.map (fun v =>
        if v.idx = u.idx then { v with pkt := q1, at' := s.now, fail := false } else v) })).send x.part q1)))
    ∧ (s.tp.rrecs.find? (fun r => r.ackDue.isSome) = some r → exec .ackDelayTimer s = .next (s.after (s.ackRec r)))
    ∧ exec .receiveRecordExpiry s = .next (s.after { s with tp := { s.tp with
        rrecs := s.tp.rrecs.filter (fun r => !decide (r.first + (s.ttoNow + ms 2) ≤ s.now)) } })

/-- R134 and R130: an edge request unanswered 4 µs after it was sent ends with TARGET_TIMEOUT, its tag rests, and is free
again 8 µs later. -/
def Obligations.EdgeTags : Prop :=
  ∀ (s : State) (c e : Nat) (r : EReq) (t : Nat), c < 12 → e < 256 → s.isLive = true →
    (s.mv.ereq.find? (EReq.tagged c e) = some r → r.sent = some t → t + us 4 ≤ s.now →
      exec (.edgeRequestTimeout c e) s = .next (s.after (s.ereqEnd r e [] (some stTGTTO)))
      ∧ (s.ereqEnd r e [] (some stTGTTO)).etagBusy c e = true)
    ∧ exec (.etagReuseTimer c e) s = .next (s.after { s with mv := { s.mv with
        cool := s.mv.cool.filter (fun x => !(decide (x.1 = c ∧ x.2.1 = e) && decide (x.2.2 + us 8 ≤ s.now))) } })

/-! ### Galleries -/

/-- Each row of gallery frames takes the oldest frame of its opcode whose turn has come. Where its end-to-end CRC is right and its
gallery is set up here with its slice, a frame of the current step starts the step and is folded where a REDUCE entry names its port
and chunk, COMBINE_CONTRIB with its weight (R198, R205, R222), and is kept for the entries that send it on where none does; one of the
next step that a REDUCE names is folded into the other set of accumulators, and the step does not start (R198). One whose
gallery is not set up here, or of any other step, counts in STALE (R198). A frame of the current step that fails the end-to-end check aborts it with FRAME_CHECK (R200, R263). -/
def Obligations.GalleryFrames : Prop :=
  ∀ x ∈ [(Instr.galUpRx none, opGALUP), (.galDownRx none, opGALDOWN), (.galleryContribFrameRx none, opGALC),
      (.combineContribFrameRx none, opCOMB), (.kvRotateFrameRx, opKVR)],
    ∀ (s : State) (e : InEnt), s.isLive = true → s.sw.inbox.find? (s.galTurn x.2) = some e →
      let u : State := { s with sw := { s.sw with inbox := dropFirst (s.galTurn x.2) s.sw.inbox } }
      let p := e.pkt
      let g := p.galOf
      let f := p.gfrm e.port
      let named := s.reduceNames (s.gdef g) f.port f.x.chunk
      let v := u.galStart g
      (p.e2e = p.e2eOf → s.galHere p = true → f.x.sgen = s.gsgen g → s.galBlocked (s.gdef g) = none →
        (named = true → (f.pay = [] ∨ (v.accOf g (s.gsgen g % 2) f.x.chunk).bad = none) →
          exec x.1 s = .next (s.after (v.galFold g (s.gsgen g % 2) f.port f.x p.foldWeight f.pay)))
        ∧ (named = false → exec x.1 s = .next (s.after (v.updGal g (fun y => { y with frames := y.frames ++ [f] })))))
      ∧ (p.e2e = p.e2eOf → s.galHere p = true → f.x.sgen = s.gnext g → (s.gal g).skip ≠ some f.x.sgen → named = true →
        (f.pay = [] ∨ (s.accOf g (s.gnext g % 2) f.x.chunk).bad = none) →
        exec x.1 s = .next (s.after (u.galFold g (s.gnext g % 2) f.port f.x p.foldWeight f.pay)))
      ∧ (p.e2e = p.e2eOf → (s.galHere p = false ∨ (f.x.sgen ≠ s.gsgen g ∧ f.x.sgen ≠ s.gnext g)) →
        exec x.1 s = .next (s.after (u.count (.galStat g) galStat_STALE 1)))
      ∧ (p.e2e ≠ p.e2eOf → s.gstate g ≠ gsIDLE → f.x.sgen = s.gsgen g →
        exec x.1 s = .next (s.after (u.galAbort g grCHECK e.port 99)))

/-- An action that may act has its effect (R187, R190, R196, R205, R206): a WAIT that is met, a NOP and an armed REDUCE finish,
ADVANCE ends the step, and the others act on their entry; DISPATCH acts again for frames that come later. An emission that meets a
failing accumulation tile is one event of code 0x11 against the core that last wrote it, and aborts the step with FRAME_CHECK (R224).
An action is finished once, and nothing else changes with it. -/
def Obligations.Actions : Prop :=
  (∀ (s : State) (g e j : Nat), g < 4096 → e < 16384 → j < 16777216 → s.isLive = true →
      let d := s.gdef g
      let y := s.gentry d e
      (s.actReady g e 0 actNOP = true → exec (.actionNop g e) s = .next (s.after (s.galFin g e 0)))
      ∧ (s.actReady g e j actREDUCE = true → s.acctReady g j d = true → exec (.actionReduce g e j) s = .next (s.after (s.galFin g e j)))
      ∧ (s.actReady g e j actWAIT = true → s.waitMet g j (nfld y.w1 0 24) = true →
        exec (.actionWait g e j) s = .next (s.after (s.galFin g e j)))
      ∧ (s.actReady g e 0 actADVANCE = true → exec (.actionAdvance g e) s = .next (s.after (s.galAdvance g)))
      ∧ (s.actReady g e 0 actSYNCADD = true → exec (.actionSyncadd g e) s = .next (s.after
        ((if (s.gal g).failed then s else (s.cntAdd (nfld y.w1 0 16) d.slice (nfld y.w1 16 32)).2).galFin g e 0)))
      ∧ (∀ x ∈ [(Instr.actionForward g e j, actFORWARD, s.forward g e j y), (.actionDsread g e j, actDSREAD, s.dsread g e j d y)],
        s.actReady g e j x.2.1 = true → exec x.1 s = .next (s.after x.2.2))
      ∧ (s.mayAct g e j actDISPATCH = true → exec (.actionDispatch g e j) s = .next (s.after (s.dispatch g e j y)))
      ∧ (∀ x ∈ [(Instr.actionSendup g e j none, actSENDUP, d.wideUp, s.sendup g e j d),
          (.actionMcast g e j none, actMCAST, false, s.mcast g e j y), (.actionDswrite g e j none, actDSWRITE, false, s.dswrite g e j d y)],
        s.actReady g e j x.2.1 = true →
        (s.emitBad g j x.2.2.1 = none → exec x.1 s = .next (s.after x.2.2.2))
        ∧ (∀ k, s.emitBad g j x.2.2.1 = some k →
          exec x.1 s = .next (s.after ((s.event (d.home j) 0x11 ⟨syCORE, k⟩).galAbort g grCHECK 31 99))))
      ∧ (∀ w : AccUpset, w.wf = true → w.g = g → w.chunk = j → w.next = false → d.v = true →
        ∀ x ∈ [(Instr.actionSendup g e j (some w), actSENDUP, d.wideUp), (.actionMcast g e j (some w), actMCAST, false),
          (.actionDswrite g e j (some w), actDSWRITE, false)],
        s.actReady g e j x.2.1 = true → (∀ m ∈ (s.gal g).emits, m.chunk ≠ j ∨ m.wide ≠ x.2.2) →
        exec x.1 s = .next (s.after (((s.accStrike w).event (d.home j) 0x11 ⟨syCORE, w.core⟩).galAbort g grCHECK 31 99)))
      ∧ (∀ t, s.gstate g ≠ gsIDLE → (s.gal g).timer = some t → t + d.timeout ≤ s.now →
        exec (.stepTimeout g) s = .next (s.after (s.galAbort g grTIMEOUT 31 99))))
  ∧ (∀ (s : State) (g e j : Nat), g < 4096 → ((s.galFin g e j).gal g).fin = (if (e, j) ∈ (s.gal g).fin then (s.gal g).fin
        else (s.gal g).fin ++ [(e, j)]) ∧ (s.galFin g e j).st = s.st ∧ (s.galFin g e j).sw = s.sw
      ∧ (∀ h, h ≠ g → (s.galFin g e j).gal h = s.gal h))

/-! ### Epochs and congestion -/

/-- PREPARE, SWITCH, POLL and RETIRE at a node move DX_ROUTE_CTL as R366 says; a request of another coordinating node is refused
and moves nothing. The coordinating node takes replies, sends a request once more after 100 µs and then fails the swap, and
ends it at the drain limit (R367, R368). -/
def Obligations.EpochSwap : Prop :=
  (∀ (s : State) (e : InEnt),
      let p := e.pkt
      let target := bytesNat (slice p.pay 1 1)
      let co := bytesNat (slice p.pay 10 2) % 4096
      (s.fld .routeCtl routeCtl_EN = 1 → s.fld .routeCtl routeCtl_LOADED = 1 → s.active ≠ target → target < 2 →
        s.fld .routeCtl routeCtl_OLDLIVE = 0 → s.swPhase = 0 →
        let t := s.swPrepare e
        t.swPhase = 1 ∧ t.fld .routeCtl routeCtl_COORD = co ∧ t.active = s.active)
      ∧ (s.swPhase = 1 → s.swMine p = true → target < 2 →
        let t := s.swSwitch e
        t.swPhase = 2 ∧ t.active = target ∧ t.fld .routeCtl routeCtl_OLDLIVE = 1)
      ∧ (s.swPhase = 2 → s.swMine p = true →
        (s.swPoll e).fld .epochCnt epochCnt_SEEN = 0 ∧ (s.swPoll e).reg .routeCtl = s.reg .routeCtl
        ∧ (let t := s.swRetire e
          t.swPhase = 0 ∧ t.fld .routeCtl routeCtl_OLDLIVE = 0 ∧ t.fld .routeCtl routeCtl_LOADED = 0 ∧ t.active = s.active))
      ∧ (s.swMine p = false → s.swPhase ≠ 0 →
        s.swPrepare e = s.epochReply p 2 0 0 ∧ s.swSwitch e = s.epochReply p 1 0 0 ∧ s.swPoll e = s.epochReply p 1 0 0
          ∧ s.swRetire e = s.epochReply p 1 0 0))
  ∧ (∀ (s : State) (w : Swap) (r : EpReq) (e : InEnt), s.isLive = true → s.mg.swap = some w →
      let other (p : Pkt) : Bool :=
        decide (p.opc = opEPOCHCTL) && !decide (bytesNat (slice p.pay 0 1) ∈ [epPREPARE, epSWITCH, epPOLL, epRETIRE])
      (s.oldestRx other = some e → exec .epochCtlReplyRx s = .next (s.after ((s.rxTaken other).swapReply e.pkt)))
      ∧ (w.reqs.find? (fun x => x.node = r.node) = some r → r.sentAt + us 100 ≤ s.now → r.node < 4096 →
        (r.again = true → exec (.epochCtlTimeout r.node) s = .next (s.after (s.swapEnd 4 r.node stTGTTO (16 * r.node + 14))))
        ∧ (r.again = false →
          let w1 : Swap := { w with
            reqs := updFirst (fun x => x.node = r.node) (fun x => { x with sentAt := s.now, again := true }) w.reqs }
          exec (.epochCtlTimeout r.node) s = .next (s.after ((s.setSwap (some w1)).epochSend w1 r.node))))
      ∧ (w.phase = epPOLL → w.switchAt + w.drain ≤ s.now →
        let node := ((w.worst ++ w.curW).getD (s.draw.1 % (w.worst ++ w.curW).length) s.draw.1) % 4096
        exec .swapDrainLimit s = .next (s.after (s.draw.2.swapEnd 5 node stTRANSTO (16 * node + 14)))))

/-- R384 and R386: an entry's rate rises by AI every TI, and one at RMAX is freed; the oldest packet held for it goes on once
the bucket holds its length; the gate opens below TLO (R393). -/
def Obligations.CongestionRows : Prop :=
  ∀ (s : State) (sl dst n : Nat) (e : Rate) (x : Inj), sl < 64 → dst < 65536 → n < 6 → s.isLive = true →
    (s.native = true → s.rateOf sl dst = some e → e.chg + s.ccTI ≤ s.fnow →
      let r := min s.ccRMAX (s.clampR e.r + s.ccAI)
      exec (.rateIncrease sl dst) s = .next (s.after
        (if r = s.ccRMAX then (s.noteRise e).setRates (dropFirst (fun y => decide (y.slice = sl ∧ y.dst = dst)) s.tp.rate)
        else (s.noteRise e).updRate sl dst (fun y => { y with r, chg := s.fnow, bucket := y.level s.fnow, fillAt := s.fnow }))))
    ∧ (let mine (y : Inj) : Bool := y.shaped && decide (y.pkt.h.slice.toNat = sl ∧ y.pkt.h.dst.toNat = dst)
      s.rateOf sl dst = some e → s.sw.inj.find? mine = some x → 1024 * x.pkt.size ≤ e.level s.fnow →
      let u := s.updRate sl dst (fun y => { y with bucket := y.level s.fnow - 1024 * x.pkt.size, fillAt := s.fnow })
      exec (.shaperRelease sl dst) s = .next (s.after
        { u with sw := { u.sw with inj := updFirst mine (fun y => { y with shaped := false }) u.sw.inj } }))
    ∧ ((s.part n).gate = true → s.throttle = true →
      sumBy (fun q => s.qDepth n 0 q) [0, 1, 8, 9] < s.fld (.throt n) throt_TLO → s.fld (.throt n) throt_TLO < s.fld (.throt n) throt_THI →
      exec (.gateRelease n) s = .next (s.after (s.setPart n (fun p => { p with gate := false }))))

/-! ### Faults, the interpreter and dumps -/

/-- R467, R468, R469, R475 and R476: a deadline that passes, and with which no FAULT_ACK falls due, counts in FWMISS, and clears
a corrected or contained class and raises the next, or leaves a fatal one pending with its deadline ATO later; a quiet unit
returns to NORMAL and counts in RECOV; an engine stalled, its progress counter having stood still for PTO, is one event of code 0x38 from it. -/
def Obligations.FaultDeadlines : Prop :=
  ∀ (s : State) (u k n : Nat) (p : FPend) (e : Engine), u < 7 → 1 ≤ k → k ≤ 3 → n < 6 → s.isLive = true →
    ((s.funit u).pend.find? (fun x => x.1 = k) = some (k, p) → s.isPending u k = true → p.deadline ≤ s.fnow →
      (p.deadline = s.fnow → s.ackWaits u p.seq = false) →
      let m := s.count (.fltStat u) fltStat_FWMISS 1
      (k ≠ clsFATAL → exec (.faultAckDeadline u k) s = .next (s.after
        (((m.setFld (.fltStat u) (pendPos k) 0).setFunit u (fun f => { f with pend := f.pend.filter (fun y => y.1 ≠ k) })).raise
          u (k + 1) p.src p.code csTIMER p.count p.slice (decide (u < 6) && decide (s.pstate u = ptOOS)))))
      ∧ (k = clsFATAL → exec (.faultAckDeadline u k) s = .next (s.after (m.setFunit u (fun f => { f with
          pend := updFirst (fun y => y.1 = clsFATAL)
            (fun y => (y.1, { y.2 with deadline := p.deadline + us (s.fld .fltCtl fltCtl_ATO) })) f.pend })))))
    ∧ (s.fld (.fltStat u) fltStat_STATE ≠ 0 → (∀ c ∈ [clsCORR, clsCONT, clsFATAL], s.isPending u c = false) →
      (s.funit u).lastAt + ms (s.fld .fltCtl fltCtl_QUIET) ≤ s.fnow →
      exec (.faultQuiet u) s = .next (s.after ((s.setFld (.fltStat u) fltStat_STATE 0).count (.fltStat u) fltStat_RECOV 1)))
    ∧ (e.wf = true → s.runs n = true → s.srcFenced n (Machine.Engine.src e) = false →
      (s.progOf n (Machine.Engine.src e).st (Machine.Engine.src e).idx).at' + us (s.fld .hangCfg hangCfg_PTO) ≤ s.now →
      exec (.engineStall n e) s = .next (s.after ((s.setPart n (fun q => { q with stalled := some ((Machine.Engine.src e).st, (Machine.Engine.src e).idx) })).event
          n 0x38 (Machine.Engine.src e))))

/-- The heartbeat counts and ends a hold (R477, R548); a period without one counts in MISS, and the third is one event of code
0x39 (R477); the interpreter is then restarted by the controller, at once where the window was off at that moment, else ATO later
(R480). -/
def Obligations.Heartbeats : Prop :=
  ∀ s : State, s.isLive = true →
    (s.mg.interp = .running → s.mg.att = none → exec .heartbeat s = .next (s.after
      (let u := s.setFld .hb hb_COUNT (s.fld .hb hb_COUNT + 1)
       { u with mg := { u.mg with interp := .running, lastHb := s.now } })))
    ∧ (s.mg.hbAt + us 100 ≤ s.now →
      (s.mg.hbAt < s.mg.lastHb → exec .heartbeatCheck s = .next (s.after
        (State.setFld { s with mg := { s.mg with hbAt := s.mg.hbAt + us 100, missAt := none } } .hb hb_MISS 0)))
      ∧ (s.mg.lastHb ≤ s.mg.hbAt → s.fld .hb hb_MISS ≠ 2 → exec .heartbeatCheck s = .next (s.after
        (State.setFld { s with mg := { s.mg with hbAt := s.mg.hbAt + us 100 } } .hb hb_MISS (min 3 (s.fld .hb hb_MISS + 1)))))
      ∧ (s.mg.lastHb ≤ s.mg.hbAt → s.fld .hb hb_MISS = 2 → s.mg.interp = .running →
        exec .heartbeatCheck s = .next (s.after (State.blockEvent
          (let u := State.setFld { s with mg := { s.mg with hbAt := s.mg.hbAt + us 100 } } .hb hb_MISS 3
           { u with mg := { u.mg with
              missAt := some (s.now + if s.winEn then us (s.fld .fltCtl fltCtl_ATO) else 0), interp := .hung } }) 0x39 ⟨syUNIT, 4⟩))))
    ∧ (∀ t, s.mg.missAt = some t → t ≤ s.now →
      exec .interpAutoRestart s = .next (s.after ((s.count .interpCtl interpCtl_RESTARTS 1).restart)))

/-- R483: slot i lies at 0x1000_0000 + i × 0x0080_0000; a dump takes the lowest slot that is not valid, or the slot after LAST
with one more in OVW where all are, and sets its VALID bit. A dump goes on unit by unit, skips a fenced one, keeps what a late
unit gave, and ends at 5 ms (R484 to R487). -/
def Obligations.Dumps : Prop :=
  (∀ (s : State) (n : Nat) (c : Option Cmd), let t := s.dumpStart n c
      (s.isLive = true → s.mg.dump = none → ∀ l, s.mg.engDump = (n, c) :: l →
        exec .dumpWaitEnd s = .next (s.after (State.dumpStart { s with mg := { s.mg with engDump := l } } n c)))
      ∧ (∀ i, slotAddr i = 0x10000000 + i * 0x00800000)
      ∧ ∃ d, t.mg.dump = some d ∧ d.part = n ∧ d.slot < 8 ∧ nbit (t.fld .dumpStat dumpStat_VALID) d.slot = true
        ∧ (∀ i, i < 8 → i ≠ d.slot → nbit (t.fld .dumpStat dumpStat_VALID) i = nbit (s.fld .dumpStat dumpStat_VALID) i)
        ∧ (nbit (s.fld .dumpStat dumpStat_VALID) d.slot = false → (∀ i, i < d.slot → nbit (s.fld .dumpStat dumpStat_VALID) i = true)
          ∧ t.fld .dumpStat dumpStat_OVW = s.fld .dumpStat dumpStat_OVW)
        ∧ (nbit (s.fld .dumpStat dumpStat_VALID) d.slot = true → s.fld .dumpStat dumpStat_VALID = 255
          ∧ d.slot = (s.fld .dumpStat dumpStat_LAST + 1) % 8
          ∧ t.fld .dumpStat dumpStat_OVW = min 255 (s.fld .dumpStat dumpStat_OVW + 1)))
  ∧ (∀ (s : State) (d : Dump) (a b w : Nat) (l : List (Nat × Nat)), s.isLive = true → s.mg.dump = some d → d.ending = none →
      (d.start + ms 5 ≤ s.now → exec .dumpTimeLimit s = .next (s.after (s.dumpClose 3)))
      ∧ (d.units = (a, b) :: l →
        (s.unitOff d.part a b = true → exec .dumpUnitRead s = .next (s.after ((s.dumpAdd d a b 2 0 []).dumpAfter)))
        ∧ (s.unitOff d.part a b = false →
          let data := s.unitData d.part a b
          exec .dumpUnitRead s = .next (s.after (((s.noteSuspects d a b data.length).dumpAdd d a b 0 0 data).dumpAfter))
          ∧ (d.askAt + us 2 ≤ s.now → 8 * w < data.length → w < 1048576 → exec (.dumpReadTimeout w) s
            = .next (s.after (((s.noteSuspects d a b (w / 2 - 2)).dumpAdd d a b 1 w (data.take (8 * w))).dumpAfter))))))

/-! ### Frames -/

/-- In a state where nothing waits, the rows of the sensors and of the pace governor that raise no event change only the
registers and records of the pace unit, and PEND: no memory, no command, no link, no packet, no gallery, no key. -/
def Obligations.PaceRowsFrame : Prop :=
  ∀ (c : Instr), (match c with
      | .droopTrip _ | .droopClear _ | .droopHoldExpiry _ | .droopDescentStep _ | .thermalReading _ _ | .thermalDemandStep _
      | .powerEstimate _ | .powerDemandLower => true
      | _ => false) = true →
    ∀ s t : State, s.quiet = true → exec c s = .next t →
      t.st = s.st ∧ t.tp = s.tp ∧ t.mv = s.mv ∧ t.sw = s.sw ∧ t.gals = s.gals ∧ t.sec = s.sec ∧ t.links = s.links ∧ t.lanes = s.lanes
      ∧ t.mg = s.mg ∧ t.funits = s.funits ∧ t.sdb = s.sdb ∧ t.out = s.out ∧ t.evq = []
      ∧ (∀ r : Reg, (match r with
          | .paceStat _ | .pwrStat | .therm _ | .mqHead => true
          | _ => false) = false → t.reg r = s.reg r)

/-- In a state where nothing waits, the rows of control blocks and link timers that lose and replay nothing change only
their own link and its port's status: no memory, no command, no gallery, no key, and no other link. A START in announced idle judges
the lanes, and may retrain the port (R299): ControlBlocks says what it does. -/
def Obligations.LinkRowsFrame : Prop :=
  ∀ (c : Instr) (k : Nat), (match c with
      | .startReceive p _ | .creditReceive p _ _ | .ackBlockReceive p _ | .creditRefresh p | .controlBlockForced p
      | .announcedIdleEntry p | .fastExit p => some p
      | _ => none) = some k →
    ∀ s t : State, s.quiet = true → (∀ n, c = .startReceive k n → s.fld (statReg k) portStat_RXIDLE = 0) → exec c s = .next t →
      t.st = s.st ∧ t.tp = s.tp ∧ t.mv = s.mv ∧ t.gals = s.gals ∧ t.sec = s.sec ∧ t.mg = s.mg ∧ t.lanes = s.lanes ∧ t.evq = []
      ∧ t.sw.copies = s.sw.copies ∧ t.sw.rx = s.sw.rx ∧ t.sw.inbox = s.sw.inbox
      ∧ (∀ x, x ≠ k → t.link x = s.link x)
      ∧ (∀ r : Reg, r.addr ≠ (statReg k).addr → r.addr ≠ Reg.mqHead.addr → t.reg r = s.reg r)

end
end

