-- ==== Sys2Proof/Laws/Sparse.lean ====
section
/-! SUPPORT. Sparse tables: what a write leaves at each key, and that it keeps the canonical form. -/

namespace Sys2Proof.Machine

variable {α : Type}

theorem sget_serase_same (d : α) (l : List (Nat × α)) (k : Nat) : sget d (serase l k) k = d := by
  induction l with
  | nil => rfl
  | cons x t ih =>
    by_cases h : x.1 = k
    · simpa [serase, h] using ih
    · have : serase (x :: t) k = x :: serase t k := by simp [serase, h]
      rw [this]; obtain ⟨a, b⟩ := x; simp only [sget, if_neg h]; exact ih

theorem sget_serase_ne (d : α) (l : List (Nat × α)) {k j : Nat} (h : j ≠ k) : sget d (serase l k) j = sget d l j := by
  induction l with
  | nil => rfl
  | cons x t ih =>
    obtain ⟨a, b⟩ := x
    by_cases hk : a = k
    · have : serase ((a, b) :: t) k = serase t k := by simp [serase, hk]
      rw [this, ih]; subst hk; simp [sget, Ne.symm h]
    · have : serase ((a, b) :: t) k = (a, b) :: serase t k := by simp [serase, hk]
      rw [this]; simp only [sget]; rw [ih]

theorem sget_sinsert_same (d v : α) (l : List (Nat × α)) (k : Nat) (h : ∀ e ∈ l, e.1 ≠ k) : sget d (sinsert k v l) k = v := by
  induction l with
  | nil => simp [sinsert, sget]
  | cons x t ih =>
    obtain ⟨a, b⟩ := x
    have ha : a ≠ k := h (a, b) (by simp)
    simp only [sinsert]
    split
    · simp [sget]
    · simp only [sget, if_neg ha]; exact ih (fun e he => h e (by simp [he]))

theorem sget_sinsert_ne (d v : α) (l : List (Nat × α)) {k j : Nat} (h : j ≠ k) : sget d (sinsert k v l) j = sget d l j := by
  induction l with
  | nil => simp [sinsert, sget, Ne.symm h]
  | cons x t ih =>
    obtain ⟨a, b⟩ := x
    simp only [sinsert]
    split
    · simp [sget, Ne.symm h]
    · simp only [sget]; rw [ih]

/-- A key just written reads as what was written. -/
theorem sget_sput_same [DecidableEq α] (d : α) (l : List (Nat × α)) (k : Nat) (v : α) : sget d (sput d l k v) k = v := by
  unfold sput
  split
  · next h => rw [sget_serase_same, h]
  · exact sget_sinsert_same _ _ _ _ (by intro e he; simp [serase] at he; exact he.2)

/-- Every other key reads as before. -/
theorem sget_sput_ne [DecidableEq α] (d d' : α) (l : List (Nat × α)) {k j : Nat} (v : α) (h : j ≠ k) :
    sget d' (sput d l k v) j = sget d' l j := by
  unfold sput
  split
  · exact sget_serase_ne _ _ h
  · rw [sget_sinsert_ne _ _ _ h, sget_serase_ne _ _ h]

/-- Rising keys, as a relation over the list. -/
theorem srising_iff (l : List (Nat × α)) : srising l = true ↔ l.Pairwise (fun a b => a.1 < b.1) := by
  induction l with
  | nil => simp [srising]
  | cons x t ih =>
    cases t with
    | nil => simp [srising]
    | cons y u =>
      obtain ⟨a, b⟩ := x
      obtain ⟨c, e⟩ := y
      simp only [srising, Bool.and_eq_true, decide_eq_true_eq, ih]
      constructor
      · rintro ⟨h1, h2⟩
        refine List.pairwise_cons.2 ⟨fun z hz => ?_, h2⟩
        rcases List.mem_cons.1 hz with rfl | hz
        · exact h1
        · exact lt_trans h1 ((List.pairwise_cons.1 h2).1 z hz)
      · intro h
        exact ⟨(List.pairwise_cons.1 h).1 (c, e) (by simp), (List.pairwise_cons.1 h).2⟩

theorem mem_sinsert (k : Nat) (v : α) (l : List (Nat × α)) (e : Nat × α) : e ∈ sinsert k v l ↔ e = (k, v) ∨ e ∈ l := by
  induction l with
  | nil => simp [sinsert]
  | cons x t ih =>
    obtain ⟨a, b⟩ := x
    simp only [sinsert]
    split
    · simp
    · simp only [List.mem_cons, ih]; tauto

theorem srising_sinsert (k : Nat) (v : α) (l : List (Nat × α)) (hl : srising l = true) (h : ∀ e ∈ l, e.1 ≠ k) :
    srising (sinsert k v l) = true := by
  rw [srising_iff] at hl ⊢
  induction l with
  | nil => simp [sinsert]
  | cons x t ih =>
    obtain ⟨a, b⟩ := x
    have hp := List.pairwise_cons.1 hl
    have ha : a ≠ k := h (a, b) (by simp)
    simp only [sinsert]
    split
    · next hk =>
      refine List.pairwise_cons.2 ⟨fun z hz => ?_, hl⟩
      rcases List.mem_cons.1 hz with rfl | hz
      · exact hk
      · exact lt_trans hk (hp.1 z hz)
    · next hk =>
      refine List.pairwise_cons.2 ⟨fun z hz => ?_, ih hp.2 (fun e he => h e (by simp [he]))⟩
      rcases (mem_sinsert k v t z).1 hz with rfl | hz
      · simp only; omega
      · exact hp.1 z hz

theorem srising_filter (l : List (Nat × α)) (p : Nat × α → Bool) (hl : srising l = true) : srising (l.filter p) = true := by
  rw [srising_iff] at hl ⊢; exact hl.filter p

/-- A write keeps the canonical form. -/
theorem swf_sput [DecidableEq α] (d : Nat → α) (l : List (Nat × α)) (k : Nat) (v : α) (h : swf d l = true) :
    swf d (sput (d k) l k v) = true := by
  simp only [swf, Bool.and_eq_true, List.all_eq_true, bne_iff_ne, ne_eq] at h ⊢
  have he : ∀ e ∈ serase l k, e.1 ≠ k ∧ e ∈ l := by intro e he; simp [serase] at he; exact ⟨he.2, he.1⟩
  unfold sput
  split
  · exact ⟨srising_filter _ _ h.1, fun e hm => h.2 e (he e hm).2⟩
  · next hv =>
    refine ⟨srising_sinsert _ _ _ (srising_filter _ _ h.1) (fun e hm => (he e hm).1), fun e hm => ?_⟩
    rcases (mem_sinsert _ _ _ _).1 hm with rfl | hm
    · exact hv
    · exact h.2 e (he e hm).2

/-- Dropping entries keeps it. -/
theorem swf_filter [DecidableEq α] (d : Nat → α) (l : List (Nat × α)) (p : Nat × α → Bool) (h : swf d l = true) :
    swf d (l.filter p) = true := by
  simp only [swf, Bool.and_eq_true, List.all_eq_true] at h ⊢
  exact ⟨srising_filter _ _ h.1, fun e hm => h.2 e (List.mem_filter.1 hm).1⟩

end Sys2Proof.Machine
end

