-- ==== Sys2Proof/Laws/Memory.lean ====
section
/-! SUPPORT. The deep store: what a write leaves at each byte, and that every operation keeps the canonical form. -/

namespace Sys2Proof.Machine

/-- A run of byte writes keeps the form of the byte list. -/
theorem swf_writeFold (a : Nat) (l : List (Byte × Nat)) (b : List (Nat × Byte)) (h : swf (fun _ => (0 : Byte)) b = true) :
    swf (fun _ => (0 : Byte)) (l.foldl (fun b x => sput 0 b (a + x.2) x.1) b) = true := by
  induction l generalizing b with
  | nil => exact h
  | cons x t ih => exact ih _ (swf_sput (fun _ => (0 : Byte)) b (a + x.2) x.1 h)

/-- A run of byte writes leaves every other address alone. -/
theorem sget_writeFold_ne (a k : Nat) (l : List (Byte × Nat)) (b : List (Nat × Byte)) (h : ∀ x ∈ l, k ≠ a + x.2) :
    sget (0 : Byte) (l.foldl (fun b x => sput 0 b (a + x.2) x.1) b) k = sget 0 b k := by
  induction l generalizing b with
  | nil => rfl
  | cons x t ih =>
    simp only [List.foldl_cons]
    rw [ih _ (fun y hy => h y (by simp [hy])), sget_sput_ne _ _ _ _ (h x (by simp))]

@[simp] theorem Store.write_chk (m : Store) (a : Nat) (d : List Byte) : (m.write a d).chk = m.chk := rfl
@[simp] theorem Store.write_clear (m : Store) (a : Nat) (d : List Byte) : (m.write a d).clear = m.clear := rfl
@[simp] theorem Store.write_poison (m : Store) (a : Nat) (d : List Byte) : (m.write a d).poison = m.poison := rfl
@[simp] theorem Store.write_lines (m : Store) (a : Nat) (d : List Byte) : (m.write a d).lines = m.lines := rfl
@[simp] theorem Store.write_reqs (m : Store) (a : Nat) (d : List Byte) : (m.write a d).reqs = m.reqs := rfl
@[simp] theorem Store.setCheck_bytes (m : Store) (t : Nat) (v : BitVec 32) : (m.setCheck t v).bytes = m.bytes := rfl
@[simp] theorem Store.setCheck_clear (m : Store) (t : Nat) (v : BitVec 32) : (m.setCheck t v).clear = m.clear := rfl
@[simp] theorem Store.setCheck_poison (m : Store) (t : Nat) (v : BitVec 32) : (m.setCheck t v).poison = m.poison := rfl

/-- The default check word depends on the clearings alone. -/
theorem Store.chkDefault_congr {m n : Store} (h : m.clear = n.clear) : m.chkDefault = n.chkDefault := by
  funext t; unfold Store.chkDefault; rw [h]

/-- A write outside an address leaves its byte. -/
theorem Store.byte_write_ne (m : Store) (a k : Nat) (d : List Byte) (h : k < a ∨ a + d.length ≤ k) :
    (m.write a d).byte k = m.byte k := by
  refine sget_writeFold_ne a k _ _ (fun x hx => ?_)
  have := List.snd_lt_of_mem_zipIdx hx
  omega

theorem Store.wf_write (m : Store) (a : Nat) (d : List Byte) (h : Memory.wf m = true) : Memory.wf (m.write a d) = true := by
  simp only [Memory.wf, Bool.and_eq_true] at h ⊢
  exact ⟨swf_writeFold a _ _ h.1, by rw [Store.chkDefault_congr (Store.write_clear m a d)]; exact h.2⟩

theorem Store.wf_setCheck (m : Store) (t : Nat) (v : BitVec 32) (h : Memory.wf m = true) :
    Memory.wf (m.setCheck t v) = true := by
  simp only [Memory.wf, Bool.and_eq_true] at h ⊢
  exact ⟨h.1, by rw [Store.chkDefault_congr (Store.setCheck_clear m t v)]; exact swf_sput m.chkDefault m.chk t v h.2⟩

theorem Store.wf_writeTile (m : Store) (t lo : Nat) (d : List Byte) (h : Memory.wf m = true) :
    Memory.wf (m.writeTile t lo d) = true := Store.wf_setCheck _ _ _ (Store.wf_write m _ d h)

theorem Store.wf_writeSys (m : Store) (a : Nat) (d : List Byte) (h : Memory.wf m = true) :
    Memory.wf (m.writeSys a d) = true := Store.wf_writeTile m _ _ d h

/-- Outside the cleared tiles the default check word stands. -/
theorem Store.chkDefault_clearTiles (m : Store) (lo hi t : Nat) (h : ¬ (lo ≤ t ∧ t < hi)) :
    (m.clearTiles lo hi).chkDefault t = m.chkDefault t := by
  have hf : decide (lo ≤ t ∧ t < hi) = false := by simpa using h
  have hc : (m.clearTiles lo hi).clear = m.clear ++ [(lo, hi)] := rfl
  unfold Store.chkDefault
  rw [hc, List.any_append]
  simp only [List.any_cons, List.any_nil, hf, Bool.or_false]

theorem Store.wf_clearTiles (m : Store) (lo hi : Nat) (h : Memory.wf m = true) : Memory.wf (m.clearTiles lo hi) = true := by
  simp only [Memory.wf, Bool.and_eq_true] at h ⊢
  refine ⟨swf_filter _ _ _ h.1, ?_⟩
  have hc := h.2
  simp only [swf, Bool.and_eq_true, List.all_eq_true, bne_iff_ne, ne_eq] at hc ⊢
  refine ⟨srising_filter _ _ hc.1, fun e he => ?_⟩
  have hm := List.mem_filter.1 he
  have hn : ¬ (lo ≤ e.1 ∧ e.1 < hi) := by
    intro hx
    have := hm.2
    simp [hx.1, hx.2] at this
  rw [Store.chkDefault_clearTiles m lo hi e.1 hn]
  exact hc.2 e hm.1

/-- Dropping or adding poison marks keeps the form. -/
theorem Store.wf_poison (m : Store) (p : List Nat) (h : Memory.wf m = true) : Memory.wf { m with poison := p } = true := h
/-- So does a change of the store cache or of the requests. -/
theorem Store.wf_lines (m : Store) (l : List Line) (h : Memory.wf m = true) : Memory.wf { m with lines := l } = true := h
theorem Store.wf_reqs (m : Store) (l : List MReq) (h : Memory.wf m = true) : Memory.wf { m with reqs := l } = true := h

/-- The write of a memory port keeps the form (R405, R407). -/
theorem Store.wf_memWrite (m : Store) (t lo : Nat) (d : List Byte) (h : Memory.wf m = true) :
    Memory.wf (m.memWrite t lo d) = true := by
  unfold Store.memWrite
  split
  · exact Store.wf_writeTile m t lo d h
  · split
    · exact Store.wf_write m _ d h
    · exact Store.wf_writeTile m t lo d h

/-- The deep store of the state after reset has the form. -/
theorem State.reset_memory_wf : Memory.wf State.reset.st = true := rfl

end Sys2Proof.Machine
end

