-- ==== Sys2Proof/Laws/PerInstr.lean ====
section
/-! SUPPORT. Per command: an ill-formed command is the one refused, and a well-formed one has every operand in range. -/

namespace Sys2Proof

namespace Laws

/-- What a command's well-formedness says of each of its operands: each names a unit the block has. -/
def Wf.Operands : Instr → Prop
  | .blockPowerUp => True
  | .blockPowerOff => True
  | .systemAreaInitDone => True
  | .blockResetAssert => True
  | .blockResetComplete => True
  | .partitionResetAssert n => n < 6
  | .partitionResetLineTake n => n < 6
  | .partitionResetRelease n => n < 6
  | .windowEnableChange _ => True
  | .debugWindowAccess _ _ _ => True
  | .keyPortLoad _ => True
  | .keyPortActivate _ => True
  | .keyPortErase _ => True
  | .keyPortConf _ => True
  | .keyPortBind _ => True
  | .keyPortGrant _ => True
  | .keyPortHold _ => True
  | .keyPortRelease _ => True
  | .keyPortWipe _ => True
  | .droopTrip k => k < 24
  | .droopClear k => k < 24
  | .droopHoldExpiry n => n < 6
  | .droopDescentStep n => n < 6
  | .droopStuck k => k < 24
  | .thermalReading m _ => m < 12
  | .thermalStale m => m < 12
  | .thermalDemandStep n => n < 6
  | .thermalCritical m => m < 12
  | .trefLoss => True
  | .trefReturn => True
  | .powerEstimate _ => True
  | .powerDemandLower => True
  | .powerDemandHeld => True
  | .wearTick => True
  | .replicaMeasure n _ => n < 6
  | .sdbGo => True
  | .sdbAnswer _ => True
  | .sdbTimeout => True
  | .memoryReadReturn _ _ => True
  | .memoryWriteAnswer _ => True
  | .memoryPortTimeout _ => True
  | .storeCacheInvalidate _ => True
  | .mirrorUpdate => True
  | .mgmtDoorbell _ => True
  | .mgmtCommandFetch _ => True
  | .mgmtPortTimeout _ => True
  | .mqCfgWrite => True
  | .commandPush => True
  | .pushSlotFreed port => port < 12
  | .spilledContextFetch qid _ => qid < 1048576
  | .queueDrained qid => qid < 1048576
  | .put qid => qid < 1048576
  | .putInline qid => qid < 1048576
  | .get qid => qid < 1048576
  | .copy qid => qid < 1048576
  | .atomicAddI32 qid => qid < 1048576
  | .atomicAddI64 qid => qid < 1048576
  | .atomicAddF32 qid => qid < 1048576
  | .atomicAddBf16x2 qid => qid < 1048576
  | .atomicMinI64 qid => qid < 1048576
  | .atomicMaxI64 qid => qid < 1048576
  | .atomicCas64 qid => qid < 1048576
  | .atomicSwap64 qid => qid < 1048576
  | .syncAdd qid => qid < 1048576
  | .syncSet qid => qid < 1048576
  | .syncWait qid => qid < 1048576
  | .fence qid => qid < 1048576
  | .galleryContrib qid => qid < 1048576
  | .combineContrib qid => qid < 1048576
  | .kvRotate qid => qid < 1048576
  | .regRead => True
  | .regWrite => True
  | .tableWriteQueueContext => True
  | .tableWriteRegion => True
  | .tableWriteSequencer => True
  | .tableWriteRouting => True
  | .epochSwap => True
  | .gallerySetup => True
  | .galleryTeardown => True
  | .sliceCreate => True
  | .sliceTeardown => True
  | .sliceTeardownDrain => True
  | .scrub => True
  | .scanCrc => True
  | .dump => True
  | .fwActivate => True
  | .fwActivateResponse _ => True
  | .fwActivateTimeout => True
  | .faultAck => True
  | .laneTestStop => True
  | .laneTestPrbs31 => True
  | .laneTestPrbs13q => True
  | .laneTestNearLoop => True
  | .laneTestFarLoop => True
  | .attestSpdm => True
  | .attestManifest => True
  | .attestMailboxPoll _ _ => True
  | .attestTimeout => True
  | .mirrorHoldScan => True
  | .mirrorHoldTimeout => True
  | .dxCtlWrite => True
  | .dxNodeWrite => True
  | .dxRouteCtlWrite => True
  | .dxStrictWrite => True
  | .dxRsvWrite => True
  | .dxPortCfgWrite => True
  | .hwfenceClear => True
  | .dxFltFenceWrite => True
  | .dumpSlotRelease => True
  | .dxQuarRelease => True
  | .dxRstCtlReq => True
  | .returnToService => True
  | .restart => True
  | .pstateStill => True
  | .pstateRun => True
  | .pstateDormant => True
  | .dormantDrainEnd n => n < 6
  | .wakeDone n => n < 6
  | .dxFtNowWrite => True
  | .dxFtCfgWrite => True
  | .dxWearWrite => True
  | .dxNoiseWrite => True
  | .dxSyncValWrite => True
  | .dxSyncOwnWrite => True
  | .dxCcCfgWrite => True
  | .dxTelFiltWrite => True
  | .dxCrcChWrite => True
  | .dxSmpRingWrite => True
  | .dxSampleWrite => True
  | .dxPoliceWrite => True
  | .laneBlockLock lane => lane < 192
  | .laneLockLoss lane => lane < 192
  | .markReceive port marks => port < 18 ∧ (marks.all (fun b => decide (b.lane < if port < 12 then 8 else 16))) = true
  | .trainReceive port _ => port < 18
  | .startReceive port _ => port < 18
  | .creditReceive port chan _ => port < 18 ∧ chan < 16
  | .ackBlockReceive port _ => port < 18
  | .nakReceive port _ => port < 18
  | .idleEnterReceive port _ => port < 18
  | .linkPacketReceive port _ _ evts => port < 18 ∧ (evts.all LaneEvt.wf) = true
  | .creditRefresh port => port < 18
  | .controlBlockForced port => port < 18
  | .replayTimeout port => port < 18
  | .mismatchTimer port => port < 18
  | .trainingTimeout port => port < 18
  | .retrainLockWait port => port < 18
  | .linkLoss port _ => port < 18
  | .downTimer port => port < 18
  | .announcedIdleEntry port => port < 18
  | .fastExit port => port < 18
  | .packetAdmit src => src.wf = true
  | .admissionRetry src => src.wf = true
  | .outputSelect n o upset => n < 6 ∧ o < 5 ∧ (upset.all Upset.wf) = true
  | .heldCellExpiry => True
  | .putCellRx => True
  | .putFrameRx => True
  | .getRx => True
  | .copyRx => True
  | .atomicRx => True
  | .syncAddRx => True
  | .syncSetRx => True
  | .syncWaitRx => True
  | .syncWaitDeadline => True
  | .syncWaitIssuerTimeout _ => True
  | .probeRx => True
  | .probeAnswer => True
  | .getDataRx => True
  | .ackRx => True
  | .failRx => True
  | .copyRptRx => True
  | .retransmitTimer _ fidx => fidx < 128
  | .transportTimeout _ => True
  | .ackDelayTimer => True
  | .receiveRecordExpiry => True
  | .rdAnsRx => True
  | .wrAnsRx => True
  | .atAnsRx => True
  | .edgeRequestTimeout port etag => port < 12 ∧ etag < 256
  | .etagReuseTimer port etag => port < 12 ∧ etag < 256
  | .galUpRx upset => (upset.all AccUpset.wf) = true
  | .galDownRx upset => (upset.all AccUpset.wf) = true
  | .galleryContribFrameRx upset => (upset.all AccUpset.wf) = true
  | .combineContribFrameRx upset => (upset.all AccUpset.wf) = true
  | .kvRotateFrameRx => True
  | .galAbortRx => True
  | .actionNop g e => g < 4096 ∧ e < 16384
  | .actionReduce g e j => g < 4096 ∧ e < 16384 ∧ j < 16777216
  | .actionWait g e j => g < 4096 ∧ e < 16384 ∧ j < 16777216
  | .actionSendup g e j upset => g < 4096 ∧ e < 16384 ∧ j < 16777216 ∧ (upset.all AccUpset.wf) = true
  | .actionMcast g e j upset => g < 4096 ∧ e < 16384 ∧ j < 16777216 ∧ (upset.all AccUpset.wf) = true
  | .actionForward g e j => g < 4096 ∧ e < 16384 ∧ j < 16777216
  | .actionDispatch g e j => g < 4096 ∧ e < 16384 ∧ j < 16777216
  | .actionDswrite g e j upset => g < 4096 ∧ e < 16384 ∧ j < 16777216 ∧ (upset.all AccUpset.wf) = true
  | .actionDsread g e j => g < 4096 ∧ e < 16384 ∧ j < 16777216
  | .actionSyncadd g e => g < 4096 ∧ e < 16384
  | .actionAdvance g e => g < 4096 ∧ e < 16384
  | .stepTimeout g => g < 4096
  | .epochCtlPrepare => True
  | .epochCtlSwitch => True
  | .epochCtlPoll => True
  | .epochCtlRetire => True
  | .epochCtlReplyRx => True
  | .epochCtlTimeout node => node < 4096
  | .swapDrainLimit => True
  | .rateIncrease slice dst => slice < 64 ∧ dst < 65536
  | .shaperRelease slice dst => slice < 64 ∧ dst < 65536
  | .gateRelease n => n < 6
  | .timeSyncTimer => True
  | .timeSyncRequestRx => True
  | .timeSyncResponseRx => True
  | .syncHoldoverTimer => True
  | .syncReacquireTimer => True
  | .faultAckDeadline u cls => u < 7 ∧ 1 ≤ cls ∧ cls ≤ 3
  | .faultQuiet u => u < 7
  | .engineStall n e => n < 6 ∧ e.wf = true
  | .heartbeat => True
  | .heartbeatCheck => True
  | .interpAutoRestart => True
  | .dumpUnitRead => True
  | .dumpReadTimeout _ => True
  | .dumpTimeLimit => True
  | .dumpWaitEnd => True
  | .partitionClear n => n < 6
  | .partitionReady n => n < 6
  | .resetWindowExpiry n => n < 6
  | .blockResetRelease => True
  | .mgmtMemoryPortAnswer _ _ => True

/-- A command is well-formed exactly when every operand names a unit of the block. -/
def Wf.Statement (i : Instr) : Prop := Instr.wf i = true ↔ Wf.Operands i

theorem Wf.blockPowerUp : Wf.Statement (.blockPowerUp) := ⟨fun _ => trivial, fun _ => rfl⟩
theorem Wf.blockPowerOff : Wf.Statement (.blockPowerOff) := ⟨fun _ => trivial, fun _ => rfl⟩
theorem Wf.systemAreaInitDone : Wf.Statement (.systemAreaInitDone) := ⟨fun _ => trivial, fun _ => rfl⟩
theorem Wf.blockResetAssert : Wf.Statement (.blockResetAssert) := ⟨fun _ => trivial, fun _ => rfl⟩
theorem Wf.blockResetComplete : Wf.Statement (.blockResetComplete) := ⟨fun _ => trivial, fun _ => rfl⟩
theorem Wf.partitionResetAssert (n : Nat) : Wf.Statement (.partitionResetAssert n) := decide_eq_true_iff
theorem Wf.partitionResetLineTake (n : Nat) : Wf.Statement (.partitionResetLineTake n) := decide_eq_true_iff
theorem Wf.partitionResetRelease (n : Nat) : Wf.Statement (.partitionResetRelease n) := decide_eq_true_iff
theorem Wf.windowEnableChange (on : Bool) : Wf.Statement (.windowEnableChange on) := ⟨fun _ => trivial, fun _ => rfl⟩
theorem Wf.debugWindowAccess (write : Bool) (addr : BitVec 32) (data : Word) : Wf.Statement (.debugWindowAccess write addr data) :=
  ⟨fun _ => trivial, fun _ => rfl⟩
theorem Wf.keyPortLoad (r : KeyRec) : Wf.Statement (.keyPortLoad r) := ⟨fun _ => trivial, fun _ => rfl⟩
theorem Wf.keyPortActivate (r : KeyRec) : Wf.Statement (.keyPortActivate r) := ⟨fun _ => trivial, fun _ => rfl⟩
theorem Wf.keyPortErase (r : KeyRec) : Wf.Statement (.keyPortErase r) := ⟨fun _ => trivial, fun _ => rfl⟩
theorem Wf.keyPortConf (r : KeyRec) : Wf.Statement (.keyPortConf r) := ⟨fun _ => trivial, fun _ => rfl⟩
theorem Wf.keyPortBind (r : KeyRec) : Wf.Statement (.keyPortBind r) := ⟨fun _ => trivial, fun _ => rfl⟩
theorem Wf.keyPortGrant (r : KeyRec) : Wf.Statement (.keyPortGrant r) := ⟨fun _ => trivial, fun _ => rfl⟩
theorem Wf.keyPortHold (r : KeyRec) : Wf.Statement (.keyPortHold r) := ⟨fun _ => trivial, fun _ => rfl⟩
theorem Wf.keyPortRelease (r : KeyRec) : Wf.Statement (.keyPortRelease r) := ⟨fun _ => trivial, fun _ => rfl⟩
theorem Wf.keyPortWipe (r : KeyRec) : Wf.Statement (.keyPortWipe r) := ⟨fun _ => trivial, fun _ => rfl⟩
theorem Wf.droopTrip (k : Nat) : Wf.Statement (.droopTrip k) := decide_eq_true_iff
theorem Wf.droopClear (k : Nat) : Wf.Statement (.droopClear k) := decide_eq_true_iff
theorem Wf.droopHoldExpiry (n : Nat) : Wf.Statement (.droopHoldExpiry n) := decide_eq_true_iff
theorem Wf.droopDescentStep (n : Nat) : Wf.Statement (.droopDescentStep n) := decide_eq_true_iff
theorem Wf.droopStuck (k : Nat) : Wf.Statement (.droopStuck k) := decide_eq_true_iff
theorem Wf.thermalReading (m : Nat) (reading : BitVec 16) : Wf.Statement (.thermalReading m reading) := decide_eq_true_iff
theorem Wf.thermalStale (m : Nat) : Wf.Statement (.thermalStale m) := decide_eq_true_iff
theorem Wf.thermalDemandStep (n : Nat) : Wf.Statement (.thermalDemandStep n) := decide_eq_true_iff
theorem Wf.thermalCritical (m : Nat) : Wf.Statement (.thermalCritical m) := decide_eq_true_iff
theorem Wf.trefLoss : Wf.Statement (.trefLoss) := ⟨fun _ => trivial, fun _ => rfl⟩
theorem Wf.trefReturn : Wf.Statement (.trefReturn) := ⟨fun _ => trivial, fun _ => rfl⟩
theorem Wf.powerEstimate (watts : PowerMeas) : Wf.Statement (.powerEstimate watts) := ⟨fun _ => trivial, fun _ => rfl⟩
theorem Wf.powerDemandLower : Wf.Statement (.powerDemandLower) := ⟨fun _ => trivial, fun _ => rfl⟩
theorem Wf.powerDemandHeld : Wf.Statement (.powerDemandHeld) := ⟨fun _ => trivial, fun _ => rfl⟩
theorem Wf.wearTick : Wf.Statement (.wearTick) := ⟨fun _ => trivial, fun _ => rfl⟩
theorem Wf.replicaMeasure (n : Nat) (ps : BitVec 16) : Wf.Statement (.replicaMeasure n ps) := decide_eq_true_iff
theorem Wf.sdbGo : Wf.Statement (.sdbGo) := ⟨fun _ => trivial, fun _ => rfl⟩
theorem Wf.sdbAnswer (data : BitVec 32) : Wf.Statement (.sdbAnswer data) := ⟨fun _ => trivial, fun _ => rfl⟩
theorem Wf.sdbTimeout : Wf.Statement (.sdbTimeout) := ⟨fun _ => trivial, fun _ => rfl⟩
theorem Wf.memoryReadReturn (id : Nat) (mark : MemMark) : Wf.Statement (.memoryReadReturn id mark) := ⟨fun _ => trivial, fun _ => rfl⟩
theorem Wf.memoryWriteAnswer (id : Nat) : Wf.Statement (.memoryWriteAnswer id) := ⟨fun _ => trivial, fun _ => rfl⟩
theorem Wf.memoryPortTimeout (id : Nat) : Wf.Statement (.memoryPortTimeout id) := ⟨fun _ => trivial, fun _ => rfl⟩
theorem Wf.storeCacheInvalidate (tile : Nat) : Wf.Statement (.storeCacheInvalidate tile) := ⟨fun _ => trivial, fun _ => rfl⟩
theorem Wf.mirrorUpdate : Wf.Statement (.mirrorUpdate) := ⟨fun _ => trivial, fun _ => rfl⟩
theorem Wf.mgmtDoorbell (tail : BitVec 12) : Wf.Statement (.mgmtDoorbell tail) := ⟨fun _ => trivial, fun _ => rfl⟩
theorem Wf.mgmtCommandFetch (cmd : Cmd) : Wf.Statement (.mgmtCommandFetch cmd) := ⟨fun _ => trivial, fun _ => rfl⟩
theorem Wf.mgmtPortTimeout (id : Nat) : Wf.Statement (.mgmtPortTimeout id) := ⟨fun _ => trivial, fun _ => rfl⟩
theorem Wf.mqCfgWrite : Wf.Statement (.mqCfgWrite) := ⟨fun _ => trivial, fun _ => rfl⟩
theorem Wf.commandPush : Wf.Statement (.commandPush) := ⟨fun _ => trivial, fun _ => rfl⟩
theorem Wf.pushSlotFreed (port : Nat) : Wf.Statement (.pushSlotFreed port) := decide_eq_true_iff
theorem Wf.spilledContextFetch (qid : Nat) (mark : MemMark) : Wf.Statement (.spilledContextFetch qid mark) := decide_eq_true_iff
theorem Wf.queueDrained (qid : Nat) : Wf.Statement (.queueDrained qid) := decide_eq_true_iff
theorem Wf.put (qid : Nat) : Wf.Statement (.put qid) := decide_eq_true_iff
theorem Wf.putInline (qid : Nat) : Wf.Statement (.putInline qid) := decide_eq_true_iff
theorem Wf.get (qid : Nat) : Wf.Statement (.get qid) := decide_eq_true_iff
theorem Wf.copy (qid : Nat) : Wf.Statement (.copy qid) := decide_eq_true_iff
theorem Wf.atomicAddI32 (qid : Nat) : Wf.Statement (.atomicAddI32 qid) := decide_eq_true_iff
theorem Wf.atomicAddI64 (qid : Nat) : Wf.Statement (.atomicAddI64 qid) := decide_eq_true_iff
theorem Wf.atomicAddF32 (qid : Nat) : Wf.Statement (.atomicAddF32 qid) := decide_eq_true_iff
theorem Wf.atomicAddBf16x2 (qid : Nat) : Wf.Statement (.atomicAddBf16x2 qid) := decide_eq_true_iff
theorem Wf.atomicMinI64 (qid : Nat) : Wf.Statement (.atomicMinI64 qid) := decide_eq_true_iff
theorem Wf.atomicMaxI64 (qid : Nat) : Wf.Statement (.atomicMaxI64 qid) := decide_eq_true_iff
theorem Wf.atomicCas64 (qid : Nat) : Wf.Statement (.atomicCas64 qid) := decide_eq_true_iff
theorem Wf.atomicSwap64 (qid : Nat) : Wf.Statement (.atomicSwap64 qid) := decide_eq_true_iff
theorem Wf.syncAdd (qid : Nat) : Wf.Statement (.syncAdd qid) := decide_eq_true_iff
theorem Wf.syncSet (qid : Nat) : Wf.Statement (.syncSet qid) := decide_eq_true_iff
theorem Wf.syncWait (qid : Nat) : Wf.Statement (.syncWait qid) := decide_eq_true_iff
theorem Wf.fence (qid : Nat) : Wf.Statement (.fence qid) := decide_eq_true_iff
theorem Wf.galleryContrib (qid : Nat) : Wf.Statement (.galleryContrib qid) := decide_eq_true_iff
theorem Wf.combineContrib (qid : Nat) : Wf.Statement (.combineContrib qid) := decide_eq_true_iff
theorem Wf.kvRotate (qid : Nat) : Wf.Statement (.kvRotate qid) := decide_eq_true_iff
theorem Wf.regRead : Wf.Statement (.regRead) := ⟨fun _ => trivial, fun _ => rfl⟩
theorem Wf.regWrite : Wf.Statement (.regWrite) := ⟨fun _ => trivial, fun _ => rfl⟩
theorem Wf.tableWriteQueueContext : Wf.Statement (.tableWriteQueueContext) := ⟨fun _ => trivial, fun _ => rfl⟩
theorem Wf.tableWriteRegion : Wf.Statement (.tableWriteRegion) := ⟨fun _ => trivial, fun _ => rfl⟩
theorem Wf.tableWriteSequencer : Wf.Statement (.tableWriteSequencer) := ⟨fun _ => trivial, fun _ => rfl⟩
theorem Wf.tableWriteRouting : Wf.Statement (.tableWriteRouting) := ⟨fun _ => trivial, fun _ => rfl⟩
theorem Wf.epochSwap : Wf.Statement (.epochSwap) := ⟨fun _ => trivial, fun _ => rfl⟩
theorem Wf.gallerySetup : Wf.Statement (.gallerySetup) := ⟨fun _ => trivial, fun _ => rfl⟩
theorem Wf.galleryTeardown : Wf.Statement (.galleryTeardown) := ⟨fun _ => trivial, fun _ => rfl⟩
theorem Wf.sliceCreate : Wf.Statement (.sliceCreate) := ⟨fun _ => trivial, fun _ => rfl⟩
theorem Wf.sliceTeardown : Wf.Statement (.sliceTeardown) := ⟨fun _ => trivial, fun _ => rfl⟩
theorem Wf.sliceTeardownDrain : Wf.Statement (.sliceTeardownDrain) := ⟨fun _ => trivial, fun _ => rfl⟩
theorem Wf.scrub : Wf.Statement (.scrub) := ⟨fun _ => trivial, fun _ => rfl⟩
theorem Wf.scanCrc : Wf.Statement (.scanCrc) := ⟨fun _ => trivial, fun _ => rfl⟩
theorem Wf.dump : Wf.Statement (.dump) := ⟨fun _ => trivial, fun _ => rfl⟩
theorem Wf.fwActivate : Wf.Statement (.fwActivate) := ⟨fun _ => trivial, fun _ => rfl⟩
theorem Wf.fwActivateResponse (refused : Bool) : Wf.Statement (.fwActivateResponse refused) := ⟨fun _ => trivial, fun _ => rfl⟩
theorem Wf.fwActivateTimeout : Wf.Statement (.fwActivateTimeout) := ⟨fun _ => trivial, fun _ => rfl⟩
theorem Wf.faultAck : Wf.Statement (.faultAck) := ⟨fun _ => trivial, fun _ => rfl⟩
theorem Wf.laneTestStop : Wf.Statement (.laneTestStop) := ⟨fun _ => trivial, fun _ => rfl⟩
theorem Wf.laneTestPrbs31 : Wf.Statement (.laneTestPrbs31) := ⟨fun _ => trivial, fun _ => rfl⟩
theorem Wf.laneTestPrbs13q : Wf.Statement (.laneTestPrbs13q) := ⟨fun _ => trivial, fun _ => rfl⟩
theorem Wf.laneTestNearLoop : Wf.Statement (.laneTestNearLoop) := ⟨fun _ => trivial, fun _ => rfl⟩
theorem Wf.laneTestFarLoop : Wf.Statement (.laneTestFarLoop) := ⟨fun _ => trivial, fun _ => rfl⟩
theorem Wf.attestSpdm : Wf.Statement (.attestSpdm) := ⟨fun _ => trivial, fun _ => rfl⟩
theorem Wf.attestManifest : Wf.Statement (.attestManifest) := ⟨fun _ => trivial, fun _ => rfl⟩
theorem Wf.attestMailboxPoll (word0 : Word) (word1 : Word) : Wf.Statement (.attestMailboxPoll word0 word1) := ⟨fun _ => trivial, fun _ => rfl⟩
theorem Wf.attestTimeout : Wf.Statement (.attestTimeout) := ⟨fun _ => trivial, fun _ => rfl⟩
theorem Wf.mirrorHoldScan : Wf.Statement (.mirrorHoldScan) := ⟨fun _ => trivial, fun _ => rfl⟩
theorem Wf.mirrorHoldTimeout : Wf.Statement (.mirrorHoldTimeout) := ⟨fun _ => trivial, fun _ => rfl⟩
theorem Wf.dxCtlWrite : Wf.Statement (.dxCtlWrite) := ⟨fun _ => trivial, fun _ => rfl⟩
theorem Wf.dxNodeWrite : Wf.Statement (.dxNodeWrite) := ⟨fun _ => trivial, fun _ => rfl⟩
theorem Wf.dxRouteCtlWrite : Wf.Statement (.dxRouteCtlWrite) := ⟨fun _ => trivial, fun _ => rfl⟩
theorem Wf.dxStrictWrite : Wf.Statement (.dxStrictWrite) := ⟨fun _ => trivial, fun _ => rfl⟩
theorem Wf.dxRsvWrite : Wf.Statement (.dxRsvWrite) := ⟨fun _ => trivial, fun _ => rfl⟩
theorem Wf.dxPortCfgWrite : Wf.Statement (.dxPortCfgWrite) := ⟨fun _ => trivial, fun _ => rfl⟩
theorem Wf.hwfenceClear : Wf.Statement (.hwfenceClear) := ⟨fun _ => trivial, fun _ => rfl⟩
theorem Wf.dxFltFenceWrite : Wf.Statement (.dxFltFenceWrite) := ⟨fun _ => trivial, fun _ => rfl⟩
theorem Wf.dumpSlotRelease : Wf.Statement (.dumpSlotRelease) := ⟨fun _ => trivial, fun _ => rfl⟩
theorem Wf.dxQuarRelease : Wf.Statement (.dxQuarRelease) := ⟨fun _ => trivial, fun _ => rfl⟩
theorem Wf.dxRstCtlReq : Wf.Statement (.dxRstCtlReq) := ⟨fun _ => trivial, fun _ => rfl⟩
theorem Wf.returnToService : Wf.Statement (.returnToService) := ⟨fun _ => trivial, fun _ => rfl⟩
theorem Wf.restart : Wf.Statement (.restart) := ⟨fun _ => trivial, fun _ => rfl⟩
theorem Wf.pstateStill : Wf.Statement (.pstateStill) := ⟨fun _ => trivial, fun _ => rfl⟩
theorem Wf.pstateRun : Wf.Statement (.pstateRun) := ⟨fun _ => trivial, fun _ => rfl⟩
theorem Wf.pstateDormant : Wf.Statement (.pstateDormant) := ⟨fun _ => trivial, fun _ => rfl⟩
theorem Wf.dormantDrainEnd (n : Nat) : Wf.Statement (.dormantDrainEnd n) := decide_eq_true_iff
theorem Wf.wakeDone (n : Nat) : Wf.Statement (.wakeDone n) := decide_eq_true_iff
theorem Wf.dxFtNowWrite : Wf.Statement (.dxFtNowWrite) := ⟨fun _ => trivial, fun _ => rfl⟩
theorem Wf.dxFtCfgWrite : Wf.Statement (.dxFtCfgWrite) := ⟨fun _ => trivial, fun _ => rfl⟩
theorem Wf.dxWearWrite : Wf.Statement (.dxWearWrite) := ⟨fun _ => trivial, fun _ => rfl⟩
theorem Wf.dxNoiseWrite : Wf.Statement (.dxNoiseWrite) := ⟨fun _ => trivial, fun _ => rfl⟩
theorem Wf.dxSyncValWrite : Wf.Statement (.dxSyncValWrite) := ⟨fun _ => trivial, fun _ => rfl⟩
theorem Wf.dxSyncOwnWrite : Wf.Statement (.dxSyncOwnWrite) := ⟨fun _ => trivial, fun _ => rfl⟩
theorem Wf.dxCcCfgWrite : Wf.Statement (.dxCcCfgWrite) := ⟨fun _ => trivial, fun _ => rfl⟩
theorem Wf.dxTelFiltWrite : Wf.Statement (.dxTelFiltWrite) := ⟨fun _ => trivial, fun _ => rfl⟩
theorem Wf.dxCrcChWrite : Wf.Statement (.dxCrcChWrite) := ⟨fun _ => trivial, fun _ => rfl⟩
theorem Wf.dxSmpRingWrite : Wf.Statement (.dxSmpRingWrite) := ⟨fun _ => trivial, fun _ => rfl⟩
theorem Wf.dxSampleWrite : Wf.Statement (.dxSampleWrite) := ⟨fun _ => trivial, fun _ => rfl⟩
theorem Wf.dxPoliceWrite : Wf.Statement (.dxPoliceWrite) := ⟨fun _ => trivial, fun _ => rfl⟩
theorem Wf.laneBlockLock (lane : Nat) : Wf.Statement (.laneBlockLock lane) := decide_eq_true_iff
theorem Wf.laneLockLoss (lane : Nat) : Wf.Statement (.laneLockLoss lane) := decide_eq_true_iff
theorem Wf.markReceive (port : Nat) (marks : List MarkBlk) : Wf.Statement (.markReceive port marks) := decide_eq_true_iff
theorem Wf.trainReceive (port : Nat) (t : TrainBlk) : Wf.Statement (.trainReceive port t) := decide_eq_true_iff
theorem Wf.startReceive (port : Nat) (lseq : BitVec 16) : Wf.Statement (.startReceive port lseq) := decide_eq_true_iff
theorem Wf.creditReceive (port : Nat) (chan : Nat) (g : BitVec 16) : Wf.Statement (.creditReceive port chan g) := decide_eq_true_iff
theorem Wf.ackBlockReceive (port : Nat) (lseq : BitVec 16) : Wf.Statement (.ackBlockReceive port lseq) := decide_eq_true_iff
theorem Wf.nakReceive (port : Nat) (lseq : BitVec 16) : Wf.Statement (.nakReceive port lseq) := decide_eq_true_iff
theorem Wf.idleEnterReceive (port : Nat) (off : Bool) : Wf.Statement (.idleEnterReceive port off) := decide_eq_true_iff
theorem Wf.linkPacketReceive (port : Nat) (pkts : List (List Byte)) (sealTag : Option SealTag) (evts : List LaneEvt) :
    Wf.Statement (.linkPacketReceive port pkts sealTag evts) := decide_eq_true_iff
theorem Wf.creditRefresh (port : Nat) : Wf.Statement (.creditRefresh port) := decide_eq_true_iff
theorem Wf.controlBlockForced (port : Nat) : Wf.Statement (.controlBlockForced port) := decide_eq_true_iff
theorem Wf.replayTimeout (port : Nat) : Wf.Statement (.replayTimeout port) := decide_eq_true_iff
theorem Wf.mismatchTimer (port : Nat) : Wf.Statement (.mismatchTimer port) := decide_eq_true_iff
theorem Wf.trainingTimeout (port : Nat) : Wf.Statement (.trainingTimeout port) := decide_eq_true_iff
theorem Wf.retrainLockWait (port : Nat) : Wf.Statement (.retrainLockWait port) := decide_eq_true_iff
theorem Wf.linkLoss (port : Nat) (cause : LossCause) : Wf.Statement (.linkLoss port cause) := decide_eq_true_iff
theorem Wf.downTimer (port : Nat) : Wf.Statement (.downTimer port) := decide_eq_true_iff
theorem Wf.announcedIdleEntry (port : Nat) : Wf.Statement (.announcedIdleEntry port) := decide_eq_true_iff
theorem Wf.fastExit (port : Nat) : Wf.Statement (.fastExit port) := decide_eq_true_iff
theorem Wf.packetAdmit (src : AdmitSrc) : Wf.Statement (.packetAdmit src) := decide_eq_true_iff
theorem Wf.admissionRetry (src : AdmitSrc) : Wf.Statement (.admissionRetry src) := decide_eq_true_iff
theorem Wf.outputSelect (n : Nat) (o : Nat) (upset : Option Upset) : Wf.Statement (.outputSelect n o upset) := decide_eq_true_iff
theorem Wf.heldCellExpiry : Wf.Statement (.heldCellExpiry) := ⟨fun _ => trivial, fun _ => rfl⟩
theorem Wf.putCellRx : Wf.Statement (.putCellRx) := ⟨fun _ => trivial, fun _ => rfl⟩
theorem Wf.putFrameRx : Wf.Statement (.putFrameRx) := ⟨fun _ => trivial, fun _ => rfl⟩
theorem Wf.getRx : Wf.Statement (.getRx) := ⟨fun _ => trivial, fun _ => rfl⟩
theorem Wf.copyRx : Wf.Statement (.copyRx) := ⟨fun _ => trivial, fun _ => rfl⟩
theorem Wf.atomicRx : Wf.Statement (.atomicRx) := ⟨fun _ => trivial, fun _ => rfl⟩
theorem Wf.syncAddRx : Wf.Statement (.syncAddRx) := ⟨fun _ => trivial, fun _ => rfl⟩
theorem Wf.syncSetRx : Wf.Statement (.syncSetRx) := ⟨fun _ => trivial, fun _ => rfl⟩
theorem Wf.syncWaitRx : Wf.Statement (.syncWaitRx) := ⟨fun _ => trivial, fun _ => rfl⟩
theorem Wf.syncWaitDeadline : Wf.Statement (.syncWaitDeadline) := ⟨fun _ => trivial, fun _ => rfl⟩
theorem Wf.syncWaitIssuerTimeout (txn : Nat) : Wf.Statement (.syncWaitIssuerTimeout txn) := ⟨fun _ => trivial, fun _ => rfl⟩
theorem Wf.probeRx : Wf.Statement (.probeRx) := ⟨fun _ => trivial, fun _ => rfl⟩
theorem Wf.probeAnswer : Wf.Statement (.probeAnswer) := ⟨fun _ => trivial, fun _ => rfl⟩
theorem Wf.getDataRx : Wf.Statement (.getDataRx) := ⟨fun _ => trivial, fun _ => rfl⟩
theorem Wf.ackRx : Wf.Statement (.ackRx) := ⟨fun _ => trivial, fun _ => rfl⟩
theorem Wf.failRx : Wf.Statement (.failRx) := ⟨fun _ => trivial, fun _ => rfl⟩
theorem Wf.copyRptRx : Wf.Statement (.copyRptRx) := ⟨fun _ => trivial, fun _ => rfl⟩
theorem Wf.retransmitTimer (snd : Nat) (fidx : Nat) : Wf.Statement (.retransmitTimer snd fidx) := decide_eq_true_iff
theorem Wf.transportTimeout (txn : Nat) : Wf.Statement (.transportTimeout txn) := ⟨fun _ => trivial, fun _ => rfl⟩
theorem Wf.ackDelayTimer : Wf.Statement (.ackDelayTimer) := ⟨fun _ => trivial, fun _ => rfl⟩
theorem Wf.receiveRecordExpiry : Wf.Statement (.receiveRecordExpiry) := ⟨fun _ => trivial, fun _ => rfl⟩
theorem Wf.rdAnsRx : Wf.Statement (.rdAnsRx) := ⟨fun _ => trivial, fun _ => rfl⟩
theorem Wf.wrAnsRx : Wf.Statement (.wrAnsRx) := ⟨fun _ => trivial, fun _ => rfl⟩
theorem Wf.atAnsRx : Wf.Statement (.atAnsRx) := ⟨fun _ => trivial, fun _ => rfl⟩
theorem Wf.edgeRequestTimeout (port : Nat) (etag : Nat) : Wf.Statement (.edgeRequestTimeout port etag) := decide_eq_true_iff
theorem Wf.etagReuseTimer (port : Nat) (etag : Nat) : Wf.Statement (.etagReuseTimer port etag) := decide_eq_true_iff
theorem Wf.galUpRx (upset : Option AccUpset) : Wf.Statement (.galUpRx upset) := decide_eq_true_iff
theorem Wf.galDownRx (upset : Option AccUpset) : Wf.Statement (.galDownRx upset) := decide_eq_true_iff
theorem Wf.galleryContribFrameRx (upset : Option AccUpset) : Wf.Statement (.galleryContribFrameRx upset) := decide_eq_true_iff
theorem Wf.combineContribFrameRx (upset : Option AccUpset) : Wf.Statement (.combineContribFrameRx upset) := decide_eq_true_iff
theorem Wf.kvRotateFrameRx : Wf.Statement (.kvRotateFrameRx) := ⟨fun _ => trivial, fun _ => rfl⟩
theorem Wf.galAbortRx : Wf.Statement (.galAbortRx) := ⟨fun _ => trivial, fun _ => rfl⟩
theorem Wf.actionNop (g : Nat) (e : Nat) : Wf.Statement (.actionNop g e) := decide_eq_true_iff
theorem Wf.actionReduce (g : Nat) (e : Nat) (j : Nat) : Wf.Statement (.actionReduce g e j) := decide_eq_true_iff
theorem Wf.actionWait (g : Nat) (e : Nat) (j : Nat) : Wf.Statement (.actionWait g e j) := decide_eq_true_iff
theorem Wf.actionSendup (g : Nat) (e : Nat) (j : Nat) (upset : Option AccUpset) : Wf.Statement (.actionSendup g e j upset) := decide_eq_true_iff
theorem Wf.actionMcast (g : Nat) (e : Nat) (j : Nat) (upset : Option AccUpset) : Wf.Statement (.actionMcast g e j upset) := decide_eq_true_iff
theorem Wf.actionForward (g : Nat) (e : Nat) (j : Nat) : Wf.Statement (.actionForward g e j) := decide_eq_true_iff
theorem Wf.actionDispatch (g : Nat) (e : Nat) (j : Nat) : Wf.Statement (.actionDispatch g e j) := decide_eq_true_iff
theorem Wf.actionDswrite (g : Nat) (e : Nat) (j : Nat) (upset : Option AccUpset) : Wf.Statement (.actionDswrite g e j upset) := decide_eq_true_iff
theorem Wf.actionDsread (g : Nat) (e : Nat) (j : Nat) : Wf.Statement (.actionDsread g e j) := decide_eq_true_iff
theorem Wf.actionSyncadd (g : Nat) (e : Nat) : Wf.Statement (.actionSyncadd g e) := decide_eq_true_iff
theorem Wf.actionAdvance (g : Nat) (e : Nat) : Wf.Statement (.actionAdvance g e) := decide_eq_true_iff
theorem Wf.stepTimeout (g : Nat) : Wf.Statement (.stepTimeout g) := decide_eq_true_iff
theorem Wf.epochCtlPrepare : Wf.Statement (.epochCtlPrepare) := ⟨fun _ => trivial, fun _ => rfl⟩
theorem Wf.epochCtlSwitch : Wf.Statement (.epochCtlSwitch) := ⟨fun _ => trivial, fun _ => rfl⟩
theorem Wf.epochCtlPoll : Wf.Statement (.epochCtlPoll) := ⟨fun _ => trivial, fun _ => rfl⟩
theorem Wf.epochCtlRetire : Wf.Statement (.epochCtlRetire) := ⟨fun _ => trivial, fun _ => rfl⟩
theorem Wf.epochCtlReplyRx : Wf.Statement (.epochCtlReplyRx) := ⟨fun _ => trivial, fun _ => rfl⟩
theorem Wf.epochCtlTimeout (node : Nat) : Wf.Statement (.epochCtlTimeout node) := decide_eq_true_iff
theorem Wf.swapDrainLimit : Wf.Statement (.swapDrainLimit) := ⟨fun _ => trivial, fun _ => rfl⟩
theorem Wf.rateIncrease (slice : Nat) (dst : Nat) : Wf.Statement (.rateIncrease slice dst) := decide_eq_true_iff
theorem Wf.shaperRelease (slice : Nat) (dst : Nat) : Wf.Statement (.shaperRelease slice dst) := decide_eq_true_iff
theorem Wf.gateRelease (n : Nat) : Wf.Statement (.gateRelease n) := decide_eq_true_iff
theorem Wf.timeSyncTimer : Wf.Statement (.timeSyncTimer) := ⟨fun _ => trivial, fun _ => rfl⟩
theorem Wf.timeSyncRequestRx : Wf.Statement (.timeSyncRequestRx) := ⟨fun _ => trivial, fun _ => rfl⟩
theorem Wf.timeSyncResponseRx : Wf.Statement (.timeSyncResponseRx) := ⟨fun _ => trivial, fun _ => rfl⟩
theorem Wf.syncHoldoverTimer : Wf.Statement (.syncHoldoverTimer) := ⟨fun _ => trivial, fun _ => rfl⟩
theorem Wf.syncReacquireTimer : Wf.Statement (.syncReacquireTimer) := ⟨fun _ => trivial, fun _ => rfl⟩
theorem Wf.faultAckDeadline (u : Nat) (cls : Nat) : Wf.Statement (.faultAckDeadline u cls) := decide_eq_true_iff
theorem Wf.faultQuiet (u : Nat) : Wf.Statement (.faultQuiet u) := decide_eq_true_iff
theorem Wf.engineStall (n : Nat) (e : Engine) : Wf.Statement (.engineStall n e) := decide_eq_true_iff
theorem Wf.heartbeat : Wf.Statement (.heartbeat) := ⟨fun _ => trivial, fun _ => rfl⟩
theorem Wf.heartbeatCheck : Wf.Statement (.heartbeatCheck) := ⟨fun _ => trivial, fun _ => rfl⟩
theorem Wf.interpAutoRestart : Wf.Statement (.interpAutoRestart) := ⟨fun _ => trivial, fun _ => rfl⟩
theorem Wf.dumpUnitRead : Wf.Statement (.dumpUnitRead) := ⟨fun _ => trivial, fun _ => rfl⟩
theorem Wf.dumpReadTimeout (word : Nat) : Wf.Statement (.dumpReadTimeout word) := ⟨fun _ => trivial, fun _ => rfl⟩
theorem Wf.dumpTimeLimit : Wf.Statement (.dumpTimeLimit) := ⟨fun _ => trivial, fun _ => rfl⟩
theorem Wf.dumpWaitEnd : Wf.Statement (.dumpWaitEnd) := ⟨fun _ => trivial, fun _ => rfl⟩
theorem Wf.partitionClear (n : Nat) : Wf.Statement (.partitionClear n) := decide_eq_true_iff
theorem Wf.partitionReady (n : Nat) : Wf.Statement (.partitionReady n) := decide_eq_true_iff
theorem Wf.resetWindowExpiry (n : Nat) : Wf.Statement (.resetWindowExpiry n) := decide_eq_true_iff
theorem Wf.blockResetRelease : Wf.Statement (.blockResetRelease) := ⟨fun _ => trivial, fun _ => rfl⟩
theorem Wf.mgmtMemoryPortAnswer (id : Nat) (data : List Byte) : Wf.Statement (.mgmtMemoryPortAnswer id data) := ⟨fun _ => trivial, fun _ => rfl⟩

end Laws

end Sys2Proof
end

