-- ==== Sys2Proof/Laws/Regs.lean ====
section
/-! SUPPORT. Registers and their fields: what a write leaves at each, and that it keeps the canonical form. -/

namespace Sys2Proof.Machine

/-- A register just written reads as what was written. -/
@[simp] theorem State.reg_setReg_same (s : State) (r : Reg) (v : Word) : (s.setReg r v).reg r = v :=
  sget_sput_same r.reset s.regs r.addr v

/-- A register at another address reads as before. -/
theorem State.reg_setReg_ne (s : State) {r q : Reg} (v : Word) (h : q.addr ≠ r.addr) : (s.setReg r v).reg q = s.reg q :=
  sget_sput_ne r.reset q.reset s.regs v h

/-- A field of the register written. -/
@[simp] theorem State.reg_setFld_same (s : State) (r : Reg) (p : Pos) (v : Nat) :
    (s.setFld r p v).reg r = fset (s.reg r) p v := State.reg_setReg_same s r _
theorem State.reg_setFld_ne (s : State) {r q : Reg} (p : Pos) (v : Nat) (h : q.addr ≠ r.addr) :
    (s.setFld r p v).reg q = s.reg q := State.reg_setReg_ne s _ h

/-- A counter of the register counted. -/
@[simp] theorem State.reg_count_same (s : State) (r : Reg) (p : Pos) (k : Nat) :
    (s.count r p k).reg r = fsat (s.reg r) p k := State.reg_setReg_same s r _
theorem State.reg_count_ne (s : State) {r q : Reg} (p : Pos) (k : Nat) (h : q.addr ≠ r.addr) :
    (s.count r p k).reg q = s.reg q := State.reg_setReg_ne s _ h

/-- Reading a register depends on the register store alone. -/
theorem State.reg_congr {s t : State} (h : s.regs = t.regs) (r : Reg) : s.reg r = t.reg r := by simp [State.reg, h]

/-- A write of a register that the map lists keeps the canonical form. -/
theorem State.regsOk_setReg (s : State) (r : Reg) (v : Word) (hr : Reg.ofAddr r.addr = some r) (h : s.regsOk = true) :
    (s.setReg r v).regsOk = true := by
  have hd : addrReset r.addr = r.reset := by simp [addrReset, hr]
  have := swf_sput addrReset s.regs r.addr v h
  rw [hd] at this
  exact this

/-- The registers after reset are in canonical form. -/
theorem State.reset_regsOk : State.reset.regsOk = true := rfl

end Sys2Proof.Machine
end

