-- ==== Sys2Proof/Laws/State.lean ====
section
/-! SUPPORT. One lemma per field of the state and per named update: what an update leaves alone, and what it writes. -/

namespace Sys2Proof.Machine

/-! ### setReg -/
@[simp] theorem State.setReg_pending (s : State) (r : Reg) (v : Word) : (s.setReg r v).pending = s.pending := rfl
@[simp] theorem State.setReg_now (s : State) (r : Reg) (v : Word) : (s.setReg r v).now = s.now := rfl
@[simp] theorem State.setReg_free (s : State) (r : Reg) (v : Word) : (s.setReg r v).free = s.free := rfl
@[simp] theorem State.setReg_ids (s : State) (r : Reg) (v : Word) : (s.setReg r v).ids = s.ids := rfl
@[simp] theorem State.setReg_powered (s : State) (r : Reg) (v : Word) : (s.setReg r v).powered = s.powered := rfl
@[simp] theorem State.setReg_volt (s : State) (r : Reg) (v : Word) : (s.setReg r v).volt = s.volt := rfl
@[simp] theorem State.setReg_winEn (s : State) (r : Reg) (v : Word) : (s.setReg r v).winEn = s.winEn := rfl
@[simp] theorem State.setReg_winRead (s : State) (r : Reg) (v : Word) : (s.setReg r v).winRead = s.winRead := rfl
@[simp] theorem State.setReg_blkOn (s : State) (r : Reg) (v : Word) : (s.setReg r v).blkOn = s.blkOn := rfl
@[simp] theorem State.setReg_blkAt (s : State) (r : Reg) (v : Word) : (s.setReg r v).blkAt = s.blkAt := rfl
@[simp] theorem State.setReg_blkRun (s : State) (r : Reg) (v : Word) : (s.setReg r v).blkRun = s.blkRun := rfl
@[simp] theorem State.setReg_evq (s : State) (r : Reg) (v : Word) : (s.setReg r v).evq = s.evq := rfl
@[simp] theorem State.setReg_out (s : State) (r : Reg) (v : Word) : (s.setReg r v).out = s.out := rfl
@[simp] theorem State.setReg_parts (s : State) (r : Reg) (v : Word) : (s.setReg r v).parts = s.parts := rfl
@[simp] theorem State.setReg_therms (s : State) (r : Reg) (v : Word) : (s.setReg r v).therms = s.therms := rfl
@[simp] theorem State.setReg_links (s : State) (r : Reg) (v : Word) : (s.setReg r v).links = s.links := rfl
@[simp] theorem State.setReg_lanes (s : State) (r : Reg) (v : Word) : (s.setReg r v).lanes = s.lanes := rfl
@[simp] theorem State.setReg_funits (s : State) (r : Reg) (v : Word) : (s.setReg r v).funits = s.funits := rfl
@[simp] theorem State.setReg_st (s : State) (r : Reg) (v : Word) : (s.setReg r v).st = s.st := rfl
@[simp] theorem State.setReg_sw (s : State) (r : Reg) (v : Word) : (s.setReg r v).sw = s.sw := rfl
@[simp] theorem State.setReg_tp (s : State) (r : Reg) (v : Word) : (s.setReg r v).tp = s.tp := rfl
@[simp] theorem State.setReg_mv (s : State) (r : Reg) (v : Word) : (s.setReg r v).mv = s.mv := rfl
@[simp] theorem State.setReg_gals (s : State) (r : Reg) (v : Word) : (s.setReg r v).gals = s.gals := rfl
@[simp] theorem State.setReg_sec (s : State) (r : Reg) (v : Word) : (s.setReg r v).sec = s.sec := rfl
@[simp] theorem State.setReg_mg (s : State) (r : Reg) (v : Word) : (s.setReg r v).mg = s.mg := rfl
@[simp] theorem State.setReg_ft (s : State) (r : Reg) (v : Word) : (s.setReg r v).ft = s.ft := rfl
@[simp] theorem State.setReg_pw (s : State) (r : Reg) (v : Word) : (s.setReg r v).pw = s.pw := rfl
@[simp] theorem State.setReg_sdb (s : State) (r : Reg) (v : Word) : (s.setReg r v).sdb = s.sdb := rfl
@[simp] theorem State.setReg_crcRun (s : State) (r : Reg) (v : Word) : (s.setReg r v).crcRun = s.crcRun := rfl

/-! ### setFld -/
@[simp] theorem State.setFld_pending (s : State) (r : Reg) (p : Pos) (v : Nat) : (s.setFld r p v).pending = s.pending := rfl
@[simp] theorem State.setFld_now (s : State) (r : Reg) (p : Pos) (v : Nat) : (s.setFld r p v).now = s.now := rfl
@[simp] theorem State.setFld_free (s : State) (r : Reg) (p : Pos) (v : Nat) : (s.setFld r p v).free = s.free := rfl
@[simp] theorem State.setFld_ids (s : State) (r : Reg) (p : Pos) (v : Nat) : (s.setFld r p v).ids = s.ids := rfl
@[simp] theorem State.setFld_powered (s : State) (r : Reg) (p : Pos) (v : Nat) : (s.setFld r p v).powered = s.powered := rfl
@[simp] theorem State.setFld_volt (s : State) (r : Reg) (p : Pos) (v : Nat) : (s.setFld r p v).volt = s.volt := rfl
@[simp] theorem State.setFld_winEn (s : State) (r : Reg) (p : Pos) (v : Nat) : (s.setFld r p v).winEn = s.winEn := rfl
@[simp] theorem State.setFld_winRead (s : State) (r : Reg) (p : Pos) (v : Nat) : (s.setFld r p v).winRead = s.winRead := rfl
@[simp] theorem State.setFld_blkOn (s : State) (r : Reg) (p : Pos) (v : Nat) : (s.setFld r p v).blkOn = s.blkOn := rfl
@[simp] theorem State.setFld_blkAt (s : State) (r : Reg) (p : Pos) (v : Nat) : (s.setFld r p v).blkAt = s.blkAt := rfl
@[simp] theorem State.setFld_blkRun (s : State) (r : Reg) (p : Pos) (v : Nat) : (s.setFld r p v).blkRun = s.blkRun := rfl
@[simp] theorem State.setFld_evq (s : State) (r : Reg) (p : Pos) (v : Nat) : (s.setFld r p v).evq = s.evq := rfl
@[simp] theorem State.setFld_out (s : State) (r : Reg) (p : Pos) (v : Nat) : (s.setFld r p v).out = s.out := rfl
@[simp] theorem State.setFld_parts (s : State) (r : Reg) (p : Pos) (v : Nat) : (s.setFld r p v).parts = s.parts := rfl
@[simp] theorem State.setFld_therms (s : State) (r : Reg) (p : Pos) (v : Nat) : (s.setFld r p v).therms = s.therms := rfl
@[simp] theorem State.setFld_links (s : State) (r : Reg) (p : Pos) (v : Nat) : (s.setFld r p v).links = s.links := rfl
@[simp] theorem State.setFld_lanes (s : State) (r : Reg) (p : Pos) (v : Nat) : (s.setFld r p v).lanes = s.lanes := rfl
@[simp] theorem State.setFld_funits (s : State) (r : Reg) (p : Pos) (v : Nat) : (s.setFld r p v).funits = s.funits := rfl
@[simp] theorem State.setFld_st (s : State) (r : Reg) (p : Pos) (v : Nat) : (s.setFld r p v).st = s.st := rfl
@[simp] theorem State.setFld_sw (s : State) (r : Reg) (p : Pos) (v : Nat) : (s.setFld r p v).sw = s.sw := rfl
@[simp] theorem State.setFld_tp (s : State) (r : Reg) (p : Pos) (v : Nat) : (s.setFld r p v).tp = s.tp := rfl
@[simp] theorem State.setFld_mv (s : State) (r : Reg) (p : Pos) (v : Nat) : (s.setFld r p v).mv = s.mv := rfl
@[simp] theorem State.setFld_gals (s : State) (r : Reg) (p : Pos) (v : Nat) : (s.setFld r p v).gals = s.gals := rfl
@[simp] theorem State.setFld_sec (s : State) (r : Reg) (p : Pos) (v : Nat) : (s.setFld r p v).sec = s.sec := rfl
@[simp] theorem State.setFld_mg (s : State) (r : Reg) (p : Pos) (v : Nat) : (s.setFld r p v).mg = s.mg := rfl
@[simp] theorem State.setFld_ft (s : State) (r : Reg) (p : Pos) (v : Nat) : (s.setFld r p v).ft = s.ft := rfl
@[simp] theorem State.setFld_pw (s : State) (r : Reg) (p : Pos) (v : Nat) : (s.setFld r p v).pw = s.pw := rfl
@[simp] theorem State.setFld_sdb (s : State) (r : Reg) (p : Pos) (v : Nat) : (s.setFld r p v).sdb = s.sdb := rfl
@[simp] theorem State.setFld_crcRun (s : State) (r : Reg) (p : Pos) (v : Nat) : (s.setFld r p v).crcRun = s.crcRun := rfl

/-! ### count -/
@[simp] theorem State.count_pending (s : State) (r : Reg) (p : Pos) (k : Nat) : (s.count r p k).pending = s.pending := rfl
@[simp] theorem State.count_now (s : State) (r : Reg) (p : Pos) (k : Nat) : (s.count r p k).now = s.now := rfl
@[simp] theorem State.count_free (s : State) (r : Reg) (p : Pos) (k : Nat) : (s.count r p k).free = s.free := rfl
@[simp] theorem State.count_ids (s : State) (r : Reg) (p : Pos) (k : Nat) : (s.count r p k).ids = s.ids := rfl
@[simp] theorem State.count_powered (s : State) (r : Reg) (p : Pos) (k : Nat) : (s.count r p k).powered = s.powered := rfl
@[simp] theorem State.count_volt (s : State) (r : Reg) (p : Pos) (k : Nat) : (s.count r p k).volt = s.volt := rfl
@[simp] theorem State.count_winEn (s : State) (r : Reg) (p : Pos) (k : Nat) : (s.count r p k).winEn = s.winEn := rfl
@[simp] theorem State.count_winRead (s : State) (r : Reg) (p : Pos) (k : Nat) : (s.count r p k).winRead = s.winRead := rfl
@[simp] theorem State.count_blkOn (s : State) (r : Reg) (p : Pos) (k : Nat) : (s.count r p k).blkOn = s.blkOn := rfl
@[simp] theorem State.count_blkAt (s : State) (r : Reg) (p : Pos) (k : Nat) : (s.count r p k).blkAt = s.blkAt := rfl
@[simp] theorem State.count_blkRun (s : State) (r : Reg) (p : Pos) (k : Nat) : (s.count r p k).blkRun = s.blkRun := rfl
@[simp] theorem State.count_evq (s : State) (r : Reg) (p : Pos) (k : Nat) : (s.count r p k).evq = s.evq := rfl
@[simp] theorem State.count_out (s : State) (r : Reg) (p : Pos) (k : Nat) : (s.count r p k).out = s.out := rfl
@[simp] theorem State.count_parts (s : State) (r : Reg) (p : Pos) (k : Nat) : (s.count r p k).parts = s.parts := rfl
@[simp] theorem State.count_therms (s : State) (r : Reg) (p : Pos) (k : Nat) : (s.count r p k).therms = s.therms := rfl
@[simp] theorem State.count_links (s : State) (r : Reg) (p : Pos) (k : Nat) : (s.count r p k).links = s.links := rfl
@[simp] theorem State.count_lanes (s : State) (r : Reg) (p : Pos) (k : Nat) : (s.count r p k).lanes = s.lanes := rfl
@[simp] theorem State.count_funits (s : State) (r : Reg) (p : Pos) (k : Nat) : (s.count r p k).funits = s.funits := rfl
@[simp] theorem State.count_st (s : State) (r : Reg) (p : Pos) (k : Nat) : (s.count r p k).st = s.st := rfl
@[simp] theorem State.count_sw (s : State) (r : Reg) (p : Pos) (k : Nat) : (s.count r p k).sw = s.sw := rfl
@[simp] theorem State.count_tp (s : State) (r : Reg) (p : Pos) (k : Nat) : (s.count r p k).tp = s.tp := rfl
@[simp] theorem State.count_mv (s : State) (r : Reg) (p : Pos) (k : Nat) : (s.count r p k).mv = s.mv := rfl
@[simp] theorem State.count_gals (s : State) (r : Reg) (p : Pos) (k : Nat) : (s.count r p k).gals = s.gals := rfl
@[simp] theorem State.count_sec (s : State) (r : Reg) (p : Pos) (k : Nat) : (s.count r p k).sec = s.sec := rfl
@[simp] theorem State.count_mg (s : State) (r : Reg) (p : Pos) (k : Nat) : (s.count r p k).mg = s.mg := rfl
@[simp] theorem State.count_ft (s : State) (r : Reg) (p : Pos) (k : Nat) : (s.count r p k).ft = s.ft := rfl
@[simp] theorem State.count_pw (s : State) (r : Reg) (p : Pos) (k : Nat) : (s.count r p k).pw = s.pw := rfl
@[simp] theorem State.count_sdb (s : State) (r : Reg) (p : Pos) (k : Nat) : (s.count r p k).sdb = s.sdb := rfl
@[simp] theorem State.count_crcRun (s : State) (r : Reg) (p : Pos) (k : Nat) : (s.count r p k).crcRun = s.crcRun := rfl

/-! ### high -/
@[simp] theorem State.high_pending (s : State) (r : Reg) (p : Pos) (v : Nat) : (s.high r p v).pending = s.pending := rfl
@[simp] theorem State.high_now (s : State) (r : Reg) (p : Pos) (v : Nat) : (s.high r p v).now = s.now := rfl
@[simp] theorem State.high_free (s : State) (r : Reg) (p : Pos) (v : Nat) : (s.high r p v).free = s.free := rfl
@[simp] theorem State.high_ids (s : State) (r : Reg) (p : Pos) (v : Nat) : (s.high r p v).ids = s.ids := rfl
@[simp] theorem State.high_powered (s : State) (r : Reg) (p : Pos) (v : Nat) : (s.high r p v).powered = s.powered := rfl
@[simp] theorem State.high_volt (s : State) (r : Reg) (p : Pos) (v : Nat) : (s.high r p v).volt = s.volt := rfl
@[simp] theorem State.high_winEn (s : State) (r : Reg) (p : Pos) (v : Nat) : (s.high r p v).winEn = s.winEn := rfl
@[simp] theorem State.high_winRead (s : State) (r : Reg) (p : Pos) (v : Nat) : (s.high r p v).winRead = s.winRead := rfl
@[simp] theorem State.high_blkOn (s : State) (r : Reg) (p : Pos) (v : Nat) : (s.high r p v).blkOn = s.blkOn := rfl
@[simp] theorem State.high_blkAt (s : State) (r : Reg) (p : Pos) (v : Nat) : (s.high r p v).blkAt = s.blkAt := rfl
@[simp] theorem State.high_blkRun (s : State) (r : Reg) (p : Pos) (v : Nat) : (s.high r p v).blkRun = s.blkRun := rfl
@[simp] theorem State.high_evq (s : State) (r : Reg) (p : Pos) (v : Nat) : (s.high r p v).evq = s.evq := rfl
@[simp] theorem State.high_out (s : State) (r : Reg) (p : Pos) (v : Nat) : (s.high r p v).out = s.out := rfl
@[simp] theorem State.high_parts (s : State) (r : Reg) (p : Pos) (v : Nat) : (s.high r p v).parts = s.parts := rfl
@[simp] theorem State.high_therms (s : State) (r : Reg) (p : Pos) (v : Nat) : (s.high r p v).therms = s.therms := rfl
@[simp] theorem State.high_links (s : State) (r : Reg) (p : Pos) (v : Nat) : (s.high r p v).links = s.links := rfl
@[simp] theorem State.high_lanes (s : State) (r : Reg) (p : Pos) (v : Nat) : (s.high r p v).lanes = s.lanes := rfl
@[simp] theorem State.high_funits (s : State) (r : Reg) (p : Pos) (v : Nat) : (s.high r p v).funits = s.funits := rfl
@[simp] theorem State.high_st (s : State) (r : Reg) (p : Pos) (v : Nat) : (s.high r p v).st = s.st := rfl
@[simp] theorem State.high_sw (s : State) (r : Reg) (p : Pos) (v : Nat) : (s.high r p v).sw = s.sw := rfl
@[simp] theorem State.high_tp (s : State) (r : Reg) (p : Pos) (v : Nat) : (s.high r p v).tp = s.tp := rfl
@[simp] theorem State.high_mv (s : State) (r : Reg) (p : Pos) (v : Nat) : (s.high r p v).mv = s.mv := rfl
@[simp] theorem State.high_gals (s : State) (r : Reg) (p : Pos) (v : Nat) : (s.high r p v).gals = s.gals := rfl
@[simp] theorem State.high_sec (s : State) (r : Reg) (p : Pos) (v : Nat) : (s.high r p v).sec = s.sec := rfl
@[simp] theorem State.high_mg (s : State) (r : Reg) (p : Pos) (v : Nat) : (s.high r p v).mg = s.mg := rfl
@[simp] theorem State.high_ft (s : State) (r : Reg) (p : Pos) (v : Nat) : (s.high r p v).ft = s.ft := rfl
@[simp] theorem State.high_pw (s : State) (r : Reg) (p : Pos) (v : Nat) : (s.high r p v).pw = s.pw := rfl
@[simp] theorem State.high_sdb (s : State) (r : Reg) (p : Pos) (v : Nat) : (s.high r p v).sdb = s.sdb := rfl
@[simp] theorem State.high_crcRun (s : State) (r : Reg) (p : Pos) (v : Nat) : (s.high r p v).crcRun = s.crcRun := rfl

/-! ### setPart -/
@[simp] theorem State.setPart_pending (s : State) (n : Nat) (f : Part → Part) : (s.setPart n f).pending = s.pending := rfl
@[simp] theorem State.setPart_now (s : State) (n : Nat) (f : Part → Part) : (s.setPart n f).now = s.now := rfl
@[simp] theorem State.setPart_free (s : State) (n : Nat) (f : Part → Part) : (s.setPart n f).free = s.free := rfl
@[simp] theorem State.setPart_ids (s : State) (n : Nat) (f : Part → Part) : (s.setPart n f).ids = s.ids := rfl
@[simp] theorem State.setPart_powered (s : State) (n : Nat) (f : Part → Part) : (s.setPart n f).powered = s.powered := rfl
@[simp] theorem State.setPart_volt (s : State) (n : Nat) (f : Part → Part) : (s.setPart n f).volt = s.volt := rfl
@[simp] theorem State.setPart_winEn (s : State) (n : Nat) (f : Part → Part) : (s.setPart n f).winEn = s.winEn := rfl
@[simp] theorem State.setPart_winRead (s : State) (n : Nat) (f : Part → Part) : (s.setPart n f).winRead = s.winRead := rfl
@[simp] theorem State.setPart_blkOn (s : State) (n : Nat) (f : Part → Part) : (s.setPart n f).blkOn = s.blkOn := rfl
@[simp] theorem State.setPart_blkAt (s : State) (n : Nat) (f : Part → Part) : (s.setPart n f).blkAt = s.blkAt := rfl
@[simp] theorem State.setPart_blkRun (s : State) (n : Nat) (f : Part → Part) : (s.setPart n f).blkRun = s.blkRun := rfl
@[simp] theorem State.setPart_regs (s : State) (n : Nat) (f : Part → Part) : (s.setPart n f).regs = s.regs := rfl
@[simp] theorem State.setPart_evq (s : State) (n : Nat) (f : Part → Part) : (s.setPart n f).evq = s.evq := rfl
@[simp] theorem State.setPart_out (s : State) (n : Nat) (f : Part → Part) : (s.setPart n f).out = s.out := rfl
@[simp] theorem State.setPart_therms (s : State) (n : Nat) (f : Part → Part) : (s.setPart n f).therms = s.therms := rfl
@[simp] theorem State.setPart_links (s : State) (n : Nat) (f : Part → Part) : (s.setPart n f).links = s.links := rfl
@[simp] theorem State.setPart_lanes (s : State) (n : Nat) (f : Part → Part) : (s.setPart n f).lanes = s.lanes := rfl
@[simp] theorem State.setPart_funits (s : State) (n : Nat) (f : Part → Part) : (s.setPart n f).funits = s.funits := rfl
@[simp] theorem State.setPart_st (s : State) (n : Nat) (f : Part → Part) : (s.setPart n f).st = s.st := rfl
@[simp] theorem State.setPart_sw (s : State) (n : Nat) (f : Part → Part) : (s.setPart n f).sw = s.sw := rfl
@[simp] theorem State.setPart_tp (s : State) (n : Nat) (f : Part → Part) : (s.setPart n f).tp = s.tp := rfl
@[simp] theorem State.setPart_mv (s : State) (n : Nat) (f : Part → Part) : (s.setPart n f).mv = s.mv := rfl
@[simp] theorem State.setPart_gals (s : State) (n : Nat) (f : Part → Part) : (s.setPart n f).gals = s.gals := rfl
@[simp] theorem State.setPart_sec (s : State) (n : Nat) (f : Part → Part) : (s.setPart n f).sec = s.sec := rfl
@[simp] theorem State.setPart_mg (s : State) (n : Nat) (f : Part → Part) : (s.setPart n f).mg = s.mg := rfl
@[simp] theorem State.setPart_ft (s : State) (n : Nat) (f : Part → Part) : (s.setPart n f).ft = s.ft := rfl
@[simp] theorem State.setPart_pw (s : State) (n : Nat) (f : Part → Part) : (s.setPart n f).pw = s.pw := rfl
@[simp] theorem State.setPart_sdb (s : State) (n : Nat) (f : Part → Part) : (s.setPart n f).sdb = s.sdb := rfl
@[simp] theorem State.setPart_crcRun (s : State) (n : Nat) (f : Part → Part) : (s.setPart n f).crcRun = s.crcRun := rfl

/-! ### setLink -/
@[simp] theorem State.setLink_pending (s : State) (c : Nat) (f : Link → Link) : (s.setLink c f).pending = s.pending := rfl
@[simp] theorem State.setLink_now (s : State) (c : Nat) (f : Link → Link) : (s.setLink c f).now = s.now := rfl
@[simp] theorem State.setLink_free (s : State) (c : Nat) (f : Link → Link) : (s.setLink c f).free = s.free := rfl
@[simp] theorem State.setLink_ids (s : State) (c : Nat) (f : Link → Link) : (s.setLink c f).ids = s.ids := rfl
@[simp] theorem State.setLink_powered (s : State) (c : Nat) (f : Link → Link) : (s.setLink c f).powered = s.powered := rfl
@[simp] theorem State.setLink_volt (s : State) (c : Nat) (f : Link → Link) : (s.setLink c f).volt = s.volt := rfl
@[simp] theorem State.setLink_winEn (s : State) (c : Nat) (f : Link → Link) : (s.setLink c f).winEn = s.winEn := rfl
@[simp] theorem State.setLink_winRead (s : State) (c : Nat) (f : Link → Link) : (s.setLink c f).winRead = s.winRead := rfl
@[simp] theorem State.setLink_blkOn (s : State) (c : Nat) (f : Link → Link) : (s.setLink c f).blkOn = s.blkOn := rfl
@[simp] theorem State.setLink_blkAt (s : State) (c : Nat) (f : Link → Link) : (s.setLink c f).blkAt = s.blkAt := rfl
@[simp] theorem State.setLink_blkRun (s : State) (c : Nat) (f : Link → Link) : (s.setLink c f).blkRun = s.blkRun := rfl
@[simp] theorem State.setLink_regs (s : State) (c : Nat) (f : Link → Link) : (s.setLink c f).regs = s.regs := rfl
@[simp] theorem State.setLink_evq (s : State) (c : Nat) (f : Link → Link) : (s.setLink c f).evq = s.evq := rfl
@[simp] theorem State.setLink_out (s : State) (c : Nat) (f : Link → Link) : (s.setLink c f).out = s.out := rfl
@[simp] theorem State.setLink_parts (s : State) (c : Nat) (f : Link → Link) : (s.setLink c f).parts = s.parts := rfl
@[simp] theorem State.setLink_therms (s : State) (c : Nat) (f : Link → Link) : (s.setLink c f).therms = s.therms := rfl
@[simp] theorem State.setLink_lanes (s : State) (c : Nat) (f : Link → Link) : (s.setLink c f).lanes = s.lanes := rfl
@[simp] theorem State.setLink_funits (s : State) (c : Nat) (f : Link → Link) : (s.setLink c f).funits = s.funits := rfl
@[simp] theorem State.setLink_st (s : State) (c : Nat) (f : Link → Link) : (s.setLink c f).st = s.st := rfl
@[simp] theorem State.setLink_sw (s : State) (c : Nat) (f : Link → Link) : (s.setLink c f).sw = s.sw := rfl
@[simp] theorem State.setLink_tp (s : State) (c : Nat) (f : Link → Link) : (s.setLink c f).tp = s.tp := rfl
@[simp] theorem State.setLink_mv (s : State) (c : Nat) (f : Link → Link) : (s.setLink c f).mv = s.mv := rfl
@[simp] theorem State.setLink_gals (s : State) (c : Nat) (f : Link → Link) : (s.setLink c f).gals = s.gals := rfl
@[simp] theorem State.setLink_sec (s : State) (c : Nat) (f : Link → Link) : (s.setLink c f).sec = s.sec := rfl
@[simp] theorem State.setLink_mg (s : State) (c : Nat) (f : Link → Link) : (s.setLink c f).mg = s.mg := rfl
@[simp] theorem State.setLink_ft (s : State) (c : Nat) (f : Link → Link) : (s.setLink c f).ft = s.ft := rfl
@[simp] theorem State.setLink_pw (s : State) (c : Nat) (f : Link → Link) : (s.setLink c f).pw = s.pw := rfl
@[simp] theorem State.setLink_sdb (s : State) (c : Nat) (f : Link → Link) : (s.setLink c f).sdb = s.sdb := rfl
@[simp] theorem State.setLink_crcRun (s : State) (c : Nat) (f : Link → Link) : (s.setLink c f).crcRun = s.crcRun := rfl

/-! ### setLane -/
@[simp] theorem State.setLane_pending (s : State) (l : Nat) (f : Lane → Lane) : (s.setLane l f).pending = s.pending := rfl
@[simp] theorem State.setLane_now (s : State) (l : Nat) (f : Lane → Lane) : (s.setLane l f).now = s.now := rfl
@[simp] theorem State.setLane_free (s : State) (l : Nat) (f : Lane → Lane) : (s.setLane l f).free = s.free := rfl
@[simp] theorem State.setLane_ids (s : State) (l : Nat) (f : Lane → Lane) : (s.setLane l f).ids = s.ids := rfl
@[simp] theorem State.setLane_powered (s : State) (l : Nat) (f : Lane → Lane) : (s.setLane l f).powered = s.powered := rfl
@[simp] theorem State.setLane_volt (s : State) (l : Nat) (f : Lane → Lane) : (s.setLane l f).volt = s.volt := rfl
@[simp] theorem State.setLane_winEn (s : State) (l : Nat) (f : Lane → Lane) : (s.setLane l f).winEn = s.winEn := rfl
@[simp] theorem State.setLane_winRead (s : State) (l : Nat) (f : Lane → Lane) : (s.setLane l f).winRead = s.winRead := rfl
@[simp] theorem State.setLane_blkOn (s : State) (l : Nat) (f : Lane → Lane) : (s.setLane l f).blkOn = s.blkOn := rfl
@[simp] theorem State.setLane_blkAt (s : State) (l : Nat) (f : Lane → Lane) : (s.setLane l f).blkAt = s.blkAt := rfl
@[simp] theorem State.setLane_blkRun (s : State) (l : Nat) (f : Lane → Lane) : (s.setLane l f).blkRun = s.blkRun := rfl
@[simp] theorem State.setLane_regs (s : State) (l : Nat) (f : Lane → Lane) : (s.setLane l f).regs = s.regs := rfl
@[simp] theorem State.setLane_evq (s : State) (l : Nat) (f : Lane → Lane) : (s.setLane l f).evq = s.evq := rfl
@[simp] theorem State.setLane_out (s : State) (l : Nat) (f : Lane → Lane) : (s.setLane l f).out = s.out := rfl
@[simp] theorem State.setLane_parts (s : State) (l : Nat) (f : Lane → Lane) : (s.setLane l f).parts = s.parts := rfl
@[simp] theorem State.setLane_therms (s : State) (l : Nat) (f : Lane → Lane) : (s.setLane l f).therms = s.therms := rfl
@[simp] theorem State.setLane_links (s : State) (l : Nat) (f : Lane → Lane) : (s.setLane l f).links = s.links := rfl
@[simp] theorem State.setLane_funits (s : State) (l : Nat) (f : Lane → Lane) : (s.setLane l f).funits = s.funits := rfl
@[simp] theorem State.setLane_st (s : State) (l : Nat) (f : Lane → Lane) : (s.setLane l f).st = s.st := rfl
@[simp] theorem State.setLane_sw (s : State) (l : Nat) (f : Lane → Lane) : (s.setLane l f).sw = s.sw := rfl
@[simp] theorem State.setLane_tp (s : State) (l : Nat) (f : Lane → Lane) : (s.setLane l f).tp = s.tp := rfl
@[simp] theorem State.setLane_mv (s : State) (l : Nat) (f : Lane → Lane) : (s.setLane l f).mv = s.mv := rfl
@[simp] theorem State.setLane_gals (s : State) (l : Nat) (f : Lane → Lane) : (s.setLane l f).gals = s.gals := rfl
@[simp] theorem State.setLane_sec (s : State) (l : Nat) (f : Lane → Lane) : (s.setLane l f).sec = s.sec := rfl
@[simp] theorem State.setLane_mg (s : State) (l : Nat) (f : Lane → Lane) : (s.setLane l f).mg = s.mg := rfl
@[simp] theorem State.setLane_ft (s : State) (l : Nat) (f : Lane → Lane) : (s.setLane l f).ft = s.ft := rfl
@[simp] theorem State.setLane_pw (s : State) (l : Nat) (f : Lane → Lane) : (s.setLane l f).pw = s.pw := rfl
@[simp] theorem State.setLane_sdb (s : State) (l : Nat) (f : Lane → Lane) : (s.setLane l f).sdb = s.sdb := rfl
@[simp] theorem State.setLane_crcRun (s : State) (l : Nat) (f : Lane → Lane) : (s.setLane l f).crcRun = s.crcRun := rfl

/-! ### setFunit -/
@[simp] theorem State.setFunit_pending (s : State) (u : Nat) (f : FUnit → FUnit) : (s.setFunit u f).pending = s.pending := rfl
@[simp] theorem State.setFunit_now (s : State) (u : Nat) (f : FUnit → FUnit) : (s.setFunit u f).now = s.now := rfl
@[simp] theorem State.setFunit_free (s : State) (u : Nat) (f : FUnit → FUnit) : (s.setFunit u f).free = s.free := rfl
@[simp] theorem State.setFunit_ids (s : State) (u : Nat) (f : FUnit → FUnit) : (s.setFunit u f).ids = s.ids := rfl
@[simp] theorem State.setFunit_powered (s : State) (u : Nat) (f : FUnit → FUnit) : (s.setFunit u f).powered = s.powered := rfl
@[simp] theorem State.setFunit_volt (s : State) (u : Nat) (f : FUnit → FUnit) : (s.setFunit u f).volt = s.volt := rfl
@[simp] theorem State.setFunit_winEn (s : State) (u : Nat) (f : FUnit → FUnit) : (s.setFunit u f).winEn = s.winEn := rfl
@[simp] theorem State.setFunit_winRead (s : State) (u : Nat) (f : FUnit → FUnit) : (s.setFunit u f).winRead = s.winRead := rfl
@[simp] theorem State.setFunit_blkOn (s : State) (u : Nat) (f : FUnit → FUnit) : (s.setFunit u f).blkOn = s.blkOn := rfl
@[simp] theorem State.setFunit_blkAt (s : State) (u : Nat) (f : FUnit → FUnit) : (s.setFunit u f).blkAt = s.blkAt := rfl
@[simp] theorem State.setFunit_blkRun (s : State) (u : Nat) (f : FUnit → FUnit) : (s.setFunit u f).blkRun = s.blkRun := rfl
@[simp] theorem State.setFunit_regs (s : State) (u : Nat) (f : FUnit → FUnit) : (s.setFunit u f).regs = s.regs := rfl
@[simp] theorem State.setFunit_evq (s : State) (u : Nat) (f : FUnit → FUnit) : (s.setFunit u f).evq = s.evq := rfl
@[simp] theorem State.setFunit_out (s : State) (u : Nat) (f : FUnit → FUnit) : (s.setFunit u f).out = s.out := rfl
@[simp] theorem State.setFunit_parts (s : State) (u : Nat) (f : FUnit → FUnit) : (s.setFunit u f).parts = s.parts := rfl
@[simp] theorem State.setFunit_therms (s : State) (u : Nat) (f : FUnit → FUnit) : (s.setFunit u f).therms = s.therms := rfl
@[simp] theorem State.setFunit_links (s : State) (u : Nat) (f : FUnit → FUnit) : (s.setFunit u f).links = s.links := rfl
@[simp] theorem State.setFunit_lanes (s : State) (u : Nat) (f : FUnit → FUnit) : (s.setFunit u f).lanes = s.lanes := rfl
@[simp] theorem State.setFunit_st (s : State) (u : Nat) (f : FUnit → FUnit) : (s.setFunit u f).st = s.st := rfl
@[simp] theorem State.setFunit_sw (s : State) (u : Nat) (f : FUnit → FUnit) : (s.setFunit u f).sw = s.sw := rfl
@[simp] theorem State.setFunit_tp (s : State) (u : Nat) (f : FUnit → FUnit) : (s.setFunit u f).tp = s.tp := rfl
@[simp] theorem State.setFunit_mv (s : State) (u : Nat) (f : FUnit → FUnit) : (s.setFunit u f).mv = s.mv := rfl
@[simp] theorem State.setFunit_gals (s : State) (u : Nat) (f : FUnit → FUnit) : (s.setFunit u f).gals = s.gals := rfl
@[simp] theorem State.setFunit_sec (s : State) (u : Nat) (f : FUnit → FUnit) : (s.setFunit u f).sec = s.sec := rfl
@[simp] theorem State.setFunit_mg (s : State) (u : Nat) (f : FUnit → FUnit) : (s.setFunit u f).mg = s.mg := rfl
@[simp] theorem State.setFunit_ft (s : State) (u : Nat) (f : FUnit → FUnit) : (s.setFunit u f).ft = s.ft := rfl
@[simp] theorem State.setFunit_pw (s : State) (u : Nat) (f : FUnit → FUnit) : (s.setFunit u f).pw = s.pw := rfl
@[simp] theorem State.setFunit_sdb (s : State) (u : Nat) (f : FUnit → FUnit) : (s.setFunit u f).sdb = s.sdb := rfl
@[simp] theorem State.setFunit_crcRun (s : State) (u : Nat) (f : FUnit → FUnit) : (s.setFunit u f).crcRun = s.crcRun := rfl

/-! ### event -/
@[simp] theorem State.event_pending (s : State) (u code : Nat) (x : Src) (sl : Option Nat) : (s.event u code x sl).pending = s.pending := rfl
@[simp] theorem State.event_now (s : State) (u code : Nat) (x : Src) (sl : Option Nat) : (s.event u code x sl).now = s.now := rfl
@[simp] theorem State.event_free (s : State) (u code : Nat) (x : Src) (sl : Option Nat) : (s.event u code x sl).free = s.free := rfl
@[simp] theorem State.event_ids (s : State) (u code : Nat) (x : Src) (sl : Option Nat) : (s.event u code x sl).ids = s.ids := rfl
@[simp] theorem State.event_powered (s : State) (u code : Nat) (x : Src) (sl : Option Nat) : (s.event u code x sl).powered = s.powered := rfl
@[simp] theorem State.event_volt (s : State) (u code : Nat) (x : Src) (sl : Option Nat) : (s.event u code x sl).volt = s.volt := rfl
@[simp] theorem State.event_winEn (s : State) (u code : Nat) (x : Src) (sl : Option Nat) : (s.event u code x sl).winEn = s.winEn := rfl
@[simp] theorem State.event_winRead (s : State) (u code : Nat) (x : Src) (sl : Option Nat) : (s.event u code x sl).winRead = s.winRead := rfl
@[simp] theorem State.event_blkOn (s : State) (u code : Nat) (x : Src) (sl : Option Nat) : (s.event u code x sl).blkOn = s.blkOn := rfl
@[simp] theorem State.event_blkAt (s : State) (u code : Nat) (x : Src) (sl : Option Nat) : (s.event u code x sl).blkAt = s.blkAt := rfl
@[simp] theorem State.event_blkRun (s : State) (u code : Nat) (x : Src) (sl : Option Nat) : (s.event u code x sl).blkRun = s.blkRun := rfl
@[simp] theorem State.event_regs (s : State) (u code : Nat) (x : Src) (sl : Option Nat) : (s.event u code x sl).regs = s.regs := rfl
@[simp] theorem State.event_out (s : State) (u code : Nat) (x : Src) (sl : Option Nat) : (s.event u code x sl).out = s.out := rfl
@[simp] theorem State.event_parts (s : State) (u code : Nat) (x : Src) (sl : Option Nat) : (s.event u code x sl).parts = s.parts := rfl
@[simp] theorem State.event_therms (s : State) (u code : Nat) (x : Src) (sl : Option Nat) : (s.event u code x sl).therms = s.therms := rfl
@[simp] theorem State.event_links (s : State) (u code : Nat) (x : Src) (sl : Option Nat) : (s.event u code x sl).links = s.links := rfl
@[simp] theorem State.event_lanes (s : State) (u code : Nat) (x : Src) (sl : Option Nat) : (s.event u code x sl).lanes = s.lanes := rfl
@[simp] theorem State.event_funits (s : State) (u code : Nat) (x : Src) (sl : Option Nat) : (s.event u code x sl).funits = s.funits := rfl
@[simp] theorem State.event_st (s : State) (u code : Nat) (x : Src) (sl : Option Nat) : (s.event u code x sl).st = s.st := rfl
@[simp] theorem State.event_sw (s : State) (u code : Nat) (x : Src) (sl : Option Nat) : (s.event u code x sl).sw = s.sw := rfl
@[simp] theorem State.event_tp (s : State) (u code : Nat) (x : Src) (sl : Option Nat) : (s.event u code x sl).tp = s.tp := rfl
@[simp] theorem State.event_mv (s : State) (u code : Nat) (x : Src) (sl : Option Nat) : (s.event u code x sl).mv = s.mv := rfl
@[simp] theorem State.event_gals (s : State) (u code : Nat) (x : Src) (sl : Option Nat) : (s.event u code x sl).gals = s.gals := rfl
@[simp] theorem State.event_sec (s : State) (u code : Nat) (x : Src) (sl : Option Nat) : (s.event u code x sl).sec = s.sec := rfl
@[simp] theorem State.event_mg (s : State) (u code : Nat) (x : Src) (sl : Option Nat) : (s.event u code x sl).mg = s.mg := rfl
@[simp] theorem State.event_ft (s : State) (u code : Nat) (x : Src) (sl : Option Nat) : (s.event u code x sl).ft = s.ft := rfl
@[simp] theorem State.event_pw (s : State) (u code : Nat) (x : Src) (sl : Option Nat) : (s.event u code x sl).pw = s.pw := rfl
@[simp] theorem State.event_sdb (s : State) (u code : Nat) (x : Src) (sl : Option Nat) : (s.event u code x sl).sdb = s.sdb := rfl
@[simp] theorem State.event_crcRun (s : State) (u code : Nat) (x : Src) (sl : Option Nat) : (s.event u code x sl).crcRun = s.crcRun := rfl

/-! ### emit -/
@[simp] theorem State.emit_pending (s : State) (o : Out) : (s.emit o).pending = s.pending := rfl
@[simp] theorem State.emit_now (s : State) (o : Out) : (s.emit o).now = s.now := rfl
@[simp] theorem State.emit_free (s : State) (o : Out) : (s.emit o).free = s.free := rfl
@[simp] theorem State.emit_ids (s : State) (o : Out) : (s.emit o).ids = s.ids := rfl
@[simp] theorem State.emit_powered (s : State) (o : Out) : (s.emit o).powered = s.powered := rfl
@[simp] theorem State.emit_volt (s : State) (o : Out) : (s.emit o).volt = s.volt := rfl
@[simp] theorem State.emit_winEn (s : State) (o : Out) : (s.emit o).winEn = s.winEn := rfl
@[simp] theorem State.emit_winRead (s : State) (o : Out) : (s.emit o).winRead = s.winRead := rfl
@[simp] theorem State.emit_blkOn (s : State) (o : Out) : (s.emit o).blkOn = s.blkOn := rfl
@[simp] theorem State.emit_blkAt (s : State) (o : Out) : (s.emit o).blkAt = s.blkAt := rfl
@[simp] theorem State.emit_blkRun (s : State) (o : Out) : (s.emit o).blkRun = s.blkRun := rfl
@[simp] theorem State.emit_regs (s : State) (o : Out) : (s.emit o).regs = s.regs := rfl
@[simp] theorem State.emit_evq (s : State) (o : Out) : (s.emit o).evq = s.evq := rfl
@[simp] theorem State.emit_parts (s : State) (o : Out) : (s.emit o).parts = s.parts := rfl
@[simp] theorem State.emit_therms (s : State) (o : Out) : (s.emit o).therms = s.therms := rfl
@[simp] theorem State.emit_links (s : State) (o : Out) : (s.emit o).links = s.links := rfl
@[simp] theorem State.emit_lanes (s : State) (o : Out) : (s.emit o).lanes = s.lanes := rfl
@[simp] theorem State.emit_funits (s : State) (o : Out) : (s.emit o).funits = s.funits := rfl
@[simp] theorem State.emit_st (s : State) (o : Out) : (s.emit o).st = s.st := rfl
@[simp] theorem State.emit_sw (s : State) (o : Out) : (s.emit o).sw = s.sw := rfl
@[simp] theorem State.emit_tp (s : State) (o : Out) : (s.emit o).tp = s.tp := rfl
@[simp] theorem State.emit_mv (s : State) (o : Out) : (s.emit o).mv = s.mv := rfl
@[simp] theorem State.emit_gals (s : State) (o : Out) : (s.emit o).gals = s.gals := rfl
@[simp] theorem State.emit_sec (s : State) (o : Out) : (s.emit o).sec = s.sec := rfl
@[simp] theorem State.emit_mg (s : State) (o : Out) : (s.emit o).mg = s.mg := rfl
@[simp] theorem State.emit_ft (s : State) (o : Out) : (s.emit o).ft = s.ft := rfl
@[simp] theorem State.emit_pw (s : State) (o : Out) : (s.emit o).pw = s.pw := rfl
@[simp] theorem State.emit_sdb (s : State) (o : Out) : (s.emit o).sdb = s.sdb := rfl
@[simp] theorem State.emit_crcRun (s : State) (o : Out) : (s.emit o).crcRun = s.crcRun := rfl

/-! ### inject -/
@[simp] theorem State.inject_pending (s : State) (n : Nat) (p : Pkt) (fx : Option (Nat × Nat)) (sh : Bool) (gd : Option GDel) (er : Option (Nat × Nat)) : (s.inject n p fx sh gd er).pending = s.pending := rfl
@[simp] theorem State.inject_now (s : State) (n : Nat) (p : Pkt) (fx : Option (Nat × Nat)) (sh : Bool) (gd : Option GDel) (er : Option (Nat × Nat)) : (s.inject n p fx sh gd er).now = s.now := rfl
@[simp] theorem State.inject_free (s : State) (n : Nat) (p : Pkt) (fx : Option (Nat × Nat)) (sh : Bool) (gd : Option GDel) (er : Option (Nat × Nat)) : (s.inject n p fx sh gd er).free = s.free := rfl
@[simp] theorem State.inject_ids (s : State) (n : Nat) (p : Pkt) (fx : Option (Nat × Nat)) (sh : Bool) (gd : Option GDel) (er : Option (Nat × Nat)) : (s.inject n p fx sh gd er).ids = s.ids := rfl
@[simp] theorem State.inject_powered (s : State) (n : Nat) (p : Pkt) (fx : Option (Nat × Nat)) (sh : Bool) (gd : Option GDel) (er : Option (Nat × Nat)) : (s.inject n p fx sh gd er).powered = s.powered := rfl
@[simp] theorem State.inject_volt (s : State) (n : Nat) (p : Pkt) (fx : Option (Nat × Nat)) (sh : Bool) (gd : Option GDel) (er : Option (Nat × Nat)) : (s.inject n p fx sh gd er).volt = s.volt := rfl
@[simp] theorem State.inject_winEn (s : State) (n : Nat) (p : Pkt) (fx : Option (Nat × Nat)) (sh : Bool) (gd : Option GDel) (er : Option (Nat × Nat)) : (s.inject n p fx sh gd er).winEn = s.winEn := rfl
@[simp] theorem State.inject_winRead (s : State) (n : Nat) (p : Pkt) (fx : Option (Nat × Nat)) (sh : Bool) (gd : Option GDel) (er : Option (Nat × Nat)) : (s.inject n p fx sh gd er).winRead = s.winRead := rfl
@[simp] theorem State.inject_blkOn (s : State) (n : Nat) (p : Pkt) (fx : Option (Nat × Nat)) (sh : Bool) (gd : Option GDel) (er : Option (Nat × Nat)) : (s.inject n p fx sh gd er).blkOn = s.blkOn := rfl
@[simp] theorem State.inject_blkAt (s : State) (n : Nat) (p : Pkt) (fx : Option (Nat × Nat)) (sh : Bool) (gd : Option GDel) (er : Option (Nat × Nat)) : (s.inject n p fx sh gd er).blkAt = s.blkAt := rfl
@[simp] theorem State.inject_blkRun (s : State) (n : Nat) (p : Pkt) (fx : Option (Nat × Nat)) (sh : Bool) (gd : Option GDel) (er : Option (Nat × Nat)) : (s.inject n p fx sh gd er).blkRun = s.blkRun := rfl
@[simp] theorem State.inject_regs (s : State) (n : Nat) (p : Pkt) (fx : Option (Nat × Nat)) (sh : Bool) (gd : Option GDel) (er : Option (Nat × Nat)) : (s.inject n p fx sh gd er).regs = s.regs := rfl
@[simp] theorem State.inject_evq (s : State) (n : Nat) (p : Pkt) (fx : Option (Nat × Nat)) (sh : Bool) (gd : Option GDel) (er : Option (Nat × Nat)) : (s.inject n p fx sh gd er).evq = s.evq := rfl
@[simp] theorem State.inject_out (s : State) (n : Nat) (p : Pkt) (fx : Option (Nat × Nat)) (sh : Bool) (gd : Option GDel) (er : Option (Nat × Nat)) : (s.inject n p fx sh gd er).out = s.out := rfl
@[simp] theorem State.inject_parts (s : State) (n : Nat) (p : Pkt) (fx : Option (Nat × Nat)) (sh : Bool) (gd : Option GDel) (er : Option (Nat × Nat)) : (s.inject n p fx sh gd er).parts = s.parts := rfl
@[simp] theorem State.inject_therms (s : State) (n : Nat) (p : Pkt) (fx : Option (Nat × Nat)) (sh : Bool) (gd : Option GDel) (er : Option (Nat × Nat)) : (s.inject n p fx sh gd er).therms = s.therms := rfl
@[simp] theorem State.inject_links (s : State) (n : Nat) (p : Pkt) (fx : Option (Nat × Nat)) (sh : Bool) (gd : Option GDel) (er : Option (Nat × Nat)) : (s.inject n p fx sh gd er).links = s.links := rfl
@[simp] theorem State.inject_lanes (s : State) (n : Nat) (p : Pkt) (fx : Option (Nat × Nat)) (sh : Bool) (gd : Option GDel) (er : Option (Nat × Nat)) : (s.inject n p fx sh gd er).lanes = s.lanes := rfl
@[simp] theorem State.inject_funits (s : State) (n : Nat) (p : Pkt) (fx : Option (Nat × Nat)) (sh : Bool) (gd : Option GDel) (er : Option (Nat × Nat)) : (s.inject n p fx sh gd er).funits = s.funits := rfl
@[simp] theorem State.inject_st (s : State) (n : Nat) (p : Pkt) (fx : Option (Nat × Nat)) (sh : Bool) (gd : Option GDel) (er : Option (Nat × Nat)) : (s.inject n p fx sh gd er).st = s.st := rfl
@[simp] theorem State.inject_tp (s : State) (n : Nat) (p : Pkt) (fx : Option (Nat × Nat)) (sh : Bool) (gd : Option GDel) (er : Option (Nat × Nat)) : (s.inject n p fx sh gd er).tp = s.tp := rfl
@[simp] theorem State.inject_mv (s : State) (n : Nat) (p : Pkt) (fx : Option (Nat × Nat)) (sh : Bool) (gd : Option GDel) (er : Option (Nat × Nat)) : (s.inject n p fx sh gd er).mv = s.mv := rfl
@[simp] theorem State.inject_gals (s : State) (n : Nat) (p : Pkt) (fx : Option (Nat × Nat)) (sh : Bool) (gd : Option GDel) (er : Option (Nat × Nat)) : (s.inject n p fx sh gd er).gals = s.gals := rfl
@[simp] theorem State.inject_sec (s : State) (n : Nat) (p : Pkt) (fx : Option (Nat × Nat)) (sh : Bool) (gd : Option GDel) (er : Option (Nat × Nat)) : (s.inject n p fx sh gd er).sec = s.sec := rfl
@[simp] theorem State.inject_mg (s : State) (n : Nat) (p : Pkt) (fx : Option (Nat × Nat)) (sh : Bool) (gd : Option GDel) (er : Option (Nat × Nat)) : (s.inject n p fx sh gd er).mg = s.mg := rfl
@[simp] theorem State.inject_ft (s : State) (n : Nat) (p : Pkt) (fx : Option (Nat × Nat)) (sh : Bool) (gd : Option GDel) (er : Option (Nat × Nat)) : (s.inject n p fx sh gd er).ft = s.ft := rfl
@[simp] theorem State.inject_pw (s : State) (n : Nat) (p : Pkt) (fx : Option (Nat × Nat)) (sh : Bool) (gd : Option GDel) (er : Option (Nat × Nat)) : (s.inject n p fx sh gd er).pw = s.pw := rfl
@[simp] theorem State.inject_sdb (s : State) (n : Nat) (p : Pkt) (fx : Option (Nat × Nat)) (sh : Bool) (gd : Option GDel) (er : Option (Nat × Nat)) : (s.inject n p fx sh gd er).sdb = s.sdb := rfl
@[simp] theorem State.inject_crcRun (s : State) (n : Nat) (p : Pkt) (fx : Option (Nat × Nat)) (sh : Bool) (gd : Option GDel) (er : Option (Nat × Nat)) : (s.inject n p fx sh gd er).crcRun = s.crcRun := rfl

/-! ### setFt -/
@[simp] theorem State.setFt_pending (s : State) (f : FTime → FTime) : (s.setFt f).pending = s.pending := rfl
@[simp] theorem State.setFt_now (s : State) (f : FTime → FTime) : (s.setFt f).now = s.now := rfl
@[simp] theorem State.setFt_free (s : State) (f : FTime → FTime) : (s.setFt f).free = s.free := rfl
@[simp] theorem State.setFt_ids (s : State) (f : FTime → FTime) : (s.setFt f).ids = s.ids := rfl
@[simp] theorem State.setFt_powered (s : State) (f : FTime → FTime) : (s.setFt f).powered = s.powered := rfl
@[simp] theorem State.setFt_volt (s : State) (f : FTime → FTime) : (s.setFt f).volt = s.volt := rfl
@[simp] theorem State.setFt_winEn (s : State) (f : FTime → FTime) : (s.setFt f).winEn = s.winEn := rfl
@[simp] theorem State.setFt_winRead (s : State) (f : FTime → FTime) : (s.setFt f).winRead = s.winRead := rfl
@[simp] theorem State.setFt_blkOn (s : State) (f : FTime → FTime) : (s.setFt f).blkOn = s.blkOn := rfl
@[simp] theorem State.setFt_blkAt (s : State) (f : FTime → FTime) : (s.setFt f).blkAt = s.blkAt := rfl
@[simp] theorem State.setFt_blkRun (s : State) (f : FTime → FTime) : (s.setFt f).blkRun = s.blkRun := rfl
@[simp] theorem State.setFt_regs (s : State) (f : FTime → FTime) : (s.setFt f).regs = s.regs := rfl
@[simp] theorem State.setFt_evq (s : State) (f : FTime → FTime) : (s.setFt f).evq = s.evq := rfl
@[simp] theorem State.setFt_out (s : State) (f : FTime → FTime) : (s.setFt f).out = s.out := rfl
@[simp] theorem State.setFt_parts (s : State) (f : FTime → FTime) : (s.setFt f).parts = s.parts := rfl
@[simp] theorem State.setFt_therms (s : State) (f : FTime → FTime) : (s.setFt f).therms = s.therms := rfl
@[simp] theorem State.setFt_links (s : State) (f : FTime → FTime) : (s.setFt f).links = s.links := rfl
@[simp] theorem State.setFt_lanes (s : State) (f : FTime → FTime) : (s.setFt f).lanes = s.lanes := rfl
@[simp] theorem State.setFt_funits (s : State) (f : FTime → FTime) : (s.setFt f).funits = s.funits := rfl
@[simp] theorem State.setFt_st (s : State) (f : FTime → FTime) : (s.setFt f).st = s.st := rfl
@[simp] theorem State.setFt_sw (s : State) (f : FTime → FTime) : (s.setFt f).sw = s.sw := rfl
@[simp] theorem State.setFt_tp (s : State) (f : FTime → FTime) : (s.setFt f).tp = s.tp := rfl
@[simp] theorem State.setFt_mv (s : State) (f : FTime → FTime) : (s.setFt f).mv = s.mv := rfl
@[simp] theorem State.setFt_gals (s : State) (f : FTime → FTime) : (s.setFt f).gals = s.gals := rfl
@[simp] theorem State.setFt_sec (s : State) (f : FTime → FTime) : (s.setFt f).sec = s.sec := rfl
@[simp] theorem State.setFt_mg (s : State) (f : FTime → FTime) : (s.setFt f).mg = s.mg := rfl
@[simp] theorem State.setFt_pw (s : State) (f : FTime → FTime) : (s.setFt f).pw = s.pw := rfl
@[simp] theorem State.setFt_sdb (s : State) (f : FTime → FTime) : (s.setFt f).sdb = s.sdb := rfl
@[simp] theorem State.setFt_crcRun (s : State) (f : FTime → FTime) : (s.setFt f).crcRun = s.crcRun := rfl

/-! ### setMirror -/
@[simp] theorem State.setMirror_pending (s : State) (f : Mirror → Mirror) : (s.setMirror f).pending = s.pending := rfl
@[simp] theorem State.setMirror_now (s : State) (f : Mirror → Mirror) : (s.setMirror f).now = s.now := rfl
@[simp] theorem State.setMirror_free (s : State) (f : Mirror → Mirror) : (s.setMirror f).free = s.free := rfl
@[simp] theorem State.setMirror_ids (s : State) (f : Mirror → Mirror) : (s.setMirror f).ids = s.ids := rfl
@[simp] theorem State.setMirror_powered (s : State) (f : Mirror → Mirror) : (s.setMirror f).powered = s.powered := rfl
@[simp] theorem State.setMirror_volt (s : State) (f : Mirror → Mirror) : (s.setMirror f).volt = s.volt := rfl
@[simp] theorem State.setMirror_winEn (s : State) (f : Mirror → Mirror) : (s.setMirror f).winEn = s.winEn := rfl
@[simp] theorem State.setMirror_winRead (s : State) (f : Mirror → Mirror) : (s.setMirror f).winRead = s.winRead := rfl
@[simp] theorem State.setMirror_blkOn (s : State) (f : Mirror → Mirror) : (s.setMirror f).blkOn = s.blkOn := rfl
@[simp] theorem State.setMirror_blkAt (s : State) (f : Mirror → Mirror) : (s.setMirror f).blkAt = s.blkAt := rfl
@[simp] theorem State.setMirror_blkRun (s : State) (f : Mirror → Mirror) : (s.setMirror f).blkRun = s.blkRun := rfl
@[simp] theorem State.setMirror_regs (s : State) (f : Mirror → Mirror) : (s.setMirror f).regs = s.regs := rfl
@[simp] theorem State.setMirror_evq (s : State) (f : Mirror → Mirror) : (s.setMirror f).evq = s.evq := rfl
@[simp] theorem State.setMirror_out (s : State) (f : Mirror → Mirror) : (s.setMirror f).out = s.out := rfl
@[simp] theorem State.setMirror_parts (s : State) (f : Mirror → Mirror) : (s.setMirror f).parts = s.parts := rfl
@[simp] theorem State.setMirror_therms (s : State) (f : Mirror → Mirror) : (s.setMirror f).therms = s.therms := rfl
@[simp] theorem State.setMirror_links (s : State) (f : Mirror → Mirror) : (s.setMirror f).links = s.links := rfl
@[simp] theorem State.setMirror_lanes (s : State) (f : Mirror → Mirror) : (s.setMirror f).lanes = s.lanes := rfl
@[simp] theorem State.setMirror_funits (s : State) (f : Mirror → Mirror) : (s.setMirror f).funits = s.funits := rfl
@[simp] theorem State.setMirror_st (s : State) (f : Mirror → Mirror) : (s.setMirror f).st = s.st := rfl
@[simp] theorem State.setMirror_sw (s : State) (f : Mirror → Mirror) : (s.setMirror f).sw = s.sw := rfl
@[simp] theorem State.setMirror_tp (s : State) (f : Mirror → Mirror) : (s.setMirror f).tp = s.tp := rfl
@[simp] theorem State.setMirror_mv (s : State) (f : Mirror → Mirror) : (s.setMirror f).mv = s.mv := rfl
@[simp] theorem State.setMirror_gals (s : State) (f : Mirror → Mirror) : (s.setMirror f).gals = s.gals := rfl
@[simp] theorem State.setMirror_mg (s : State) (f : Mirror → Mirror) : (s.setMirror f).mg = s.mg := rfl
@[simp] theorem State.setMirror_ft (s : State) (f : Mirror → Mirror) : (s.setMirror f).ft = s.ft := rfl
@[simp] theorem State.setMirror_pw (s : State) (f : Mirror → Mirror) : (s.setMirror f).pw = s.pw := rfl
@[simp] theorem State.setMirror_sdb (s : State) (f : Mirror → Mirror) : (s.setMirror f).sdb = s.sdb := rfl
@[simp] theorem State.setMirror_crcRun (s : State) (f : Mirror → Mirror) : (s.setMirror f).crcRun = s.crcRun := rfl

/-! ### atOnce: the queue, the clock and the lines are the old state's -/
@[simp] theorem State.atOnce_pending (s t : State) : (s.atOnce t).pending = s.pending := rfl
@[simp] theorem State.atOnce_now (s t : State) : (s.atOnce t).now = s.now := rfl
@[simp] theorem State.atOnce_free (s t : State) : (s.atOnce t).free = t.free := rfl
@[simp] theorem State.atOnce_ids (s t : State) : (s.atOnce t).ids = t.ids := rfl
@[simp] theorem State.atOnce_powered (s t : State) : (s.atOnce t).powered = s.powered := rfl
@[simp] theorem State.atOnce_volt (s t : State) : (s.atOnce t).volt = t.volt := rfl
@[simp] theorem State.atOnce_winEn (s t : State) : (s.atOnce t).winEn = s.winEn := rfl
@[simp] theorem State.atOnce_winRead (s t : State) : (s.atOnce t).winRead = t.winRead := rfl
@[simp] theorem State.atOnce_blkOn (s t : State) : (s.atOnce t).blkOn = t.blkOn := rfl
@[simp] theorem State.atOnce_blkAt (s t : State) : (s.atOnce t).blkAt = t.blkAt := rfl
@[simp] theorem State.atOnce_blkRun (s t : State) : (s.atOnce t).blkRun = t.blkRun := rfl
@[simp] theorem State.atOnce_regs (s t : State) : (s.atOnce t).regs = t.regs := rfl
@[simp] theorem State.atOnce_evq (s t : State) : (s.atOnce t).evq = t.evq := rfl
@[simp] theorem State.atOnce_out (s t : State) : (s.atOnce t).out = t.out := rfl
@[simp] theorem State.atOnce_parts (s t : State) : (s.atOnce t).parts = t.parts := rfl
@[simp] theorem State.atOnce_therms (s t : State) : (s.atOnce t).therms = t.therms := rfl
@[simp] theorem State.atOnce_links (s t : State) : (s.atOnce t).links = t.links := rfl
@[simp] theorem State.atOnce_lanes (s t : State) : (s.atOnce t).lanes = t.lanes := rfl
@[simp] theorem State.atOnce_funits (s t : State) : (s.atOnce t).funits = t.funits := rfl
@[simp] theorem State.atOnce_st (s t : State) : (s.atOnce t).st = t.st := rfl
@[simp] theorem State.atOnce_sw (s t : State) : (s.atOnce t).sw = t.sw := rfl
@[simp] theorem State.atOnce_tp (s t : State) : (s.atOnce t).tp = t.tp := rfl
@[simp] theorem State.atOnce_mv (s t : State) : (s.atOnce t).mv = t.mv := rfl
@[simp] theorem State.atOnce_gals (s t : State) : (s.atOnce t).gals = t.gals := rfl
@[simp] theorem State.atOnce_sec (s t : State) : (s.atOnce t).sec = t.sec := rfl
@[simp] theorem State.atOnce_mg (s t : State) : (s.atOnce t).mg = t.mg := rfl
@[simp] theorem State.atOnce_ft (s t : State) : (s.atOnce t).ft = t.ft := rfl
@[simp] theorem State.atOnce_pw (s t : State) : (s.atOnce t).pw = t.pw := rfl
@[simp] theorem State.atOnce_sdb (s t : State) : (s.atOnce t).sdb = t.sdb := rfl
@[simp] theorem State.atOnce_crcRun (s t : State) : (s.atOnce t).crcRun = t.crcRun := rfl

@[simp] theorem State.event_evq (s : State) (u code : Nat) (x : Src) (sl : Option Nat) :
    (s.event u code x sl).evq = s.evq ++ [{ unit := u, code, src := x, slice := sl }] := rfl
@[simp] theorem State.emit_out (s : State) (x : Out) : (s.emit x).out = s.out ++ [x] := rfl

end Sys2Proof.Machine
end

