-- ==== Sys2Proof/Tests/Slice0.lean ====
section
/-! SUPPORT. The model's own tests. `wit_…`: for each statement with hypotheses, a state and operands that meet them, one
conjunct for each clause. `test_…`: single steps, with results from the rules of spec/ cited beside them. -/

namespace Sys2Proof.Tests

open Sys2Proof.Machine Sys2Proof

set_option Elab.async false

/-! ### Ill-formed commands: one for each check -/

theorem test_wf_partition : Instr.wf (.partitionClear 6) = false ∧ Instr.wf (.partitionClear 5) = true := by decide
theorem test_wf_sensor : Instr.wf (.droopTrip 24) = false ∧ Instr.wf (.thermalStale 12) = false := by decide
theorem test_wf_edge_port : Instr.wf (.pushSlotFreed 12) = false := by decide
theorem test_wf_queue : Instr.wf (.put 1048576) = false ∧ Instr.wf (.put 1048575) = true := by decide
theorem test_wf_lane : Instr.wf (.laneBlockLock 192) = false := by decide
theorem test_wf_port : Instr.wf (.trainReceive 18 default) = false := by decide
theorem test_wf_mark : Instr.wf (.markReceive 0 [{ lane := 8, idx := 0, mask := 0, skew := 0 }]) = false
    ∧ Instr.wf (.markReceive 12 [{ lane := 8, idx := 0, mask := 0, skew := 0 }]) = true := by decide
theorem test_wf_credit_channel : Instr.wf (.creditReceive 0 16 0) = false := by decide
theorem test_wf_lane_event : Instr.wf (.linkPacketReceive 0 [] none [.overrun 192]) = false := by decide
theorem test_wf_admission : AdmitSrc.wf (.recv 18 0) = false ∧ AdmitSrc.wf (.recv 0 12) = false
    ∧ AdmitSrc.wf (.built 6) = false := by decide
theorem test_wf_output : Instr.wf (.outputSelect 0 5 none) = false ∧ Instr.wf (.outputSelect 0 0 (some (.tile 98304 0))) = false := by decide
theorem test_wf_frame_index : Instr.wf (.retransmitTimer 0 128) = false := by decide
theorem test_wf_tag : Instr.wf (.edgeRequestTimeout 0 256) = false := by decide
theorem test_wf_gallery : Instr.wf (.stepTimeout 4096) = false ∧ Instr.wf (.actionNop 0 16384) = false
    ∧ Instr.wf (.actionWait 0 0 16777216) = false := by decide
theorem test_wf_node : Instr.wf (.epochCtlTimeout 4096) = false := by decide
theorem test_wf_rate : Instr.wf (.rateIncrease 64 0) = false ∧ Instr.wf (.rateIncrease 0 65536) = false := by decide
theorem test_wf_fault_unit : Instr.wf (.faultAckDeadline 7 1) = false ∧ Instr.wf (.faultAckDeadline 0 0) = false
    ∧ Instr.wf (.faultAckDeadline 0 4) = false := by decide
theorem test_wf_engine : Instr.wf (.engineStall 0 (.core 8)) = false ∧ Instr.wf (.engineStall 0 (.copyEngine 2)) = false := by decide

/-! ### Helpers -/

/-- The state after reset, at time `t`. -/
def at' (t : Nat) : State := { State.reset with now := t }
/-- A second after reset. -/
def late : State := at' (ms 1000000)
/-- The state a command answers. -/
def ex (c : Instr) (s : State) : State := match exec c s with | .next t => t | _ => s
/-- Commands one after another. -/
def run (s : State) (l : List Instr) : State := l.foldl (fun s c => ex c s) s
/-- A management command with words 0, 2 and 3. -/
def mcmd (w0 w2 w3 : Nat) : Cmd :=
  { w0 := BitVec.ofNat 64 w0, w1 := 0, w2 := BitVec.ofNat 64 w2, w3 := BitVec.ofNat 64 w3, w4 := 0, w5 := 0, w6 := 0, w7 := 0 }
/-- The state with command `c` fetched. -/
def fetched (s : State) (c : Cmd) : State := { s with mg := { s.mg with fetched := [c] } }
/-- The state with port `c` in a link state. -/
def port (s : State) (c st : Nat) : State := s.setFld (statReg c) portStat_STATE st
/-- A cell of an opcode, from endpoint `src` to `dst`, with a descriptor and 28 payload bytes. -/
def cell (opc src dst : Nat) (pay : List Byte) : Pkt :=
  mkCell (State.reset.hdr src dst 0 clREQ 0 opc 0 0 0) pay
/-- The state with packets delivered in partition 0. -/
def inbox (s : State) (l : List Pkt) : State :=
  { s with sw := { s.sw with inbox := l.map (fun p => { part := 0, pkt := p, inPort := none, arr := 0 }) } }

/-! ### Witnesses: the queue, the clock and the whole machine -/

theorem wit_StepRunsFront :
    ({ State.reset with pending := [Instr.wearTick, .heartbeat] } : State).pending = Instr.wearTick :: [.heartbeat] := by decide
theorem wit_EmptyQueuePassesAnEdge : State.reset.pending = [] := by decide
theorem wit_EveryCommandCompletes : Instr.wf (.partitionClear 5) = true ∧ isPowerLine (.partitionClear 5) = false
    ∧ Instr.wf (.partitionClear 6) = false := by decide
theorem wit_QueueInvariant : ({ State.reset with pending := [Instr.wearTick, .partitionClear 5] } : State).queueOk = true := by decide
theorem wit_UnpoweredHoldsNothing :
    (ex .blockPowerOff State.reset).powered = false ∧ (ex .blockPowerOff State.reset).regs = []
      ∧ (ex .blockPowerOff State.reset).evq = [] ∧ (ex .blockPowerOff State.reset).sw = Switch.init
      ∧ (ex .blockPowerOff State.reset).tp = Transport.init ∧ (ex .blockPowerOff State.reset).mv = Moves.init
      ∧ (ex .blockPowerOff State.reset).gals = [] ∧ (ex .blockPowerOff State.reset).sec = Sec.init
      ∧ (ex .blockPowerOff State.reset).st.lines = [] ∧ (ex .blockPowerOff State.reset).st.reqs = []
      ∧ (ex .blockPowerOff State.reset).blkRun = false
      ∧ (match step (ex .blockPowerOff State.reset) with | .next _ => true | _ => false) = true := by decide +kernel
theorem wit_SettledWhenQuiet : State.reset.quiet = true := by decide
theorem wit_DeadBlockIsUntouched : Instr.wf (.partitionClear 5) = true ∧ (ex .blockPowerOff State.reset).powered = false
    ∧ isLine (.partitionClear 5) = false := by decide
theorem wit_FabricTimeAddsSixteen : State.reset.pending = [] ∧ State.reset.powered = true ∧ State.reset.blkRun = false
    ∧ State.reset.blkOn = false ∧ State.reset.ft.lost = false ∧ State.reset.ft.tref = true ∧ State.reset.ft.slew = 0
    ∧ State.reset.ft.trim = 0 := by decide

/-! ### Witnesses: registers, memory and formats -/

theorem wit_RegisterMapRoundTrip : Reg.ofAddr 0 = some .id ∧ Reg.ofAddr (Reg.rcvStat 5).addr = some (.rcvStat 5)
    ∧ Reg.ofAddr (Reg.rtab 1 0x17FFF).addr = some (.rtab 1 0x17FFF) := by decide +kernel
theorem wit_AccessCodesHold : (Reg.rcvStat 0).addr ≠ (Reg.rcvStat 1).addr := by decide
theorem wit_StoreReadsBack : (0 : Nat) < 1 ∧ 1 + ([5] : List Byte).length ≤ 2 := by decide
theorem wit_TilesPass : 0 + (List.replicate 4096 (1 : Byte)).length ≤ 4096 ∧ 4095 + ([1] : List Byte).length ≤ 4096
    ∧ (List.replicate 4096 (1 : Byte)).length = 4096 ∧ 3 ≤ 12288 / 4096 ∧ 12288 / 4096 < 4 ∧ ¬ (3 ≤ 12287 / 4096) := by
  decide +kernel
/-- A cell of 48 bytes, and a gallery frame. -/
def aCell : Pkt := cell opGET 0 1 (List.replicate 48 7)
theorem wit_PacketRoundTrip : aCell.isFrame = false ∧ aCell.h.len.toNat = 48 ∧ aCell.ext = 0 ∧ aCell.e2e = 0 ∧ aCell.pay.length = 48
    ∧ (mkFrame aCell.h 0 (List.replicate 256 1)).isFrame = true := by decide +kernel
/-- A command push in a frame of 64 bytes. -/
def aPush (q : Nat) (c : Cmd) : Pkt := mkFrame { aCell.h with opc := BitVec.ofNat 8 opPUSH } q c.bytes
theorem wit_PacketRoundTrip_frame : (aPush 7 (mcmd 0 0 0)).isFrame = true
    ∧ frameLen (aPush 7 (mcmd 0 0 0)).opc (aPush 7 (mcmd 0 0 0)).ext.toNat = some (aPush 7 (mcmd 0 0 0)).pay.length := by
  decide +kernel
theorem wit_FieldsRoundTrip :
    ({ rreg := 2 ^ 20 - 1, roff := 2 ^ 44 - 1, key := 65535, sync := 65535, qid := 2 ^ 20 - 1, seq := 65535, tlen := 2 ^ 21 - 1,
       fidx := 127 } : Desc).rreg < 2 ^ 20 ∧ (2 ^ 44 - 1) < 2 ^ 44 ∧ 65535 < 2 ^ 16 ∧ (2 ^ 21 - 1) < 2 ^ 21 ∧ 127 < 2 ^ 7
      ∧ 4095 < 2 ^ 12 ∧ 255 < 2 ^ 8 ∧ (2 ^ 24 - 1) < 2 ^ 24 ∧ (2 ^ 14 - 1) < 2 ^ 14 ∧ (2 ^ 32 - 1) < 2 ^ 32 := by decide

/-! ### Witnesses: power, reset lines and the debug window -/

/-- The system areas are zeroed. -/
def ready : State := ex .systemAreaInitDone State.reset
/-- The mirror copy is up to date, and a hold began at 0. -/
def mheld : State := (ready.setFld .dsStat dsStat_MSYNC 1).setMirror (fun m => { m with held := some 0 })
theorem wit_SystemAreasAndMirrorComplete :
    (State.reset.isLive = true ∧ State.reset.fld .dsStat dsStat_SYSRDY = 0 ∧ State.reset.mg.tabWait = false)
    ∧ (ready.isLive = true ∧ ready.fld .dsStat dsStat_SYSRDY = 1 ∧ ready.fld .dsStat dsStat_MSYNC = 0 ∧ ready.sec.mirror.pend = [])
    ∧ (mheld.isLive = true ∧ mheld.fld .dsStat dsStat_MSYNC = 1 ∧ mheld.sec.mirror.held.isSome = true
      ∧ mheld.sec.mirror.scanned = false)
    ∧ (let s : State := { mheld with now := ms 10 }
      s.isLive = true ∧ s.sec.mirror.held = some 0 ∧ 0 + ms 10 ≤ s.now ∧ s.sec.mirror.waiting = [] ∧ s.mg.tabWait = false) := by
  decide +kernel
/-- The line of partition 5 asserted at 0, at time `t`. -/
def lined (t : Nat) : State := { ex (.partitionResetAssert 5) State.reset with now := t }
/-- The block's line asserted at 0, at time `t`. -/
def blkd (t : Nat) : State := { ex .blockResetAssert State.reset with now := t }
theorem wit_ResetLines :
    (State.reset.part 5).lineOn = false
    ∧ ((lined (ns 20)).isLive = true ∧ ((lined (ns 20)).part 5).lineOn = true ∧ ((lined (ns 20)).part 5).lineTaken = false
      ∧ ((lined (ns 20)).part 5).lineAt + ns 20 ≤ (lined (ns 20)).now)
    ∧ ((lined 79).isLive = true ∧ ((lined 79).part 5).lineOn = true ∧ ((lined 79).part 5).lineTaken = false
      ∧ (lined 79).now < ((lined 79).part 5).lineAt + ns 20)
    ∧ (let s := ex (.partitionResetLineTake 5) (lined (ns 20))
      s.isLive = true ∧ (s.part 5).lineOn = true ∧ (s.part 5).lineTaken = true ∧ s.pstate 5 = ptHELD)
    ∧ (State.reset.blkOn = false ∧ (blkd (ns 20)).isLive = true ∧ (blkd (ns 20)).blkOn = true
      ∧ (blkd (ns 20)).blkAt + ns 20 ≤ (blkd (ns 20)).now)
    ∧ ((blkd 79).isLive = true ∧ (blkd 79).blkOn = true ∧ (blkd 79).now < (blkd 79).blkAt + ns 20)
    ∧ (let s := (blkd (ns 20)).blockLineDue
      s.blkOn = true ∧ s.blkRun = true ∧ (ex .blockResetRelease s).powered = true ∧ (ex .blockResetRelease s).blkRun = true
        ∧ (ex .blockResetRelease s).blkOn = false) := by decide +kernel
/-- Partition 5 clearing, step 3 not yet done, and done. -/
def clearing (done : Bool) : State :=
  (State.reset.setFld (.rcvStat 5) rcvStat_PSTATE ptCLEARING).setPart 5 (fun p => { p with rst := true, cleared := done })
theorem wit_PartitionSequences :
    ((clearing false).isLive = true ∧ (clearing false).pstate 5 = ptCLEARING ∧ ((clearing false).part 5).cleared = false
      ∧ (clearing false).voltOk = true)
    ∧ ((clearing true).pstate 5 = ptCLEARING ∧ ((clearing true).part 5).cleared = true ∧ (clearing true).genRested 5 = true
      ∧ (clearing true).endsOos 5 = false)
    ∧ (((clearing true).setPart 5 (fun p => { p with thermOos := true })).endsOos 5 = true)
    ∧ (let s : State := { State.reset.setPart 5 (fun p => { p with resetAt := [0] }) with now := ms 900000 }
      (s.part 5).resetAt = 0 :: [] ∧ 0 + ms (1000 * s.fld .hangCfg hangCfg_ESCW) ≤ s.now)
    ∧ (let s := State.reset.setFld (.pstate 5) pstate_STATE 2
      s.isLive = true ∧ s.pwState 5 = 2 ∧ s.sw.copies.all (fun x => x.part ≠ 5) = true)
    ∧ ((State.reset.setFld (.pstate 5) pstate_STATE 4).pwState 5 = 4 ∧ (State.reset.setFld (.pstate 5) pstate_STATE 4).voltOk = true) := by decide +kernel
theorem wit_DebugWindow :
    (State.reset.isLive = true ∧ State.reset.winEn = false)
    ∧ (let s := ex (.windowEnableChange true) State.reset
      let a := BitVec.ofNat 32 Reg.ctl.addr
      s.isLive = true ∧ s.winEn = true ∧ a.toNat % 8 = 0 ∧ Reg.ofAddr a.toNat = some .ctl ∧ Reg.ctl.addr ≠ Reg.interpCtl.addr
        ∧ heldByMirror s .ctl = false ∧ s.mg.interp = .running ∧ s.mg.att = none) := by decide +kernel

/-! ### Witnesses: the key port -/

/-- A record of operation `op` on slot `k` for slice `sl`. -/
def krec (op k sl : Nat) (w1 : Word := 0) : KeyRec :=
  { w0 := BitVec.ofNat 64 (op + k <<< 8 + sl <<< 24), w1, w2 := 0, w3 := 0, w4 := 0 }
/-- Slice 1 active with its four link keys loaded and in use. -/
def keyed : State := run (State.reset.setFld (.slice 1) slice_STATE 1)
  [.keyPortLoad (krec 1 4 0), .keyPortActivate (krec 2 4 0), .keyPortLoad (krec 1 5 0), .keyPortActivate (krec 2 5 0),
   .keyPortLoad (krec 1 6 0), .keyPortActivate (krec 2 6 0), .keyPortLoad (krec 1 7 0), .keyPortActivate (krec 2 7 0)]
/-- Slice 1 confidential, with a content key in slot 271. -/
def conf1 : State := run keyed [.keyPortConf (krec 4 0 1 1), .keyPortLoad (krec 1 271 0)]
theorem wit_KeyPort :
    keyed.isLive = true
    ∧ (krOk (krec 1 271 0) = true ∧ keyed.keyCond (krec 1 271 0) = true ∧ fget (krec 1 271 0).w0 krOP = 1)
    ∧ (krOk (krec 2 4 0) = true ∧ keyed.keyCond (krec 2 4 0) = true ∧ fget (krec 2 4 0).w0 krOP = 2)
    ∧ (krOk (krec 3 271 0) = true ∧ keyed.keyCond (krec 3 271 0) = true ∧ fget (krec 3 271 0).w0 krOP = 3)
    ∧ (krOk (krec 4 0 1 1) = true ∧ keyed.keyCond (krec 4 0 1 1) = true ∧ fget (krec 4 0 1).w0 krOP = 4
      ∧ (krec 4 0 1 1).w1.getLsbD 0 = true ∧ keyed.keyCond (krec 4 0 1) = true ∧ (krec 4 0 1).w1.getLsbD 0 = false)
    ∧ (conf1.isLive = true ∧ krOk (krec 5 271 1) = true ∧ conf1.keyCond (krec 5 271 1) = true ∧ fget (krec 5 271 1).w0 krOP = 5)
    ∧ (keyed.keyCond (krec 6 0 0) = true ∧ fget (krec 6 0 0).w0 krOP = 6 ∧ keyed.keyCond (krec 7 0 0) = true
      ∧ fget (krec 7 0 0).w0 krOP = 7 ∧ keyed.keyCond (krec 8 0 0) = true ∧ fget (krec 8 0 0).w0 krOP = 8 ∧ krOk (krec 8 0 0) = true)
    ∧ (krOk (krec 9 4 0) = true ∧ keyed.keyCond (krec 9 4 0) = true ∧ fget (krec 9 4 0).w0 krOP = 9)
    ∧ (krOk (krec 1 272 0) && keyed.keyCond (krec 1 272 0)) = false
    ∧ krSlot (krec 1 271 0) ≤ 271 := by decide +kernel
theorem wit_PayloadNeedsGrant :
    (let c := mcmd 0x81 (Reg.sample 5).addr (2 ^ sample_PAYLOAD.lo)
      let s := fetched State.reset c
      s.isLive = true ∧ (s.mgmtFirst = some c ∧ c.reservedFail = none) ∧ c.opc = 0x81 ∧ cmdReg c = some (.sample 5) ∧ fget c.w3 sample_PAYLOAD = 1
        ∧ nbit (s.fld .secStat secStat_GRANT) 5 = false)
    ∧ (krOk (krec 6 0 0) = true ∧ fget (krec 6 0 0).w0 krOP = 6 ∧ nbit (fget (krec 6 0 0).w1 ⟨0, 6⟩) 5 = false) := by
  decide +kernel

/-! ### Witnesses: pace, power, temperature and time -/

/-- Sensor 23 tripped at 0, at time `t`. -/
def tripped (t : Nat) : State := { ex (.droopTrip 23) State.reset with now := t }
/-- It has cleared at 100 ns, at time `t`. -/
def cleared (t : Nat) : State := { ex (.droopClear 23) (tripped (ns 100)) with now := t }
theorem wit_DroopAndThermalRows_droop :
    (State.reset.isLive = true ∧ State.reset.dormant (23 / 4) = false
      ∧ (State.reset.part (23 / 4)).trips.any (fun x => x.1 = 23) = false)
    ∧ ((tripped 0).isLive = true ∧ ((tripped 0).part (23 / 4)).trips.any (fun x => x.1 = 23) = true)
    ∧ (let s := cleared (ns 300)
      (s.part 5).trips = [] ∧ (s.part 5).descends = false ∧ 0 < s.fld (.paceStat 5) paceStat_SDROOP
        ∧ (s.part 5).dClearAt + ns (10 * s.fld .paceCfg paceCfg_DHOLD) ≤ s.now)
    ∧ (let s := { ex (.droopHoldExpiry 5) (cleared (ns 300)) with now := ns 350 }
      s.isLive = true ∧ (s.part 5).descends = true ∧ 0 < s.fld (.paceStat 5) paceStat_SDROOP ∧ (s.part 5).dStepAt + ns 50 ≤ s.now)
    ∧ (let s := tripped (ms 1)
      s.isLive = true ∧ s.dormant (23 / 4) = false ∧ (s.part (23 / 4)).trips = [(23, 0)] ∧ 0 + ms 1 ≤ s.now ∧ (s.part (23 / 4)).stuck = []) := by decide +kernel
theorem wit_DroopAndThermalRows_thermal :
    State.reset.dormant (11 / 2) = false
    ∧ (let s := at' (us 100)
      s.isLive = true ∧ s.dormant (11 / 2) = false ∧ s.fld (.therm 11) therm_STALE = 0
        ∧ s.therms[11]? = some { lastAt := 0, hotAt := none } ∧ 0 + us 100 ≤ s.now ∧ s.dormant 5 = false
        ∧ (s.part 5).thermAt + us 100 ≤ s.now)
    ∧ (let s := { ex (.thermalReading 11 0x1E0) State.reset with now := ms 1 }
      s.isLive = true ∧ s.therms[11]? = some { lastAt := 0, hotAt := some 0 } ∧ 0 + ms 1 ≤ s.now
        ∧ s.fld (.therm 11) therm_STALE = 0 ∧ s.asleep (11 / 2) = false ∧ s.pstate (11 / 2) ≠ ptOOS) := by decide +kernel
theorem wit_PaceIsTheLargestDemand : paceStat_SPWR ∈ [paceStat_SDROOP, paceStat_SPWR, paceStat_STHERM] ∧ 15 < 16
    ∧ paceStat_SDROOP ≠ paceStat_SPWR ∧ Reg.pwrStat.addr ≠ (Reg.paceStat 0).addr := by decide
/-- Power demand 8, reached at 0, at time `t` with an estimate above the cap. -/
def capped (t : Nat) : State :=
  { (State.reset.setFld .pwrStat pwrStat_EST 511) with now := t, pw := { State.reset.pw with demand := 8 } }
theorem wit_PowerWearAndReplica :
    (State.reset.isLive = true ∧ State.reset.pw.demand ≤ 8)
    ∧ (0 < (capped (us 10)).pw.demand ∧ (capped (us 10)).pw.lowAt + us 10 ≤ (capped (us 10)).now)
    ∧ (let s := capped (us 100)
      s.isLive = true ∧ s.pw.demand = 8 ∧ s.pw.rep = false ∧ s.pw.heldAt + us 100 ≤ s.now ∧ s.cap < s.fld .pwrStat pwrStat_EST)
    ∧ (let s := at' (ms 1000)
      s.runs 5 = true ∧ (s.part 5).wearAt + ms 1000 ≤ s.now ∧ s.asleep 5 = false ∧ (s.part 5).measAt + ms 1 ≤ s.now)
    ∧ (clearing true).runs 5 = false := by decide +kernel
/-- A node that synchronises to port 12, which is in UP. -/
def syncing : State :=
  port (((State.reset.setFld .ftCfg ftCfg_EN 1).setFld .ftCfg ftCfg_PARENT 12).setFld .ftCfg ftCfg_ALT 31) 12 psUP
/-- A TIME_SYNC payload of a kind, with sequence number 0. -/
def syncPkt (kind : Nat) : Pkt := { cell opTIMESYNC 0 0 (syncPay kind 0 0 0 0) with h := { aCell.h with opc := BitVec.ofNat 8 opTIMESYNC } }
/-- One delivered from port 12. -/
def synced (kind : Nat) : State :=
  { syncing with sw := { syncing.sw with inbox := [{ part := 0, pkt := syncPkt kind, inPort := some 12, arr := 0 }] }
                 ft := { syncing.ft with req := some (0, 12, 0) } }
theorem wit_FabricTimeRows :
    State.reset.ft.lost = false
    ∧ (let s := ex .trefLoss State.reset
      s.isLive = true ∧ s.ft.tref = false ∧ s.ft.lost = true ∧ s.fts = fsFREE)
    ∧ (let s := (ex .trefLoss State.reset).setFld .ftStat ftStat_STATE fsLOCKED
      s.ft.tref = false ∧ s.ft.lost = true ∧ s.fts ≠ fsFREE)
    ∧ (let s := (at' (us 30)).setFld .ftStat ftStat_STATE fsLOCKED
      s.fts = fsLOCKED ∧ s.ft.usedAt + us 30 ≤ s.now)
    ∧ (let s := (at' (ms 1)).setFld .ftStat ftStat_STATE fsHOLDOVER
      s.fts = fsHOLDOVER ∧ s.ft.heldAt + ms 1 ≤ s.now)
    ∧ (let s : State := { syncing with now := us 10 }
      s.isLive = true ∧ s.fld .ftCfg ftCfg_EN = 1 ∧ 12 ≤ s.fld .ftCfg ftCfg_PARENT ∧ s.fld .ftCfg ftCfg_PARENT ≤ 17
        ∧ s.ft.sendAt + us 10 ≤ s.now ∧ s.ft.req = none ∧ s.runs (portPart s.syncPort) = true)
    ∧ ((synced 1).isLive = true ∧ (match (synced 1).syncTake 1 with
      | some (e, u) => decide (12 ≤ e.port) && u.up e.port
      | none => false) = true)
    ∧ ((synced 2).isLive = true ∧ (match (synced 2).syncTake 2 with
      | some (e, u) => decide (u.ft.req = some (0, 12, 0) ∧ u.fld .ftCfg ftCfg_EN = 1 ∧ u.master = false
          ∧ bytesNat (Machine.slice e.pkt.pay 1 1) = 0 ∧ e.port = 12)
      | none => false) = true) := by decide +kernel
theorem wit_SamplesCorrectTime : (0xFE : Nat) < 0xFF ∧ us 2 ≤ 0 + us 2 ∧ (256 : Int) < ((1000 - 0) - (0 - 0)) / 2
    ∧ (((512 : Int) - 0) - (0 - 0)) / 2 ≤ 256 := by decide

/-! ### Witnesses: the buses and ports -/

/-- A read of lane 191 on the SerDes bus, begun at 0. -/
def bussed : State := { State.reset with sdb := { acc := some (191, false), goAt := 0, queue := [] }, now := us 2 }
theorem wit_SerdesBus :
    (bussed.isLive = true ∧ bussed.sdb.acc = some (191, false) ∧ bussed.sdb.goAt + us 2 ≤ bussed.now)
    ∧ (let v : Word := fset (fset 0 sdbCmd_GO 1) sdbCmd_LANE 192
      fget v sdbCmd_GO = 1 ∧ (State.reset.setFld .sdbCmd sdbCmd_GO 1).fld .sdbCmd sdbCmd_GO = 1
        ∧ State.reset.fld .sdbCmd sdbCmd_GO = 0 ∧ 191 < fget v sdbCmd_LANE)
    ∧ (let v : Word := fset (fset 0 sdbCmd_GO 1) sdbCmd_LANE 191
      fget v sdbCmd_GO = 1 ∧ State.reset.fld .sdbCmd sdbCmd_GO = 0 ∧ fget v sdbCmd_LANE ≤ 191) := by decide +kernel
/-- A request of a kind to the memory port, for 8 bytes of tile 0x20000. -/
def mreq (k : MKind) (thru : Bool) : MReq :=
  { id := 7, part := some 0, tile := 0x20000, kind := k, lo := 0, len := 8, data := [1, 2, 3, 4, 5, 6, 7, 8], at' := 0, job := 1, off := 0, thru }
/-- The state with it waiting, at time `t`. -/
def waiting (k : MKind) (thru : Bool) (t : Nat) : State :=
  { State.reset with st := { State.reset.st with reqs := [mreq k thru], clear := [(0, 0x40000)] }, now := t }
/-- The witness of one kind: the request waits in its turn, with what its tile answers. -/
def memOk (k : MKind) (m : MemMark) (st : Option Nat) : Bool :=
  let s := waiting k false 0
  s.isLive && decide (s.memReq 7 = some (mreq k false) ∧ s.memBehind (mreq k false) = false ∧ (s.tileCheck 0x20000 m).1 = st)
theorem wit_MemoryPort :
    (memOk .read .clean none = true ∧ memOk .read .uncorrectable (some stPOISON) = true ∧ memOk .merge .clean none = true
      ∧ memOk .write .clean none = true ∧ MKind.read ≠ .write ∧ MKind.read ≠ .merge ∧ (mreq .write false).thru = false)
    ∧ (let s := waiting .read false (us 10)
      s.isLive = true ∧ s.memReq 7 = some (mreq .read false) ∧ s.memBehind (mreq .read false) = false
        ∧ (mreq .read false).at' + us 10 ≤ s.now)
    ∧ (let s : State := { State.reset with st := { State.reset.st with poison := [5] } }
      5 ∈ s.st.poison ∧ firstChecked ≤ 0x20000 ∧ 0x20000 ∉ s.st.poison ∧ firstChecked - 1 < firstChecked)
    ∧ State.reset.st.check 0x20000 ≠ State.reset.st.tileCrc 0x20000 := by decide +kernel
theorem wit_WriteThroughFrame :
    let s := waiting .write true 0
    s.isLive = true ∧ s.quiet = true ∧ s.memReq 7 = some (mreq .write true) ∧ s.memBehind (mreq .write true) = false
      ∧ (mreq .write true).kind = .write ∧ (mreq .write true).thru = true := by decide +kernel
/-- A management-memory access of 8 bytes, begun at 0; `op`: an atomic. -/
def mgr (wr : Bool) (op : Option (Nat × Nat × Nat)) : MgReq :=
  { id := 7, wr, op, old := [], addr := 0, len := 8, data := [], at' := 0, job := 1, off := 0 }
/-- The state with it outstanding, and with command fetching enabled. -/
def mgd (wr : Bool) (op : Option (Nat × Nat × Nat)) : State :=
  { State.reset with mv := { State.reset.mv with mgreq := [mgr wr op] }, now := us 4 }
/-- Fetching enabled, one command in the ring. -/
def fetching : State :=
  ((State.reset.setFld .mqCfg mqCfg_CLOG2 4).setFld .mqCfg mqCfg_RLOG2 4).setFld .mqCfg mqCfg_EN 1 |>.setFld .mqTail mqTail_TAIL 1
theorem wit_ManagementPort :
    (fetching.isLive = true ∧ fetching.mayFetch = true)
    ∧ (let s : State := { fetching with mg := { fetching.mg with fetch := some (7, 0) }, now := us 4 }
      s.isLive = true ∧ s.mv.mgreq.find? (fun x => x.id = 7) = none ∧ s.mg.fetch = some (7, 0) ∧ 0 + us 4 ≤ s.now)
    ∧ (∀ wr ∈ [true, false], ∀ op ∈ [none, some (0, 1, 2)],
      (mgd wr op).isLive = true ∧ (mgd wr op).mv.mgreq.find? (fun x => x.id = 7) = some (mgr wr op)
        ∧ (mgr wr op).at' + us 4 ≤ (mgd wr op).now ∧ (mgd wr op).mgBehind (mgr wr op) = false) := by decide +kernel

/-! ### Witnesses: queues -/

/-- A context of queue 7 on port 0, slice 0, of a state, with 63 credits and `infl` used. -/
def qctx (st infl : Nat) : QCtx :=
  { qid := 7, w0 := fset (fset (fset (fset 0 qSTATE st) qPORT 0) qSLICE 0) qCREDITS 63, w1 := 0, w2 := fset 0 qINFL infl }
/-- A push to queue `q` delivered from port 0, with context `x` on die. -/
def pushed (p : Pkt) (l : List QCtx) : State :=
  { State.reset with sw := { State.reset.sw with inbox := [{ part := 0, pkt := p, inPort := some 0, arr := 0 }] }
                     tp := { State.reset.tp with ctxs := l } }
/-- The push the next one to take. -/
def pushOk (p : Pkt) (l : List QCtx) : Bool :=
  let s := pushed p l
  s.isLive && decide (s.sw.inbox.find? s.pushReady = some { part := 0, pkt := p, inPort := some 0, arr := 0 })
theorem wit_QueuePushes :
    (pushOk (aPush 0 (mcmd 0 0 0)) [] = true ∧ nfld (aPush 0 (mcmd 0 0 0)).ext.toNat 0 20 = 0)
    ∧ (let p := aPush 7 (mcmd 0 0 0)
      p.e2e = p.e2eOf ∧ nfld p.ext.toNat 0 20 = 7 ∧ nfld p.ext.toNat 0 20 ≠ 0
        ∧ (pushOk p [qctx qsFREE 0] = true ∧ (pushed p [qctx qsFREE 0]).ctxDie 7 = some (qctx qsFREE 0)
          ∧ fget (qctx qsFREE 0).w0 qSTATE ≠ qsACTIVE)
        ∧ (pushOk p [qctx qsACTIVE 62] = true ∧ (pushed p [qctx qsACTIVE 62]).ctxDie 7 = some (qctx qsACTIVE 62)
          ∧ fget (qctx qsACTIVE 62).w0 qPORT = 0 ∧ fget (qctx qsACTIVE 62).w0 qSTATE = qsACTIVE
          ∧ (pushed p []).conf (fget (qctx qsACTIVE 62).w0 qSLICE) = false
          ∧ fget (qctx qsACTIVE 62).w2 qINFL < fget (qctx qsACTIVE 62).w0 qCREDITS)
        ∧ (pushOk p [] = true ∧ (pushed p []).ctxDie 7 = none))
    ∧ (let w : PushW := { port := 11, qid := 1048575, cmd := mcmd 0 0 0, slot := true }
      let s : State := { ready with tp := { ready.tp with pushW := [w] } }
      let u : State := { s with tp := { s.tp with pushW := dropFirst (fun w => decide (w.qid = 1048575) && w.slot) s.tp.pushW } }
      s.isLive = true ∧ s.tp.pushW.find? (fun w => decide (w.qid = 1048575) && w.slot) = some w ∧ s.ctxDie 1048575 = none
        ∧ s.ctxRoom = true ∧ (u.tileCheck (spillAddr 1048575 / 4096) .clean).1 = none
        ∧ (u.tileCheck (spillAddr 1048575 / 4096) .clean).2.regs = u.regs)
    ∧ (let s : State := { State.reset with tp := { State.reset.tp with ctxs := [qctx qsDRAINING 0] } }
      fget (s.ctx 7).w0 qSTATE = qsDRAINING ∧ fget (s.ctx 7).w2 qINFL = 0 ∧ s.recOut 7 = false) := by decide +kernel

/-! ### Witnesses: commands of the data queues -/

/-- Node 0 with slice 0 permitted and active, and region 0: port 0, slice 0, every right, 16 pages. -/
def node : State :=
  let s := ((ready.setReg (.rtab 0 0) 1).setReg (.rtab 0 0x2000) 1).setReg (.rtab 0 0x8000) 0xFFFF
  let u := (s.setFld (.slice 0) slice_STATE 1).setFld (.node) node_NODE 0
  { u with st := { u.st with bytes := [(0x0E000000, 0x0F), (0x0E000005, 16)] } }
/-- A data command: opcode, sub-opcode, destination, LEN, words 4 and 5. -/
def dcmd (opc sub dst len w4 w5 : Nat) : Cmd :=
  { w0 := BitVec.ofNat 64 (opc + sub <<< 8 + dst <<< 32), w1 := BitVec.ofNat 64 len, w2 := 0, w3 := 0, w4 := BitVec.ofNat 64 w4,
    w5 := BitVec.ofNat 64 w5, w6 := 0, w7 := 0 }
/-- An accepted command on queue 7 of port 0. -/
def txn (c : Cmd) : Txn :=
  { id := 3, qid := 7, cmd := c, port := 0, gen := 0, slice := 0, seq := 0, xid := 0, ep := 0, acc := 0, accFt := 0, tto := us 50,
    crc := none, stage := .accepted, waits := [], probes := [], relF := none, acked := false, val := 0, expect := 0, wrote := 0,
    gotRx := 0, getBuf := [], fstat := none, genr := none, perf := 0, cmb := false, sat := false, ufl := false, sr := false,
    probed := 0, ends := [] }
/-- The state with it. -/
def having (s : State) (t : Txn) : State := { s with tp := { s.tp with txns := [t] } }
/-- One command for each row of `startRows`. -/
def startCmds : List Cmd :=
  [dcmd opPUT 0 0 64 0 0, dcmd opPUTI 0 0 40 0 0, dcmd opGET 0 0 64 0 0, dcmd opCOPY 0 0 64 0 0, dcmd opATOMIC 0 0 4 0 0,
   dcmd opATOMIC 1 0 8 0 0, dcmd opATOMIC 2 0 4 0 0, dcmd opATOMIC 3 0 4 0 0, dcmd opATOMIC 4 0 8 0 0, dcmd opATOMIC 5 0 8 0 0,
   dcmd opATOMIC 6 0 8 0 0, dcmd opATOMIC 7 0 8 0 0, dcmd opSYNCADD 0 13 0 0 0, dcmd opSYNCSET 0 13 0 0 0, dcmd opSYNCWAIT 0 13 0 0 0]
theorem wit_CommandsStart_data : startRows.length = startCmds.length ∧ (startRows.zip startCmds).all (fun x =>
    let t := txn x.2
    let s := having node t
    Instr.wf (x.1.1 7) && s.isLive && x.1.2 x.2 && decide (s.startable 7 = some t ∧ s.findTxn t.id = some t ∧ t.formatFail = none
      ∧ s.issueCheck t = none)) = true := by decide +kernel
theorem wit_CommandsStart_request : ∀ c ∈ startCmds.drop 2, (txn c).cmd.opc ≠ opPUT ∧ (txn c).cmd.opc ≠ opPUTI
    ∧ (having node (txn c)).findTxn 3 = some (txn c) := by decide +kernel
/-- Gallery 0 of slice 0, root, port 0 a contributor, one sequencer entry of action `act` on chunk 0 (`ccnt` chunks). -/
def gal1 (st act ccnt w1 : Nat) : State :=
  let s := (node.setReg (.galDesc 0 0) (BitVec.ofNat 64 (3 + 1 <<< 32))).setReg (.galDesc 0 1) (BitVec.ofNat 64 (31 + 1 <<< 8 + 1 <<< 32))
  let u := (s.setReg (.seq 0 0 0) (BitVec.ofNat 64 (act + ccnt <<< 32))).setReg (.seq 0 0 1) (BitVec.ofNat 64 w1)
  u.setFld (.galStat 0) galStat_STATE st
theorem wit_CommandsStart_other :
    (let t := txn (dcmd opFENCE 0 0 0 0 0)
      let s := having node t
      s.isLive = true ∧ s.startable 7 = some t ∧ s.findTxn t.id = some t ∧ t.cmd.opc = opFENCE ∧ t.formatFail = none)
    ∧ (galStartRows.all (fun x => [0, 1].all (fun sgen =>
      let c := { dcmd x.2 (decide (x.2 = opCOMB)).toNat 0 0 (sgen <<< 16) 0 with
        w5 := BitVec.ofNat 64 (if x.2 = opKVR then 16 <<< 24 else 0), w6 := BitVec.ofNat 64 (if x.2 = opKVR then 1 <<< 24 else 0) }
      let s := having (gal1 gsARMED actNOP 0 0) (txn c)
      let u := s.updTxn 3 (fun y => { y with stage := .held })
      Instr.wf (x.1 7) && s.isLive && decide (s.startable 7 = some (txn c) ∧ s.findTxn 3 = some (txn c) ∧ (txn c).cmd.opc = x.2
        ∧ s.galCheck (txn c) = none ∧ ((txn c).cmd.sgen = s.gsgen 0 ↔ sgen = 0)) && ((u.memJoin 0 [txn c]).findTxn 3).isSome))) = true := by
  decide +kernel

/-! ### Witnesses: management commands -/

/-- Command `c` is fetched in state `s`, and may start. -/
def startsB (s : State) (c : Cmd) : Bool :=
  decide ((fetched s c).isLive = true ∧ (fetched s c).mgmtFirst = some c ∧ c.reservedFail = none)
theorem startsB_starts (s : State) (c : Cmd) (h : startsB s c = true) : (fetched s c).isLive = true ∧ (fetched s c).starts c :=
  have k := of_decide_eq_true (p := (fetched s c).isLive = true ∧ (fetched s c).mgmtFirst = some c ∧ c.reservedFail = none) h
  ⟨k.1, k.2.1, k.2.2⟩
/-- A REG_WRITE. -/
def wcmd (r : Reg) (v : Nat) : Cmd := mcmd 0x81 r.addr v
theorem wit_RegisterCommands :
    (startsB State.reset (mcmd 0x80 1 0) = true ∧ cmdReg (mcmd 0x80 1 0) = none ∧ (mcmd 0x80 1 0).opc = 0x80)
    ∧ (startsB State.reset (mcmd 0x81 1 0) = true ∧ cmdReg (mcmd 0x81 1 0) = none ∧ (mcmd 0x81 1 0).opc = 0x81)
    ∧ (startsB State.reset (mcmd 0x80 Reg.ftNow.addr 0) = true ∧ cmdReg (mcmd 0x80 Reg.ftNow.addr 0) = some .ftNow)
    ∧ (startsB State.reset (wcmd .ctl 0) = true ∧ cmdReg (wcmd .ctl 0) = some .ctl ∧ heldByMirror State.reset .ctl = false
      ∧ State.regRefused (State.mgmtTaken (fetched State.reset (wcmd .ctl 0))) .ctl (wcmd .ctl 0).w3 = false)
    ∧ (let s := State.reset.setFld .ftCfg ftCfg_PARENT 12
      startsB s (wcmd .ftNow 0) = true ∧ cmdReg (wcmd .ftNow 0) = some .ftNow ∧ heldByMirror s .ftNow = false
        ∧ State.regRefused (State.mgmtTaken (fetched s (wcmd .ftNow 0))) .ftNow (wcmd .ftNow 0).w3 = true)
    ∧ (regRows.all (fun x => [Reg.sdbCmd, .mqCfg, .ctl, .node, .routeCtl, .strict, .rsv 0 0, .portCfg 0 0, .portStat 0 0, .fltFence 0,
        .dumpStat, .quar 0 0, .rstCtl, .rcvCtl 0, .pstate 0, .ftNow, .ftCfg, .wear 0, .noise 0, .syncVal 0, .syncOwn 0, .ccCfg,
        .telFilt 0, .crcCh 0, .smpRing, .sample 0, .police 0, .hb].any (fun r =>
          [0, 2 ^ 62, 2 ^ 63, 2 ^ sdbCmd_GO.lo].any (fun v => x.2 r (BitVec.ofNat 64 v))))) = true := by decide +kernel
/-- DX_MQ_CFG with EN and both ring sizes `n`. -/
def mqv (n : Nat) : Word := fset (fset (fset 0 mqCfg_EN 1) mqCfg_CLOG2 n) mqCfg_RLOG2 n
theorem wit_ManagementRingsAreChecked :
    (State.reset.setFld .mqCfg mqCfg_EN 1).fld .mqCfg mqCfg_EN = 1
    ∧ (State.reset.fld .mqCfg mqCfg_EN = 0 ∧ State.reset.fld .mqHead mqHead_PEND = 0 ∧ fget (mqv 12) mqCfg_EN = 1)
    ∧ (4 ≤ fget (mqv 4) mqCfg_CLOG2 ∧ fget (mqv 12) mqCfg_CLOG2 ≤ 12 ∧ 4 ≤ fget (mqv 4) mqCfg_RLOG2 ∧ fget (mqv 12) mqCfg_RLOG2 ≤ 12)
    ∧ ¬ (4 ≤ fget (mqv 3) mqCfg_CLOG2) ∧ ¬ (fget (mqv 13) mqCfg_CLOG2 ≤ 12)
    ∧ (State.reset.setFld .mqHead mqHead_PEND 1).fld .mqHead mqHead_PEND = 1 := by decide +kernel
/-- A synchronising node. -/
def synced0 : State := (State.reset.setFld .ftCfg ftCfg_EN 1).setFld .ftCfg ftCfg_PARENT 12
/-- A master. -/
def master : State := State.reset.setFld .ftCfg ftCfg_PARENT 31
theorem wit_TimeRegistersRefuse :
    (startsB synced0 (wcmd .ftCfg 0) = true ∧ cmdReg (wcmd .ftCfg 0) = some .ftCfg ∧ (wcmd .ftCfg 0).opc = 0x81
      ∧ (fetched synced0 (wcmd .ftCfg 0)).fld .ftCfg ftCfg_EN = 1
      ∧ fget (wcmd .ftCfg 0).w3 ftCfg_PARENT ≠ (fetched synced0 (wcmd .ftCfg 0)).fld .ftCfg ftCfg_PARENT)
    ∧ (let v := 18 <<< ftCfg_PARENT.lo + 11 <<< ftCfg_ALT.lo
      startsB State.reset (wcmd .ftCfg v) = true ∧ 17 < fget (wcmd .ftCfg v).w3 ftCfg_PARENT ∧ fget (wcmd .ftCfg v).w3 ftCfg_PARENT ≠ 31
        ∧ fget (wcmd .ftCfg v).w3 ftCfg_ALT < 12)
    ∧ (startsB synced0 (wcmd .ftNow 0) = true ∧ synced0.fld .ftCfg ftCfg_PARENT ≠ 31)
    ∧ (startsB (master.setReg .ftNow 5) (wcmd .ftNow 4) = true ∧ (wcmd .ftNow 4).w3.toNat < (master.setReg .ftNow 5).fnow)
    ∧ (startsB master (wcmd .ftNow 0) = true ∧ master.fld .ftCfg ftCfg_PARENT = 31 ∧ master.fnow ≤ (wcmd .ftNow 0).w3.toNat) := by
  decide +kernel
/-- A TABLE_WRITE of table `tid`, index `i`, with words 3 to 6. -/
def tcmd (opc w2 a b c d : Nat) : Cmd :=
  { w0 := BitVec.ofNat 64 opc, w1 := 0, w2 := BitVec.ofNat 64 w2, w3 := BitVec.ofNat 64 a, w4 := BitVec.ofNat 64 b,
    w5 := BitVec.ofNat 64 c, w6 := BitVec.ofNat 64 d, w7 := 0 }
/-- Words 3 and 4 of a queue context: ACTIVE, ring of 16, 15 credits. -/
def qw0 : Nat := qsACTIVE <<< qSTATE.lo + 4 <<< 24 + 15 <<< 32
theorem wit_TableAndSliceCommands_table :
    (let c := tcmd 0x82 (1 + 7 <<< 8) qw0 0 0 0
      let u := (fetched node c).mgmtTaken
      startsB node c = true ∧ c.opc = 0x82 ∧ cmdTid c = 1 ∧ node.fld .dsStat dsStat_SYSRDY = 1 ∧ node.tp.pushW = []
        ∧ fget c.w3 qPIN = 0 ∧ u.ctxRefused (cmdIndex c) c.w3 c.w4 = none)
    ∧ (let c := tcmd 0x82 1 qw0 0 0 0
      startsB node c = true ∧ cmdTid c = 1 ∧ fget c.w3 qPIN = 0
        ∧ ((fetched node c).mgmtTaken.ctxRefused (cmdIndex c) c.w3 c.w4).isSome = true)
    ∧ (let c := tcmd 0x82 (2 + 0xFFFFF <<< 8) 0 0 0 0
      startsB node c = true ∧ cmdTid c = 2 ∧ cmdIndex c < 1048576 ∧ (fetched node c).mgmtTaken.regionRefused c.w3 c.w4 = none)
    ∧ (let c := tcmd 0x82 (2 + 0xFFFFF <<< 8) 0x13 0 0 0
      startsB node c = true ∧ cmdIndex c < 1048576 ∧ ((fetched node c).mgmtTaken.regionRefused c.w3 c.w4).isSome = true)
    ∧ (let c := tcmd 0x82 (2 + 0x100000 <<< 8) 0 0 0 0
      startsB node c = true ∧ cmdTid c = 2 ∧ 1048576 ≤ cmdIndex c)
    ∧ (let c := tcmd 0x82 (3 + (6 * 16384 - 1) <<< 8) 0 0 0 0
      startsB node c = true ∧ cmdTid c = 3 ∧ cmdIndex c / 16384 < 6
        ∧ (fetched node c).mgmtTaken.seqBusy (cmdIndex c / 16384) (cmdIndex c % 16384) = false)
    ∧ (let c := tcmd 0x82 (3 + (6 * 16384) <<< 8) 0 0 0 0
      startsB node c = true ∧ cmdTid c = 3 ∧ 6 ≤ cmdIndex c / 16384)
    ∧ (let c := tcmd 0x82 (5 + 0x2000 <<< 8) 0 0 0 0
      startsB node c = true ∧ cmdTid c = 5 ∧ node.sec.mirror.held = none ∧ cmdIndex c < 0x18000 ∧ rtabWord (8 * cmdIndex c) = true
        ∧ (fetched node c).mgmtTaken.rtabRefused (cmdTid c - 4) (cmdIndex c) c.w3 = none)
    ∧ (let c := tcmd 0x82 (4 + 0x2000 <<< 8) 4 0 0 0
      startsB node c = true ∧ cmdTid c = 4 ∧ ((fetched node c).mgmtTaken.rtabRefused 0 (cmdIndex c) c.w3).isSome = true)
    ∧ (let c := tcmd 0x82 (4 + 0x18000 <<< 8) 0 0 0 0
      startsB node c = true ∧ cmdTid c = 4 ∧ 0x18000 ≤ cmdIndex c) := by decide +kernel
theorem wit_TableAndSliceCommands_gallery :
    (let s := node.setReg (.seq 0 0 0) (BitVec.ofNat 64 actADVANCE)
      let c := tcmd 0x84 0 (3 + 1 <<< 32) (31 + 1 <<< 8 + 1 <<< 32) 0 0x20000000
      startsB s c = true ∧ cmdGalV c = true ∧ (fetched s c).mgmtTaken.setupRefused 0 c.w3 c.w4 c.w5 c.w6 = none)
    ∧ (let c := tcmd 0x84 0 (3 + 1 <<< 32) (31 + 1 <<< 8 + 1 <<< 32) 0 0x20000000
      startsB node c = true ∧ cmdGalV c = true ∧ ((fetched node c).mgmtTaken.setupRefused 0 c.w3 c.w4 c.w5 c.w6).isSome = true)
    ∧ (let c := tcmd 0x84 0 0 0 0 0
      startsB node c = true ∧ cmdGalV c = false ∧ gdefReserved c.w3 c.w4 c.w5 c.w6 = none)
    ∧ (let c := tcmd 0x84 0 0x10 0 0 0
      startsB node c = true ∧ cmdGalV c = false ∧ (gdefReserved c.w3 c.w4 c.w5 c.w6).isSome = true) := by decide +kernel
/-- A teardown of slice 1 at a step. -/
def tearing (k : Nat) : State :=
  { State.reset.setFld (.slice 1) slice_STATE 2 with mg := { State.reset.mg with tear := some { cmds := [], slice := 1, step := k, ranges := [] } } }
theorem wit_TableAndSliceCommands_slice :
    ((tearing 2).isLive = true ∧ (tearing 2).sec.mirror.held = none ∧ (tearing 2).tearDrained 1 = true
      ∧ (tearing 2).mg.tear.map (fun t => (t.slice, t.step)) = some (1, 2) ∧ (tearing 1).mg.tear.map (fun t => t.step) = some 1)
    ∧ (startsB State.reset (mcmd 0x88 63 0) = true ∧ (mcmd 0x88 63 0).fld 2 0 6 = 63
      ∧ (fetched State.reset (mcmd 0x88 63 0)).mgmtTaken.fld (.slice 63) slice_STATE = 0)
    ∧ (startsB State.reset (mcmd 0x88 0 0) = true ∧ startsB State.reset (mcmd 0x89 0 0) = true ∧ startsB State.reset (mcmd 0x89 63 0) = true)
    ∧ ([1, 63].all (fun sl =>
      let s := (tearing 2).setFld (.slice sl) slice_STATE 1
      startsB s (mcmd 0x89 sl 0) && decide ((fetched s (mcmd 0x89 sl 0)).mgmtTaken.fld (.slice sl) slice_STATE ≠ 0))) = true
    ∧ (let s := State.reset.setFld (.slice 63) slice_STATE 1
      startsB s (mcmd 0x89 63 0) = true ∧ (fetched s (mcmd 0x89 63 0)).mgmtTaken.fld (.slice 63) slice_STATE ≠ 0 ∧ s.mg.tear = none) := by
  decide +kernel
/-- A state in which an exchange stands at `stage`; `fw`: an activation. -/
def atted (fw : Bool) (stage : Nat) (t : Nat) : State :=
  let a : Att := { cmd := some (mcmd 0x98 0 0), fw, seq := 0, start := 0, stage, rlen := 0, pollAt := 0 }
  { State.reset with now := t, mg := { State.reset.mg with att := some a } }
theorem wit_EngineCommands :
    (startsB State.reset (mcmd 0x83 0 0) = true ∧ State.reset.mg.engSwap = [])
    ∧ (let c := mcmd 0x8A 0x20000000 4096
      startsB State.reset c = true ∧ c.fld 2 0 40 % 4096 = 0 ∧ c.fld 3 0 40 % 4096 = 0 ∧ 0 < c.fld 3 0 40
        ∧ 0x20000000 ≤ c.fld 2 0 40 ∧ c.fld 2 0 40 + c.fld 3 0 40 ≤ dsEnd)
    ∧ (let c := mcmd 0x8A 0x10000000 0x4000000
      startsB State.reset c = true ∧ 0x10000000 ≤ c.fld 2 0 40 ∧ c.fld 2 0 40 + c.fld 3 0 40 ≤ 0x14000000)
    ∧ (let c := mcmd 0x8C 0 dsEnd
      startsB State.reset c = true ∧ 0 < c.fld 3 0 40 ∧ c.fld 2 0 40 + c.fld 3 0 40 ≤ dsEnd)
    ∧ (startsB State.reset (mcmd 0x90 5 0) = true ∧ (mcmd 0x90 5 0).fld 2 0 3 < 6)
    ∧ ([0, 1].all (fun k => let c := tcmd (0xB0 + k <<< 8) 8 8 (32704 + 32768 <<< 16) 0 0
      startsB State.reset c && decide (c.opc = 0xB0 ∧ c.w2.toNat % 8 = 0 ∧ c.w3.toNat % 8 = 0 ∧ 1 ≤ c.fld 4 0 16
        ∧ c.fld 4 0 16 ≤ 32704 ∧ c.fld 4 16 16 ≤ 32768 ∧ c.subop = k))) = true
    ∧ (startsB State.reset (mcmd 0x98 0 0) = true ∧ State.reset.mg.att = none ∧ State.reset.mg.engAtt = [])
    ∧ ((atted true 3 (ms 1)).isLive = true ∧ (atted true 3 (ms 1)).mg.att.isSome = true ∧ 0 + ms 1 ≤ (atted true 3 (ms 1)).now)
    ∧ ((atted false 3 (ms 500)).mg.att.isSome = true ∧ 0 + us 1 ≤ (atted false 3 (ms 500)).now ∧ 0 + ms 500 ≤ (atted false 3 (ms 500)).now
      ∧ nfld (0x30000 : Nat) 16 4 = 3 ∧ nfld (0x20000 : Nat) 16 4 = 2 ∧ nfld (0x10000 : Nat) 16 4 < 2) := by decide +kernel
/-- Unit 5 has raised two contained faults: sequence numbers 0 and 1, with the bit of class `k` pending. -/
def faulted (k : Nat) : State :=
  ((State.reset.setFld (.fltStat 5) fltStat_NEXTSEQ 2).setFld (.fltStat 5) (pendPos k) 1).setFunit 5 (fun f =>
    { f with pend := [(k, { seq := 1, deadline := 0, src := ⟨syPART, 5⟩, code := 0x38, count := 1, slice := none })] })
theorem wit_FaultAcknowledged :
    (startsB (faulted 2) (mcmd 0xA0 7 0) = true ∧ (mcmd 0xA0 7 0).opc = 0xA0 ∧ 6 < (mcmd 0xA0 7 0).fld 2 0 3)
    ∧ (let c := mcmd 0xA0 (5 + 2 <<< 16) 0
      startsB (faulted 2) c = true ∧ serialBefore (c.fld 2 16 16) ((fetched (faulted 2) c).mgmtTaken.fld (.fltStat 5) fltStat_NEXTSEQ) = false)
    ∧ (let c := mcmd 0xA0 (5 + 1 <<< 16) 0
      startsB (faulted 2) c = true ∧ c.fld 2 0 3 ≤ 6
        ∧ serialBefore (c.fld 2 16 16) ((fetched (faulted 2) c).mgmtTaken.fld (.fltStat 5) fltStat_NEXTSEQ) = true
        ∧ ((fetched (faulted 2) c).mgmtTaken.funit 5).pend ≠ []) := by decide +kernel
/-- LANE_TEST of lane 191 with a mode and an injection. -/
def lcmd (mode inj : Nat) : Cmd := mcmd 0xA8 (191 + mode <<< 8 + inj <<< 16) 0
theorem wit_LaneTests :
    ([0, 1, 2, 3, 4].all (fun k => startsB State.reset (lcmd k 40) && decide ((lcmd k 40).opc = 0xA8 ∧ (lcmd k 40).fld 2 0 8 ≤ 191
      ∧ (lcmd k 40).fld 2 8 4 = k ∧ 10 ≤ (lcmd k 40).fld 2 16 6 ∧ (lcmd k 40).fld 2 16 6 ≤ 40))) = true
    ∧ (let p := lanePort 191
      let cfg := Reg.portCfg (portPart p) (portK p)
      let s := State.reset.setFld cfg portCfg_FENCE (2 ^ laneLocal 191)
      (s.fencedLanes p).getLsbD (laneLocal 191) = true ∧ (State.reset.fencedLanes p).getLsbD (laneLocal 191) = false
        ∧ (let bad (s : State) : Bool := (fetched s (lcmd 1 40)).mgmtTaken.portCfgRefused (portPart p) (portK p)
            (fset (s.reg cfg) portCfg_FENCE (fget (s.reg cfg) portCfg_FENCE ||| 2 ^ laneLocal 191))
          bad State.reset = false ∧ bad (State.reset.setFld cfg portCfg_FENCE 0x7FFF) = true)) := by decide +kernel

/-! ### Witnesses: lanes and links -/

theorem wit_LanesAndTraining :
    (State.reset.isLive = true ∧ State.reset.laneOn 191 = true ∧ (State.reset.lane 191).locked = false)
    ∧ ((State.reset.setLane 191 (fun x => { x with locked := true })).laneOn 191 = true
      ∧ ((State.reset.setLane 191 (fun x => { x with locked := true })).lane 191).locked = true)
    ∧ ((port State.reset 17 psLOCK).trains 17 = true ∧ Instr.wf (.markReceive 17 [{ lane := 15, idx := 0, mask := 0, skew := 0 }]) = true)
    ∧ (let t : TrainBlk := { reach := BitVec.ofNat 2 (State.reset.fld (cfgReg 17) portCfg_REACH), role := true, ready := false, mask := 0xFFFF, node := 1 }
      (port State.reset 17 psALIGN).pst 17 = psALIGN ∧ (port State.reset 17 psALIGN).trainOk 17 t = true
        ∧ (port State.reset 17 psLOCK).pst 17 = psLOCK ∧ (port State.reset 17 psLOCK).trainOk 17 { t with role := false } = false
        ∧ (port State.reset 17 psMISMATCH).pst 17 = psMISMATCH ∧ (port State.reset 17 psMISMATCH).trainOk 17 { t with role := false } = false)
    ∧ ((port (at' (ms 1)) 17 psMISMATCH).pst 17 = psMISMATCH
      ∧ ((port (at' (ms 1)) 17 psMISMATCH).link 17).since + ms 1 ≤ (port (at' (ms 1)) 17 psMISMATCH).now)
    ∧ ((port (at' (ms 20)) 17 psALIGN).pst 17 = psALIGN
      ∧ ((port (at' (ms 20)) 17 psALIGN).link 17).lockAt + ms 20 ≤ (port (at' (ms 20)) 17 psALIGN).now)
    ∧ (let s := (port (at' (us 1)) 17 psDOWN).setFld .ctl ctl_PORTEN (2 ^ 18 - 1)
      s.pst 17 = psDOWN ∧ (s.link 17).since + us 1 ≤ s.now ∧ s.mayTrain 17 = true)
    ∧ (let s := port (at' (us 10)) 17 psRETRAIN
      s.pst 17 = psRETRAIN ∧ (s.link 17).prev &&& ~~~(s.fencedLanes 17) &&& ~~~(s.ownMask 17) = 0)
    ∧ (let s := (port (at' (us 10)) 17 psRETRAIN).setLink 17 (fun x => { x with prev := 1 })
      (s.link 17).prev &&& ~~~(s.fencedLanes 17) &&& ~~~(s.ownMask 17) ≠ 0 ∧ (s.link 17).since + us 10 ≤ s.now) := by decide +kernel
/-- Port `c` in UP. -/
def upS (c : Nat) : State := port node c psUP
/-- Port 17 in UP with a packet of LSEQ 5 in its replay buffer, at time `t`. -/
def sent (t : Nat) : State :=
  { upS 17 with sw := { node.sw with replay := [{ port := 17, lseq := 5, pkt := aCell }] }, now := t }
theorem wit_ControlBlocks : (17 < 18 ∧ (portChans 17).contains 11 = true ∧ (upS 17).isLive = true ∧ (upS 17).up 17 = true)
    ∧ (∃ r ∈ (sent 0).sw.replay, r.port = 17 ∧ r.lseq = (5 : BitVec 16).toNat)
    ∧ (upS 17).fld (statReg 17) portStat_RXIDLE = 0 ∧ ((upS 17).setFld (statReg 17) portStat_RXIDLE 1).fld (statReg 17) portStat_RXIDLE = 1
    ∧ ((upS 17).setFld (statReg 17) portStat_RXIDLE 1).up 17 = true := by decide +kernel
theorem wit_LinkPacketsReceived :
    Instr.wf (.linkPacketReceive 17 [aCell.bytes] none []) = true ∧ (upS 17).isLive = true ∧ (upS 17).up 17 = true
    ∧ (upS 17).fld (statReg 17) portStat_RXIDLE = 0 ∧ ((upS 17).link 17).resync = false
    ∧ (Pkt.parse (aCell.bytes.set 1 0xAA)).all (fun x => !x.2) = true
    ∧ Pkt.parse aCell.bytes = some (aCell, true) ∧ (upS 17).conf aCell.h.slice.toNat = false ∧ (upS 0).conf ((upS 0).edgeSlice 0 aCell) = false
    ∧ serialBefore ((upS 17).link 17).cur ((upS 17).link 17).eseq = false
    ∧ (let s := (upS 17).setLink 17 (fun x => { x with eseq := 1 })
      serialBefore (s.link 17).cur (s.link 17).eseq = true) := by decide +kernel
theorem wit_LinkTimers :
    ((upS 17).lossHolds 17 .silence = true ∧ ((upS 17).setFld (statReg 17) portStat_RXIDLE 1).lossHolds 17 .noPilot = true
      ∧ (port (at' (us 100)) 17 psRETRAIN).lossHolds 17 .retrain = true ∧ (port State.reset 17 psRETRAIN).lossHolds 17 .narrow = true)
    ∧ (let s := { upS 17 with now := us 1 }
      s.isLive = true ∧ s.up 17 = true ∧ s.fld (statReg 17) portStat_TXIDLE = 0 ∧ (s.link 17).refAt + us 1 ≤ s.now)
    ∧ (let s := sent (us 1)
      s.up 17 = true ∧ (s.unacked 17).isEmpty = false ∧ (s.link 17).ackAt + s.replayTime 17 ≤ s.now)
    ∧ (let s := (State.setFld { upS 17 with now := ms 1 } (cfgReg 17) portCfg_FASTIDLE 1).setFld (.pstate (portPart 17)) pstate_STATE 1
      s.mayIdle 17 = true)
    ∧ (let s := ((upS 17).setFld (statReg 17) portStat_TXIDLE 1).pendCtl 17 0
      s.up 17 = true ∧ s.fld (statReg 17) portStat_TXIDLE = 1 ∧ (s.link 17).ctl.isEmpty = false) := by decide +kernel

/-! ### Witnesses: the switch and delivered packets -/

/-- A request cell to endpoint 1, received on port 12, channel 0. -/
def rxed : State :=
  { upS 12 with sw := { node.sw with rx := [{ port := 12, chan := 0, pkt := { aCell with h := { aCell.h with dst := 1 } }, arr := 0, at' := 0, units := 1 }] } }
/-- One that partition 5 has built. -/
def built : State :=
  { node with sw := { node.sw with inj := [{ part := 5, pkt := { aCell with h := { aCell.h with dst := 1 } }, fixed := none, arr := 0, shaped := false, gdel := none, ereq := none }] } }
/-- A copy in output `o` of partition `n`. -/
def copied (n o : Nat) (s : State) : State :=
  { s with sw := { s.sw with copies := [{ part := n, out := o, chan := 0, pkt := aCell, tiles := [], fromRes := false, arr := 0, inPort := none, contrib := [], win := false, ereq := none }] } }
theorem wit_SwitchRows :
    (rxed.isLive = true ∧ (rxed.rxHead 12 0).any (fun e => !rxed.headBypass e && decide (rxed.rival e = none)) = true
      ∧ rxed.flows (portPart 12) = true
      ∧ (rxed.admitTorus { part := 0, pkt := { aCell with h := { aCell.h with dst := 1 } }, inPort := some 12, arr := 0, built := false, gdel := none, ereq := none }).1 = true)
    ∧ (built.isLive = true ∧ built.runs 5 = true ∧ built.sw.inj.length = 1
      ∧ (State.admitBuilt { built with sw := { built.sw with inj := [] } }
        { part := 5, pkt := { aCell with h := { aCell.h with dst := 1 } }, inPort := none, arr := 0, built := true, gdel := none, ereq := none } none).1 = true)
    ∧ ([(0, 0, upS 12), (0, 3, node)].all (fun x =>
      let s := copied x.1 x.2.1 (x.2.2.setLink 12 (fun l => { l with granted := List.replicate 12 60000 }))
      s.flows x.1 && (match s.choose x.1 x.2.1 with
        | some (y, _) => decide (y.pkt = aCell ∧ y.flips = [] ∧ aCell.isGal = false ∧ s.quar 0 = false ∧ s.tooOld y = false ∧ s.conf 0 = false ∧ aCell.opc ≠ opTIMESYNC)
        | none => false))) = true := by decide +kernel
/-- The delivered copy of `copied 0 3 node`, as the units get it. -/
def anEnt : InEnt := { part := 0, pkt := aCell, inPort := none, arr := 0, at' := 0 }
theorem wit_SwitchRows_quarantine :
    node.quarPart anEnt = none
    ∧ (node.setReg (.quar 0 63) (fset (fset (fset 0 quar_V 1) quar_SRC aCell.h.src.toNat) quar_QID (Desc.ofNat aCell.desc).qid)).quarPart
      anEnt = some 0 := by decide +kernel
/-- Two heads for one output: REQ from port 12, MGT from port 13. -/
def contending : State :=
  let p (cls : Nat) : Pkt := { aCell with h := { aCell.h with dst := 1, cls := BitVec.ofNat 3 cls } }
  let r (c cls : Nat) : RxEnt := { port := c, chan := 0, pkt := p cls, units := 1, arr := 0, at' := 0 }
  { rxed with sw := { rxed.sw with rx := [r 12 clREQ, r 13 clMGT] } }
theorem wit_SwitchRows_rival : (contending.rxHead 12 0).any (fun e => (contending.rival e).any (fun y => decide (y.port = 13))) = true
    ∧ (contending.rxHead 13 0).any (fun e => decide (contending.rival e = none)) = true := by decide +kernel
/-- A fold whose value is known before the next byte is taken. -/
def eagerFold (f : Nat → Byte → Nat) : List Byte → Nat → Nat
  | [], c => c
  | b :: l, c => match f c b with
    | 0 => eagerFold f l 0
    | n + 1 => eagerFold f l (n + 1)
theorem eagerFold_eq (f : Nat → Byte → Nat) (l : List Byte) (c : Nat) : l.foldl f c = eagerFold f l c := by
  induction l generalizing c with
  | nil => rfl
  | cons b l ih =>
    rw [List.foldl_cons, ih, eagerFold]
    cases f c b <;> rfl
theorem crcEager (l : List Byte) (c : Nat) : Machine.crcRun 0 c l = eagerFold (crcByte 0) l c := by
  rw [Machine.crcRun, eagerFold_eq]
/-- A copy in ENG of partition 0 whose one tile has changed. -/
def struck : State :=
  let s := copied 0 3 node
  State.strike { s with sw := { s.sw with copies := s.sw.copies.map (fun x => { x with tiles := [7] }) } } 0 (.tile 7 5)
theorem wit_SwitchRows_badTile : struck.flows 0 = true ∧ (struck.choose 0 3).map (·.1) = struck.sw.copies.head?
    ∧ struck.sw.copies.all (fun y => decide (struck.quar 0 = false ∧ struck.tooOld y = false ∧ y.pkt.isGal = false)) = true := by
  decide +kernel
/-- That copy. -/
def struckCopy : Copy :=
  { part := 0, out := 3, chan := 0, pkt := aCell, tiles := [7], fromRes := false, arr := 0, inPort := none, contrib := [], win := false
    ereq := none, flips := [(0, 5)] }
theorem struckCopy_now : eagerFold (crcByte 0) (flipBit (struckCopy.tile 0) 5) 0xFFFFFFFF = 2781877821 := by decide +kernel
theorem struckCopy_then : eagerFold (crcByte 0) (struckCopy.tile 0) 0xFFFFFFFF = 1282343222 := by decide +kernel
theorem wit_SwitchRows_badTile_check : struck.sw.copies = [struckCopy] ∧ struckCopy.firstBad = some 0 := by
  refine ⟨by decide +kernel, ?_⟩
  have h1 : struckCopy.tileNow 0 = flipBit (struckCopy.tile 0) 5 := rfl
  have h2 : struckCopy.flipsIn 0 = [5] := rfl
  have h3 : struckCopy.tileBad 0 = true := by
    rw [Copy.tileBad, h1, h2, crc32c, crc32c, crcOf, crcOf, crcEager, crcEager]
    rw [show polyInit 0 = 0xFFFFFFFF from rfl, struckCopy_now, struckCopy_then]
    decide
  show List.find? struckCopy.tileBad [0] = some 0
  rw [List.find?_cons_of_pos h3]
/-- Opcodes of the rows that take a delivered packet. -/
def rxOpcs : List Nat := [opGET, opCOPY, opATOMIC, opSYNCADD, opSYNCSET, opSYNCWAIT, opPROBE, opGETDATA, opACK, opFAIL, opCOPYRPT, opRDANS,
  opWRANS, opATANS, opGALABORT]
/-- A delivered packet of an opcode with payload `pay`. -/
def del (opc : Nat) (frame : Bool) (pay : List Byte) : Pkt :=
  let h : Hdr := { aCell.h with opc := BitVec.ofNat 8 opc }
  if frame then mkFrame h 0 pay else mkCell h pay
theorem wit_DeliveredPacketsAreTaken :
    node.isLive = true ∧ rxOpcs.all (fun o => ((inbox node [del opPUSH true [], del o false []]).oldestRx (pktOpc o)).isSome) = true
    ∧ ((inbox node [del opPUT false []]).oldestRx (fun p => decide (p.opc = opPUT ∨ p.opc = opPUTI) && !p.isFrame)).isSome = true
    ∧ ((inbox node [del opPUT true []]).oldestRx (fun p => decide (p.opc = opPUT ∨ p.opc = opPUTI) && p.isFrame)).isSome = true
    ∧ [epPREPARE, epSWITCH, epPOLL, epRETIRE].all (fun k =>
      ((inbox node [del opEPOCHCTL false [BitVec.ofNat 8 k]]).oldestRx (epochIs k)).isSome) = true
    ∧ [opSYNCADD, opSYNCSET, opSYNCWAIT].all (fun o =>
      let s := inbox node [del o false []]
      (s.sw.inbox.find? (s.syncTurn o)).isSome) = true := by decide +kernel

/-! ### Witnesses: sync objects, timers and edge tags -/

/-- A SYNC_WAIT of object 0 for a value of at least 1, until 0; and a SYNC_ADD. -/
def syncPkt' (opc : Nat) : Pkt := del opc false (List.replicate 24 0 ++ [1] ++ List.replicate 15 0)
/-- The node, whose sync object 0 slice 0 owns. -/
def owning : State := node.setFld (.syncOwn 0) syncOwn_V 1
theorem wit_SyncObjects :
    node.syncOwned 65535 63 = false
    ∧ (let p := syncPkt' opSYNCWAIT
      owning.syncOwned (Desc.ofNat p.desc).sync p.h.slice.toNat = true
      ∧ waitHolds (bytesNat (Machine.slice p.pay 20 1) % 8) (owning.syncVal 0) (bytesNat (Machine.slice p.pay 24 8)) = false
      ∧ owning.fnow ≤ bytesNat (Machine.slice p.pay 32 8) ∧ owning.tp.waits.length < 65536)
    ∧ (Reg.syncVal 1).addr ≠ (Reg.syncVal 0).addr ∧ (Reg.syncVal 1).addr ≠ Reg.syncStat.addr := by decide +kernel
/-- A registered wait whose deadline is 0. -/
def aWait : Wait :=
  { sync := 0, src := 0, dst := 0, tag := 0, slice := 0, gen := 0, qid := 0, seq := 0, cmp := 0, target := 1, deadline := 0, marks := 0 }
theorem wit_SyncObjects_full :
    65536 ≤ ({ node with tp := { node.tp with waits := List.replicate 65536 aWait } } : State).tp.waits.length := by
  show 65536 ≤ (List.replicate 65536 aWait).length
  rw [List.length_replicate]
/-- A sender of frames with one frame sent at 0. -/
def aSnd : Snd :=
  { id := 4, role := 0, part := 0, txn := 3, src := 0, dst := 0, iss := 0, slice := 0, qid := 7, seq := 0, xid := 0, ixid := 0, gen := 0, agen := 0, reg := 0, flags := 0,
    desc := Desc.ofNat 0, frames := true, units := [{ idx := 127, pkt := del opPUT true [], st := 1, at' := 0, fail := false }], loaded := true,
    pre := none, start := 0, tto := ms 10, genr := none, marks := 0 }
/-- A receive record whose acknowledgement is due. -/
def aRec : RRec :=
  { src := 0, qid := 7, seq := 0, xid := 0, opc := opPUT, dst := 0, slice := 0, gen := 0, flags := 0, desc := Desc.ofNat 0, cell := true, part := 0,
    bitmap := 1, wmap := 1, first := 0, ackDue := some 0, acked := false, marks := 0, bytes := 1, fail := none, denied := 0, ends := [] }
theorem wit_TransportTimers :
    ([aRec].find? (fun r => r.ackDue.isSome) = some aRec)
    ∧ (let s : State := { (node.setReg .ftNow 1) with tp := { node.tp with waits := [aWait] } }
      s.isLive = true ∧ s.tp.waits.find? (fun w => decide (w.deadline < s.fnow)) = some aWait)
    ∧ (let t := txn (dcmd opSYNCWAIT 0 13 0 0 0)
      let s := having (node.setReg .ftNow (BitVec.ofNat 64 (us 1))) t
      s.findTxn 3 = some t ∧ t.fstat = none ∧ t.cmd.opc = opSYNCWAIT ∧ t.accFt + us t.cmd.wto + us 1 ≤ s.fnow)
    ∧ (let t := txn (dcmd opPUT 0 0 64 0 0)
      let s := having { node with now := us 50 } t
      s.findTxn 3 = some t ∧ t.fstat = none ∧ t.cmd.opc ∉ [opSYNCWAIT, opFENCE, opGALC, opCOMB, opKVR] ∧ s.tp.snds = [] ∧ t.acc + t.tto ≤ s.now)
    ∧ ((let s : State := { node with tp := { node.tp with probes := [{ part := 0, pkt := del opPROBE false [], inPort := none, arr := 0 }] } }
      s.tp.probes.find? (fun e => s.performed e.pkt.h.src.toNat (Desc.ofNat e.pkt.desc).qid)).isSome = true)
    ∧ (let s : State := { node with tp := { node.tp with snds := [aSnd] }, now := node.rtiNow }
      s.findSnd 4 = some aSnd ∧ aSnd.frames = true ∧ s.now < aSnd.start + aSnd.tto
        ∧ (aSnd.units.find? (fun y => decide (y.idx = 127))).any (fun u => decide (u.st = 1 ∧ u.at' + s.rtiNow ≤ s.now)) = true) := by decide +kernel
/-- An edge request sent at 0 with tag 255 on port 11, at time `t`. -/
def edged (t : Nat) : State :=
  let r : EReq := { port := 11, etag := some 255, gen := 0, kind := .rd, addr := 0, len := 8, data := [], sub := 0, job := 1, off := 0, slice := 0, sent := some 0
                    flags := 0, lost := false }
  { node with mv := { node.mv with ereq := [r] }, now := t }
theorem wit_EdgeTags :
    (edged (us 4)).isLive = true ∧ ((edged (us 4)).mv.ereq.find? (EReq.tagged 11 255)).any (fun r =>
      decide (r.sent = some 0 ∧ 0 + us 4 ≤ (edged (us 4)).now)) = true := by decide +kernel

/-! ### Witnesses: galleries, epochs and congestion -/

/-- A frame of an opcode for gallery 0, generation `sg`, chunk 0, with an empty payload and a right end-to-end CRC. -/
def gfrmOf (o sg : Nat) : Pkt :=
  let p : Pkt := { del o true [] with ext := BitVec.ofNat 160 (sg <<< 12) }
  { p with e2e := p.e2eOf }
/-- A running gallery whose one entry is a REDUCE that names every port, or a FORWARD. -/
def galR (red : Bool) : State := if red then gal1 gsRUNNING actREDUCE 1 0x3FFFF else gal1 gsRUNNING actFORWARD 1 0
/-- The frame is the one whose turn it is. -/
def turn (s : State) (o : Nat) (p : Pkt) : Bool :=
  let t := inbox s [p]
  t.isLive && ((t.sw.inbox.find? (t.galTurn o)).map (·.pkt) == some p)
theorem wit_GalleryFrames_current : [opGALUP, opGALDOWN, opGALC, opCOMB, opKVR].all (fun o =>
    [true, false].all (fun r =>
      let s := galR r
      let p := gfrmOf o 0
      turn s o p && decide (p.e2e = p.e2eOf ∧ s.galHere p = true ∧ (p.gfrm 0).x.sgen = s.gsgen 0 ∧ (p.gfrm 0).pay = []
        ∧ s.galBlocked (s.gdef 0) = none ∧ s.reduceNames (s.gdef 0) 0 (p.gfrm 0).x.chunk = r))) = true := by decide +kernel
theorem wit_GalleryFrames_other : [opGALUP, opGALDOWN, opGALC, opCOMB, opKVR].all (fun o =>
    let s := galR true
    let bad : Pkt := { gfrmOf o 0 with e2e := (gfrmOf o 0).e2eOf ^^^ 1 }
    turn s o (gfrmOf o 1) && decide ((gfrmOf o 1).sgenOf = s.gnext 0 ∧ (s.gal 0).skip = none)
      && turn node o (gfrmOf o 0) && !node.galHere (gfrmOf o 0)
      && turn s o (gfrmOf o 255) && decide (((gfrmOf o 255).gfrm 0).x.sgen = 255)
      && turn s o bad && decide (bad.e2e ≠ bad.e2eOf ∧ s.gstate 0 ≠ gsIDLE)) = true := by decide +kernel
theorem wit_Actions :
    (gal1 gsRUNNING actNOP 0 0).isLive = true ∧ (gal1 gsRUNNING actNOP 0 0).actReady 0 0 0 actNOP = true
    ∧ ((gal1 gsRUNNING actREDUCE 1 0).actReady 0 0 0 actREDUCE = true
      ∧ (gal1 gsRUNNING actREDUCE 1 0).acctReady 0 0 ((gal1 gsRUNNING actREDUCE 1 0).gdef 0) = true)
    ∧ ((gal1 gsRUNNING actWAIT 1 0).actReady 0 0 0 actWAIT = true ∧ (gal1 gsRUNNING actWAIT 1 0).waitMet 0 0 0 = true)
    ∧ (gal1 gsRUNNING actADVANCE 0 0).actReady 0 0 0 actADVANCE = true
    ∧ (gal1 gsRUNNING actSYNCADD 0 0).actReady 0 0 0 actSYNCADD = true
    ∧ [actSENDUP, actMCAST, actFORWARD, actDISPATCH, actDSWRITE, actDSREAD].all (fun a => (gal1 gsRUNNING a 1 0).actReady 0 0 0 a) = true
    ∧ (let s : State := { gal1 gsRUNNING actNOP 0 0 with gals := [{ Gal.init 0 with timer := some 0 }], now := us 100 }
      s.gstate 0 ≠ gsIDLE ∧ (s.gal 0).timer = some 0 ∧ 0 + (s.gdef 0).timeout ≤ s.now) := by decide +kernel
theorem wit_Actions_emission : (gal1 gsRUNNING actDISPATCH 1 0).mayAct 0 0 0 actDISPATCH = true
    ∧ [actSENDUP, actMCAST, actDSWRITE].all (fun a =>
      let s := gal1 gsRUNNING a 1 0
      let b := s.accStrike ⟨0, 0, false, 7⟩
      s.actReady 0 0 0 a && (s.gal 0).emits.isEmpty && (s.gdef 0).v && [true, false].all (fun w => decide (s.emitBad 0 0 w = none))
        && b.actReady 0 0 0 a && [true, false].all (fun w => decide (b.emitBad 0 0 w = some 7))) = true := by decide +kernel
/-- Routing enabled, the other copy loaded; phase `k` of a swap. -/
def epoch (k : Nat) : State := ((node.setFld .routeCtl routeCtl_EN 1).setFld .routeCtl routeCtl_LOADED 1).setFld .routeCtl routeCtl_PHASE k
/-- A request of node 0 for the other epoch. -/
def epPkt (k : Nat) : Pkt := del opEPOCHCTL false ([BitVec.ofNat 8 k, 1] ++ List.replicate 46 0)
/-- A swap being run, begun at 0, with node 4095 asked at 0. -/
def swapping (phase : Nat) (again : Bool) (t : Nat) : State :=
  let w : Swap := { cmd := mcmd 0x83 0 0, target := 1, drain := us 100, phase, round := 0, set := [4095], total := 0, seen := false, worst := [], curW := []
                    zero := false, switchAt := 0, reqs := [{ node := 4095, phase, round := 0, sentAt := 0, again }] }
  { node with mg := { node.mg with swap := some w }, now := t }
theorem wit_EpochSwap :
    ((epoch 0).fld .routeCtl routeCtl_EN = 1 ∧ (epoch 0).fld .routeCtl routeCtl_LOADED = 1
      ∧ (epoch 0).active ≠ bytesNat (Machine.slice (epPkt epPREPARE).pay 1 1) ∧ bytesNat (Machine.slice (epPkt epPREPARE).pay 1 1) < 2
      ∧ (epoch 0).fld .routeCtl routeCtl_OLDLIVE = 0 ∧ (epoch 0).swPhase = 0)
    ∧ ((epoch 1).swPhase = 1 ∧ (epoch 1).swMine (epPkt epSWITCH) = true)
    ∧ ((epoch 2).swPhase = 2 ∧ (epoch 2).swMine (epPkt epPOLL) = true)
    ∧ (((epoch 1).setFld .routeCtl routeCtl_COORD 1).swMine (epPkt epPREPARE) = false
      ∧ ((epoch 1).setFld .routeCtl routeCtl_COORD 1).swPhase ≠ 0)
    ∧ (let s := { inbox (swapping epPREPARE false 0) [epPkt 0x80] with now := 0 }
      s.isLive = true ∧ s.mg.swap.isSome = true
        ∧ (s.oldestRx (fun p => decide (p.opc = opEPOCHCTL) && !decide (bytesNat (Machine.slice p.pay 0 1) ∈ [epPREPARE, epSWITCH, epPOLL, epRETIRE]))).isSome = true)
    ∧ ([true, false].all (fun a => (swapping epPREPARE a (us 100)).mg.swap.any (fun w =>
      (w.reqs.find? (fun x => x.node = 4095)).any (fun x => decide (x.sentAt + us 100 ≤ us 100 ∧ x.again = a))))) = true
    ∧ ((swapping epPOLL false (us 100)).mg.swap.any (fun w => decide (w.phase = epPOLL ∧ w.switchAt + w.drain ≤ us 100))) = true := by decide +kernel
/-- A rate entry for (63, 65535). -/
def rated : State :=
  let e : Rate := { slice := 63, dst := 65535, r := 1, dec := none, chg := 0, bucket := 1000000, fillAt := 0 }
  { node.setReg .ftNow 1000000 with tp := { node.tp with rate := [e] } }
theorem wit_CongestionRows :
    (rated.isLive = true ∧ rated.native = true ∧ (rated.rateOf 63 65535).any (fun e => decide (e.chg + rated.ccTI ≤ rated.fnow)) = true)
    ∧ (let p : Pkt := { aCell with h := { aCell.h with slice := 63, dst := 65535 } }
      let i : Inj := { part := 0, pkt := p, fixed := none, arr := 0, shaped := true, gdel := none, ereq := none }
      (i.shaped && decide (p.h.slice.toNat = 63 ∧ p.h.dst.toNat = 65535)) = true
        ∧ (rated.rateOf 63 65535).any (fun e => decide (1024 * p.size ≤ e.level rated.fnow)) = true)
    ∧ (let s := (((node.setFld (.throt 5) throt_TLO 1).setFld (.throt 5) throt_THI 2).setFld .ccCfg ccCfg_MODE 1).setPart 5 (fun p => { p with gate := true })
      (s.part 5).gate = true ∧ s.throttle = true ∧ sumBy (fun q => s.qDepth 5 0 q) [0, 1, 8, 9] < s.fld (.throt 5) throt_TLO
        ∧ s.fld (.throt 5) throt_TLO < s.fld (.throt 5) throt_THI) := by decide +kernel

/-! ### Witnesses: faults, the interpreter, dumps and frames -/

theorem wit_FaultDeadlines :
    [clsCORR, clsCONT, clsFATAL].all (fun k =>
      let s := faulted k
      s.isLive && s.isPending 5 k && (match (s.funit 5).pend.find? (fun x => x.1 = k) with
        | some (c, p) => decide (c = k ∧ p.deadline ≤ s.fnow) && !s.ackWaits 5 p.seq
        | none => false)) = true
    ∧ (let s := (State.reset.setFld (.fltStat 6) fltStat_STATE 1).setReg .ftNow (BitVec.ofNat 64 (ms 100000))
      s.fld (.fltStat 6) fltStat_STATE ≠ 0 ∧ [clsCORR, clsCONT, clsFATAL].any (s.isPending 6) = false
        ∧ (s.funit 6).lastAt + ms (s.fld .fltCtl fltCtl_QUIET) ≤ s.fnow)
    ∧ ((Engine.core 7).wf = true ∧ late.runs 5 = true ∧ late.srcFenced 5 (Machine.Engine.src (.core 7)) = false
      ∧ (late.progOf 5 syCORE 7).at' + us (late.fld .hangCfg hangCfg_PTO) ≤ late.now) := by decide +kernel
/-- The interpreter's heartbeat checker at 100 µs, with MISS at `m` and the last heartbeat at `h`. -/
def beating (m h : Nat) : State :=
  let s := (at' (us 100)).setFld .hb hb_MISS m
  { s with mg := { s.mg with lastHb := h, hbAt := 0 } }
theorem wit_Heartbeats :
    ((beating 0 1).isLive = true ∧ (beating 0 1).mg.interp = .running ∧ (beating 0 1).mg.att = none)
    ∧ (beating 0 1).mg.hbAt + us 100 ≤ (beating 0 1).now ∧ (beating 0 1).mg.hbAt < (beating 0 1).mg.lastHb
    ∧ ((beating 3 0).mg.lastHb ≤ (beating 3 0).mg.hbAt ∧ (beating 3 0).fld .hb hb_MISS ≠ 2)
    ∧ ((beating 2 0).mg.lastHb ≤ (beating 2 0).mg.hbAt ∧ (beating 2 0).fld .hb hb_MISS = 2 ∧ (beating 2 0).mg.interp = .running)
    ∧ (let s := { beating 3 0 with mg := { (beating 3 0).mg with missAt := some 0 } }
      s.isLive = true ∧ s.mg.missAt = some 0 ∧ 0 ≤ s.now) := by decide +kernel
/-- A dump of partition 5 in slot 7 that reads core 1 next, at time `t`. -/
def dumping (t : Nat) : State :=
  let d : Dump := { part := 5, cmd := none, slot := 7, code := 0, seq := 0, start := 0, units := [(syCORE, 1)], askAt := 0, askFt := 0, bytes := 64, unread := 0,
                    recs := 0, hdr := 0, ending := none }
  { State.reset with now := t, mg := { State.reset.mg with dump := some d } }
theorem wit_Dumps :
    State.reset.mg.dump = none
    ∧ (let s : State := { State.reset with mg := { State.reset.mg with engDump := [(5, none)] } }
      s.isLive = true ∧ s.mg.dump = none ∧ s.mg.engDump = [(5, none)])
    ∧ (State.reset.fld .dumpStat dumpStat_VALID = 0
      ∧ (State.reset.setFld .dumpStat dumpStat_VALID 255).fld .dumpStat dumpStat_VALID = 255)
    ∧ ((dumping (ms 5)).isLive = true ∧ (dumping (ms 5)).mg.dump.any (fun d => decide (d.ending = none ∧ d.start + ms 5 ≤ ms 5)) = true)
    ∧ ((dumping (us 2)).mg.dump.any (fun d => decide (d.units = [(syCORE, 1)] ∧ d.askAt + us 2 ≤ us 2)) = true
      ∧ (dumping (us 2)).unitOff 5 syCORE 1 = false ∧ 8 * 1 < ((dumping (us 2)).unitData 5 syCORE 1).length)
    ∧ ((dumping 0).setReg (.fltFence 5) 0xFFFF).unitOff 5 syCORE 1 = true := by decide +kernel
/-- Each row named in a frame answers a next state after reset, where nothing waits. -/
def answers (c : Instr) : Bool := match exec c State.reset with | .next _ => true | _ => false
theorem wit_PaceRowsFrame :
    State.reset.quiet = true ∧ [Instr.droopTrip 23, .droopClear 23, .droopHoldExpiry 5, .droopDescentStep 5, .thermalReading 11 0x1E0,
      .thermalDemandStep 5, .powerEstimate ⟨511, 750⟩, .powerDemandLower].all answers = true := by decide +kernel
theorem wit_LinkRowsFrame :
    [Instr.startReceive 17 0, .creditReceive 17 11 16383, .ackBlockReceive 17 0, .creditRefresh 17, .controlBlockForced 17,
      .announcedIdleEntry 17, .fastExit 17].all answers = true
    ∧ State.reset.quiet = true ∧ State.reset.fld (statReg 17) portStat_RXIDLE = 0 := by decide +kernel

/-! ### Worked examples of the spec -/

/-- "Table — Encoded PUT command" (02). -/
def putExample : Cmd :=
  { w0 := 0x0123257404490001, w1 := 0x5A3C00A000001000, w2 := 0x0004200000100000, w3 := 0x0000700000008000, w4 := 0, w5 := 0, w6 := 0, w7 := 0 }
theorem test_command_fields : putExample.opc = 0x01 ∧ putExample.flags = 0x049 ∧ putExample.scope = 1 ∧ putExample.dst = 0x2574
    ∧ putExample.tag = 0x0123 ∧ putExample.len = 0x1000 ∧ putExample.sync = 0xA0 ∧ putExample.key = 0x5A3C ∧ putExample.rreg = 0x42
    ∧ putExample.roff = 0x100000 ∧ putExample.lreg = 7 ∧ putExample.loff = 0x8000 := by decide +kernel
theorem test_command_bytes : putExample.bytes.take 8 = [0x01, 0x00, 0x49, 0x04, 0x74, 0x25, 0x23, 0x01] := by decide +kernel
/-- The record of that command (02, after R86): PH is set when the record is written. -/
theorem test_record_word : recWord0 0x0123 stDONE 0 0x01A2B 3 0x01 + 2 ^ 31 = 0x01301A2B80000123 := by decide +kernel
/-- "Table — Header and descriptor of frame 0" (07). -/
def frameExample : Hdr :=
  { dst := 0x2574, src := 0x1571, slice := 5, cls := 4, dl := 0, gen := 3, ep := 0, col := 0, ecn := 1, opc := 1, tag := 0x0210, len := 0x3F,
    hop := 0, flags := 0x049 }
theorem test_header_bytes : natBytes 12 frameExample.bits.toNat
    = [0x74, 0x25, 0x71, 0x15, 0x05, 0x0D, 0x0A, 0x80, 0x10, 0xF8, 0x41, 0x12] := by decide +kernel
theorem test_descriptor : (let d : Desc := { Desc.ofNat 0 with
      rreg := 0x42, roff := 0x100000, key := 0x5A3C, sync := 0xA0, qid := 0x1A2B, seq := 7, tlen := 4096 }
    d.toNat = 0x0000010000000042 + 0x00701A2B00A05A3C <<< 64 + 0x00010000 <<< 128) := by decide +kernel
/-- The record of node 0x257 on port 12 with number 0x1234 (16). -/
theorem test_seal_iv : sealIv 0x257 12 false 0x1234 = 0x257600000000000000001234#96 := by decide +kernel
theorem test_seal_blocks : (sealBlocks false 0x1234 0).map (fun b => b.toNat % 65536) = [0xD070, 0xD170] := by decide +kernel
/-- "Table — Weighted fold losing a bit past the guard bits" (06). -/
theorem test_fold_drops_a_bit :
    foldSum 0 ((decodeElem 0 0x4B800000).mul (decodeElem 0 0x3F800000)) = 0x425C000004000000
    ∧ foldSum 0x425C000004000000 ((decodeElem 0 0x3FC00000).mul (decodeElem 0 0x3F300000)) = 0x425C000004000004
    ∧ (emitAcc 0 0 false 0 0 0x425C000004000004).code = 0x4B800000 := by decide +kernel
/-- "Table — The value 1.0625 in E4M3 by rounding mode" (06): RNE, RTZ, and SR with noise 0x7FF and 0x800. -/
theorem test_tie_by_mode : [(0, 0), (1, 0), (2, 0x7FF), (2, 0x800)].map (fun x => (emitAcc 5 x.1 false 0 x.2 0x41FC000004400000).code)
    = [0x38, 0x38, 0x38, 0x39] := by decide +kernel
/-- "Table — Largest accumulator near 448 in E4M3" (06): RNE with OVF 0 and 1, and RTZ. -/
theorem test_near_largest : [460, 464, 470, 500].map (fun m =>
      let v := Val.fin false m 0
      let r0 := emitVal 5 0 false 0 0 v
      let rt := emitVal 5 1 false 0 0 v
      (r0.code, r0.sat, (emitVal 5 0 true 0 0 v).code, rt.code, rt.sat))
    = [(0x7E, false, 0x7E, 0x7E, false), (0x7E, true, 0x7F, 0x7E, false), (0x7E, true, 0x7F, 0x7E, false), (0x7E, true, 0x7F, 0x7E, true)] := by
  decide +kernel
/-- "Table — Peck with one giant element" and the zero peck (06). -/
theorem test_giant_peck : emitPeck 5 0 false (fun _ => 0)
      ([Val.fin false 1 20, .fin false 1 2, .fin false 3 1] ++ List.replicate 29 (Val.fin false 3 (-1)) |>.map accWord)
    = ([0x8B, 0x78, 0x00, 0x01] ++ List.replicate 29 0, 0, 30)
    ∧ emitPeck 5 0 false (fun _ => 0) (List.replicate 32 0) = (List.replicate 33 0, 0, 0) := by decide +kernel
/-- The same two adds combined and apart (03): 16,777,216.0 and 1.0 twice. -/
theorem test_combined_add : atomicOp 2 0x4B800000 (fadd 0 0x3F800000 0x3F800000) 0 = 0x4B800001
    ∧ atomicOp 2 (atomicOp 2 0x4B800000 0x3F800000 0) 0x3F800000 0 = 0x4B800000 := by decide +kernel
/-- Reset values of DX_FLT_THR and addresses worked in 18 and 10. -/
theorem test_register_addresses : (Reg.fltThr 1).reset = 0x03E80040 ∧ (Reg.fltThr 4).reset = 0x0000039387000004
    ∧ (Reg.fltThr 0x2B).reset = 0x00010001 ∧ (Reg.portCfg 3 2).addr = 0x00401080
    ∧ Reg.ofAddr (0x01000000 + 8 * 0x153) = some (.rtab 0 0x153) := by decide +kernel
/-- Port-local lane 3 of E7, and lane 157 (01, 18). -/
theorem test_lanes : lanePort 155 = 7 ∧ laneLocal 155 = 3 ∧ lanePort 157 = 7 ∧ laneLocal 157 = 5 ∧ portPart 7 = 3 := by decide +kernel
/-- The string "123456789" under each polynomial (12, "Table — Check polynomials"). -/
theorem test_crc : (List.range 4).map (fun p => crcOf p [0x31, 0x32, 0x33, 0x34, 0x35, 0x36, 0x37, 0x38, 0x39])
    = [0xE3069283, 0xCBF43926, 0x6C40DF5F0B497347, 0x29B1] := by decide +kernel

/-! ### Single steps -/

/-- R430: a trip in partition 5 makes its demand DSTEP and counts one; its S is that demand (R429). -/
theorem test_droop_trip : (let s := ex (.droopTrip 23) (State.reset.setFld .paceCfg paceCfg_DSTEP 3)
    (s.fld (.paceStat 5) paceStat_SDROOP, s.fld (.paceStat 5) paceStat_DROOPS, s.fld (.paceStat 4) paceStat_DROOPS) = (3, 1, 0)) := by
  decide +kernel
/-- R431: one level down 50 ns after the hold. -/
theorem test_droop_descent : (let s := ex (.droopDescentStep 5) { ex (.droopHoldExpiry 5) (cleared (ns 300)) with now := ns 350 }
    s.fld (.paceStat 5) paceStat_SDROOP + 1 = (cleared 0).fld (.paceStat 5) paceStat_SDROOP) := by decide +kernel
/-- R435: an estimate above the cap raises the power demand by one level. -/
theorem test_power_demand : (ex (.powerEstimate ⟨511, 750⟩) State.reset).pw.demand = 1 ∧ (ex (.powerEstimate ⟨100, 750⟩) State.reset).pw.demand = 0 := by
  decide +kernel
/-- R477: a period without a heartbeat counts in MISS. -/
theorem test_missed_heartbeat : (ex .heartbeatCheck (beating 0 0)).fld .hb hb_MISS = 1
    ∧ (ex .heartbeatCheck (beating 1 1)).fld .hb hb_MISS = 0 := by decide +kernel
/-- R477: the third raises code 0x39 and hangs the interpreter. -/
theorem test_third_miss : (ex .heartbeatCheck (beating 2 0)).fld .hb hb_MISS = 3
    ∧ (ex .heartbeatCheck (beating 2 0)).mg.interp = .hung := by decide +kernel
/-- R166: SYNC_ADD adds 1 to object 0 of slice 0; another owner's object is left alone (R165). -/
theorem test_sync_add : (owning.syncOpTake 0 (syncPkt' opSYNCADD)).syncVal 0 = 1
    ∧ (node.syncOpTake 0 (syncPkt' opSYNCADD)).syncVal 0 = 0 := by decide +kernel
/-- R224: a failing accumulation tile aborts the step, and nothing is emitted. -/
theorem test_bad_accumulator : (let s := ex (.actionMcast 0 0 0 (some ⟨0, 0, false, 3⟩)) (gal1 gsRUNNING actMCAST 1 0)
    (s.fld (.galStat 0) galStat_ABORTS, s.fld (.galStat 0) galStat_LASTRSN, (s.gal 0).emits.length, s.sw.inj.length) = (1, grCHECK, 0, 0)) := by
  decide +kernel
/-- R265: x^10 = x^3 + 1 in GF(2^10), and α has order 1,023. -/
theorem test_gf : gfMul 2 512 = 9 ∧ gfMul (gfInv 777) 777 = 1 ∧ alpha 1023 = 1 := by decide +kernel
/-- R265: RS(136,132) corrects two symbols of a unit. -/
theorem test_short_fec : (let m := (List.range 132).map (fun i => 7 * i)
    let w := m ++ rsParity 4 m
    rsDecode 4 w = some (w, 0) ∧ rsDecode 4 ((w.set 3 1000).set 135 5) = some (w, 2)) := by decide +kernel
/-- R265: four blocks survive the transcoding of classes C and O. -/
theorem test_transcode : (let bs : List Blk := [.data 0xFFFF, .ctl 0x31, .ctl 0xABCD30, .data 7]
    untranscode false ((transcode bs).map some) = bs) := by decide +kernel
/-- R268: a hunting lane slips one bit, finds the unit boundary and locks after 64 valid headers. -/
theorem test_hunting : (let s := (State.reset.setFld (cfgReg 12) portCfg_REACH 0).setLane 3 (fun x => { x with
      buf := some true :: ((List.range 4).flatMap (fun _ => unitEncode 0 (List.replicate 20 (.data 0xF0)))).map some })
    (((s.unitsTake 3 6).lane 3).locked, ((s.unitsTake 3 6).lane 3).buf.length, ((s.unitsTake 3 4).lane 3).good) = (true, 0, 60)) := by
  decide +kernel
/-- R270: the stream is dealt in ascending lane index, with a MARK in one position of 16,384. -/
theorem test_dealing : (let bs : List Blk := (List.range 8).map (fun i => .data (BitVec.ofNat 64 i))
    dealt 4 2 1 .bad bs = .data 6 ∧ dealt 4 2 16383 .bad bs = .bad ∧ dealt 4 0 2 .bad bs = .ctl 0) := by decide +kernel
/-- R241, R250, R263: a GET cell with a non-zero byte behind its descriptor is malformed; its COL is not looked at. -/
theorem test_cell_fields : (let p := { aCell with pay := zeros 48 }
    p.wellFormed = true ∧ Pkt.wellFormed { p with h := { p.h with col := 3 } } = true
      ∧ Pkt.wellFormed { p with pay := p.pay.set 20 1 } = false) := by decide +kernel
/-- R272: the TRAIN block of lane 3 of a torus port in LOCK with no lane aligned, at node 0. -/
theorem test_train_block : (port State.reset 12 psLOCK).laneSends 12 3 0
    = some (BitVec.ofNat 64 (0x60 + (State.reset.fld (cfgReg 12) portCfg_REACH) <<< 8 + 0x400 + 0x3000)) := by decide +kernel
/-- Without power no command has an effect (log entry 9). -/
theorem test_no_power : (let s := ex .blockPowerOff State.reset
    (ex (.droopTrip 23) s).regs = [] ∧ (ex (.droopTrip 23) s).out = s.out) := by decide +kernel

end Sys2Proof.Tests
end

section
/-! PROOF. The power of the block (R17, log entry 9): what a command can do by whether the block has power, what a command
and a tick leave alone, and what a block without power holds. -/

namespace Sys2Proof.Machine

/-! ### What a command can do -/

/-- What a command other than those of the lines may leave: the state as it was, or, where the block has power, one event
settled. -/
def State.Settles (s t : State) : Prop := t = s ∨ (s.powered = true ∧ ∃ u, t = s.after u)

theorem State.settles_onPower (s u : State) : s.Settles (s.onPower u) := by
  unfold State.onPower
  split
  case isTrue h => exact .inr ⟨h, u, rfl⟩
  case isFalse => exact .inl rfl

theorem State.settles_onLive (s u : State) : s.Settles (s.onLive u) := by
  unfold State.onLive
  split
  case isTrue h => exact .inr ⟨(Bool.and_eq_true_iff.mp h).1, u, rfl⟩
  case isFalse => exact .inl rfl

/-- The end of a block reset is an event that only a powered block in block reset takes. -/
theorem State.settles_blockDone (s : State) :
    s.Settles (if s.powered && s.blkRun && !s.blkOn then s.after s.blockDone else s) := by
  split
  case isTrue h =>
    simp only [Bool.and_eq_true] at h
    exact .inr ⟨h.1.1, s.blockDone, rfl⟩
  case isFalse => exact .inl rfl

theorem State.Settles.eq_of_unpowered {s t : State} (h : s.Settles t) (hp : s.powered = false) : t = s := by
  rcases h with rfl | ⟨hon, -⟩
  · rfl
  · simp [hp] at hon

/-- An outcome under a check is a next state exactly when the check holds. -/
theorem ifWf_eq_next {ok : Bool} {s t : State} : ifWf ok s = .next t ↔ ok = true ∧ s = t := by
  cases ok <;> simp [ifWf]

/-- Every command but those of the lines is an event that settles, under a check that a well-formed command passes. -/
theorem exec_eq_ifWf (c : Instr) (s : State) (hline : isLine c = false) :
    ∃ ok t, (c.wf = true → ok = true) ∧ exec c s = ifWf ok t ∧ s.Settles t := by
  cases c
  case blockPowerUp | blockPowerOff | windowEnableChange | blockResetAssert | blockResetRelease | partitionResetAssert
    | partitionResetRelease | trefLoss | trefReturn => cases hline
  case blockResetComplete => exact ⟨_, _, id, rfl, s.settles_blockDone⟩
  case droopTrip | droopClear | thermalReading => exact ⟨_, _, id, rfl, s.settles_onPower _⟩
  case retransmitTimer => exact ⟨true, _, fun _ => rfl, rfl, s.settles_onLive _⟩
  all_goals exact ⟨_, _, id, rfl, s.settles_onLive _⟩

/-- A well-formed command other than those of the lines leaves a block without power as it is. -/
theorem exec_of_unpowered {c : Instr} {s : State} (hwf : c.wf = true) (hp : s.powered = false) (hline : isLine c = false) :
    exec c s = .next s := by
  obtain ⟨ok, t, hok, hexec, ht⟩ := exec_eq_ifWf c s hline
  rw [hexec, ifWf_eq_next]
  exact ⟨hok hwf, ht.eq_of_unpowered hp⟩

/-- What a next state of a command other than those of the lines is. -/
theorem settles_of_exec {c : Instr} {s t : State} (hline : isLine c = false) (h : exec c s = .next t) : s.Settles t := by
  obtain ⟨ok, u, -, hexec, hu⟩ := exec_eq_ifWf c s hline
  obtain ⟨-, rfl⟩ := ifWf_eq_next.mp (hexec.symm.trans h)
  exact hu

/-! ### What a command leaves alone

`s.atOnce t = t` says that `t` has the queue, the clock, the power and the window-enable line of `s`. -/

theorem State.atOnce_eq_iff {s t : State} : s.atOnce t = t ↔
    t.pending = s.pending ∧ t.now = s.now ∧ t.powered = s.powered ∧ t.winEn = s.winEn := by
  constructor
  · intro h
    rw [← h]
    exact ⟨rfl, rfl, rfl, rfl⟩
  · rintro ⟨hq, hn, hp, hw⟩
    unfold State.atOnce
    rw [← hq, ← hn, ← hp, ← hw]

theorem State.atOnce_self (s : State) : s.atOnce s = s := rfl

theorem State.atOnce_atOnce (s u : State) : s.atOnce (s.atOnce u) = s.atOnce u := rfl

theorem State.atOnce_trans {s t u : State} (h : s.atOnce t = t) (h' : t.atOnce u = u) : s.atOnce u = u := by
  obtain ⟨hq, hn, hp, hw⟩ := State.atOnce_eq_iff.mp h
  obtain ⟨hq', hn', hp', hw'⟩ := State.atOnce_eq_iff.mp h'
  exact State.atOnce_eq_iff.mpr ⟨hq'.trans hq, hn'.trans hn, hp'.trans hp, hw'.trans hw⟩

theorem State.Settles.atOnce_eq {s t : State} (h : s.Settles t) : s.atOnce t = t := by
  rcases h with rfl | ⟨-, u, rfl⟩
  · exact State.atOnce_self t
  · exact s.atOnce_atOnce u.settle

/-- The commands of the lines. -/
theorem eq_of_isLine {c : Instr} (h : isLine c = true) : c = .blockPowerUp ∨ c = .blockPowerOff
    ∨ (∃ on, c = .windowEnableChange on) ∨ c = .blockResetAssert ∨ c = .blockResetRelease
    ∨ (∃ n, c = .partitionResetAssert n) ∨ (∃ n, c = .partitionResetRelease n) ∨ c = .trefLoss ∨ c = .trefReturn := by
  unfold isLine at h
  split at h
  case h_10 => cases h
  all_goals simp

/-- The commands of power and window-enable. -/
theorem eq_of_isPowerLine {c : Instr} (h : isPowerLine c = true) :
    c = .blockPowerUp ∨ c = .blockPowerOff ∨ ∃ on, c = .windowEnableChange on := by
  unfold isPowerLine at h
  split at h
  case h_4 => cases h
  all_goals simp

/-- `t` is `s` but for the reset lines, the partitions' own state and the time reference. -/
def State.MovesLines (s t : State) : Prop :=
  t = { s with blkOn := t.blkOn, blkAt := t.blkAt, parts := t.parts, ft := t.ft }

/-- A command of the reset lines or the time reference leaves the queue, the clock and the lines of power alone, and without
power it moves nothing but its line. -/
def State.LineRow (s t : State) : Prop := s.atOnce t = t ∧ (s.powered = false → s.MovesLines t)

theorem State.LineRow.refl (s : State) : s.LineRow s := ⟨rfl, fun _ => rfl⟩

theorem State.LineRow.of_settles {s t : State} (h : s.Settles t) : s.LineRow t :=
  ⟨h.atOnce_eq, fun hp => by rw [h.eq_of_unpowered hp]; rfl⟩

theorem State.lineRow_setPart (s : State) (n : Nat) (f : Part → Part) : s.LineRow (s.setPart n f) := ⟨rfl, fun _ => rfl⟩

theorem State.lineRow_setFt (s : State) (f : FTime → FTime) : s.LineRow (s.setFt f) := ⟨rfl, fun _ => rfl⟩

theorem State.LineRow.trans {s t u : State} (h : s.LineRow t) (h' : t.LineRow u) : s.LineRow u := by
  obtain ⟨hon, hoff⟩ := h
  obtain ⟨hon', hoff'⟩ := h'
  obtain ⟨-, -, hp, -⟩ := State.atOnce_eq_iff.mp hon
  refine ⟨State.atOnce_trans hon hon', fun hs => ?_⟩
  exact (hoff' (hp.trans hs)).trans (by rw [hoff hs])

theorem State.lineRow_setBlk (s : State) (on : Bool) (a : Nat) : s.LineRow { s with blkOn := on, blkAt := a } :=
  ⟨rfl, fun _ => rfl⟩

/-- A block reset line is taken only where the block has power. -/
theorem State.lineRow_blockLineDue (s : State) : s.LineRow s.blockLineDue := by
  unfold State.blockLineDue
  split
  case isTrue h =>
    refine ⟨s.atOnce_atOnce s.blockTake, fun hp => ?_⟩
    simp [hp] at h
  case isFalse => exact .refl s

theorem exec_blockResetAssert_lineRow {s t : State} (h : exec .blockResetAssert s = .next t) : s.LineRow t := by
  obtain rfl : (if s.blkOn then s else State.blockLineDue { s with blkOn := true, blkAt := s.now }) = t :=
    Host.Outcome.next.inj h
  split
  · exact .refl s
  · exact (s.lineRow_setBlk true s.now).trans (State.lineRow_blockLineDue _)

theorem exec_blockResetRelease_lineRow {s t : State} (h : exec .blockResetRelease s = .next t) : s.LineRow t := by
  have hfall := s.lineRow_blockLineDue.trans (s.blockLineDue.lineRow_setBlk false s.blockLineDue.blkAt)
  obtain rfl := Host.Outcome.next.inj h
  split
  · exact .refl s
  · split
    · exact hfall
    case isFalse hrun =>
      simp only [Bool.or_eq_true, Bool.not_eq_true', not_or, Bool.not_eq_false] at hrun
      exact .of_settles (.inr ⟨hrun.2, _, rfl⟩)

theorem exec_partitionResetAssert_lineRow {n : Nat} {s t : State} (h : exec (.partitionResetAssert n) s = .next t) :
    s.LineRow t := by
  obtain ⟨-, rfl⟩ := ifWf_eq_next.mp h
  exact s.lineRow_setPart n _

theorem exec_partitionResetRelease_lineRow {n : Nat} {s t : State} (h : exec (.partitionResetRelease n) s = .next t) :
    s.LineRow t := by
  obtain ⟨-, rfl⟩ := ifWf_eq_next.mp h
  split
  case isTrue hlive => exact .of_settles (.inr ⟨(Bool.and_eq_true_iff.mp hlive).1, _, rfl⟩)
  case isFalse => exact s.lineRow_setPart n _

theorem exec_trefLoss_lineRow {s t : State} (h : exec .trefLoss s = .next t) : s.LineRow t := by
  obtain rfl : (if s.powered then s.onPower s.trefLoss else s.setFt (fun x => { x with tref := false, lostAt := s.now })) = t :=
    Host.Outcome.next.inj h
  split
  · exact .of_settles (s.settles_onPower s.trefLoss)
  · exact s.lineRow_setFt _

theorem exec_trefReturn_lineRow {s t : State} (h : exec .trefReturn s = .next t) : s.LineRow t := by
  obtain rfl : (if s.powered then s.onPower s.trefReturn else s.setFt (fun x => { x with tref := true, lost := false })) = t :=
    Host.Outcome.next.inj h
  split
  · exact .of_settles (s.settles_onPower s.trefReturn)
  · exact s.lineRow_setFt _

/-- Only the commands of power and of window-enable change those lines, no command changes the queue's rest or the clock, and
without power no other command moves more than an input line. -/
theorem exec_lineRow {c : Instr} {s t : State} (hc : isPowerLine c = false) (h : exec c s = .next t) : s.LineRow t := by
  by_cases hline : isLine c = true
  · rcases eq_of_isLine hline with rfl | rfl | ⟨on, rfl⟩ | rfl | rfl | ⟨n, rfl⟩ | ⟨n, rfl⟩ | rfl | rfl
    · cases hc
    · cases hc
    · cases hc
    · exact exec_blockResetAssert_lineRow h
    · exact exec_blockResetRelease_lineRow h
    · exact exec_partitionResetAssert_lineRow h
    · exact exec_partitionResetRelease_lineRow h
    · exact exec_trefLoss_lineRow h
    · exact exec_trefReturn_lineRow h
  · exact .of_settles (settles_of_exec (Bool.eq_false_iff.mpr hline) h)

/-! ### The passing of time -/

/-- `t` is `s` but for its registers. -/
def State.OnlyRegs (s t : State) : Prop := t = { s with regs := t.regs }

theorem State.OnlyRegs.trans {s t u : State} (h : s.OnlyRegs t) (h' : t.OnlyRegs u) : s.OnlyRegs u :=
  Eq.trans h' (by rw [h])

theorem State.OnlyRegs.atOnce_eq {s t : State} (h : s.OnlyRegs t) : s.atOnce t = t := by
  rw [h]
  rfl

theorem State.onlyRegs_foldl {α : Type} {f : State → α → State} (hf : ∀ (s : State) a, s.OnlyRegs (f s a)) (l : List α) (s : State) :
    s.OnlyRegs (l.foldl f s) := by
  induction l generalizing s with
  | nil => rfl
  | cons a l ih => exact (hf s a).trans (ih (f s a))

theorem State.onlyRegs_stall (s : State) (n : Nat) (r : Reg) (w : List Pkt) : s.OnlyRegs (s.stall n r w) := by
  unfold State.stall
  split <;> rfl

/-- The stall counters are registers (R396). -/
theorem State.onlyRegs_stalls (s : State) : s.OnlyRegs s.stalls :=
  State.onlyRegs_foldl (fun _ _ => State.OnlyRegs.trans
    (State.onlyRegs_foldl (fun _ _ => (State.onlyRegs_stall _ _ _ _).trans (State.onlyRegs_stall _ _ _ _)) _ _)
    (State.onlyRegs_stall _ _ _ _)) _ s

theorem State.atOnce_refEdge (s : State) : s.atOnce s.refEdge = s.refEdge :=
  State.atOnce_trans rfl (State.onlyRegs_stalls _).atOnce_eq

theorem State.atOnce_trefDue (s : State) : s.atOnce s.trefDue = s.trefDue := by
  unfold State.trefDue
  split
  · exact s.atOnce_atOnce s.trefLoss.settle
  · exact s.atOnce_self

/-- Without power a tick moves the clock only. -/
theorem State.tick_of_unpowered {s : State} (hp : s.powered = false) : s.tick = { s with now := s.now + 16 } := by
  simp [State.tick, hp]

/-- A tick moves the clock by one period, and leaves the queue and the lines of power alone. -/
theorem State.atOnce_tick (s : State) : State.atOnce { s with now := s.now + 16 } s.tick = s.tick := by
  unfold State.tick
  dsimp only
  split
  · rfl
  · refine State.atOnce_trans (State.atOnce_trans ?_ (State.atOnce_trefDue _)) (State.lineRow_blockLineDue _).1
    split
    · rfl
    · exact State.atOnce_refEdge _

theorem State.tick_powered (s : State) : s.tick.powered = s.powered := by
  rw [← s.atOnce_tick]
  rfl

/-! ### What a block without power holds -/

theorem State.MovesLines.holdsNothing {s t : State} (h : s.MovesLines t) (hs : s.holdsNothing) : t.holdsNothing := by
  rw [h]
  exact hs

/-- A block that is switched off or on holds nothing (R17). -/
theorem State.holdsNothing_cold (s : State) (on : Bool) : (s.cold on).holdsNothing :=
  ⟨rfl, rfl, rfl, rfl, rfl, rfl, rfl, rfl, rfl, rfl⟩

/-- Signals are no part of what the block holds. -/
theorem State.holdsNothing_allPorts {s : State} (o : Nat → Out) (hs : s.holdsNothing) : (s.allPorts o).holdsNothing := hs

/-- After a power-up the block has power, whether it had it before or not. -/
theorem State.blockPowerOn_powered (s : State) : s.blockPowerOn.powered = true := by
  unfold State.blockPowerOn
  split
  case isTrue h => exact h
  case isFalse => rfl

/-- The commands of power and window-enable keep: a block without power holds nothing. -/
theorem exec_powerLine_keeps {c : Instr} {s t : State} (hc : isPowerLine c = true) (hs : s.powered = false → s.holdsNothing)
    (h : exec c s = .next t) (ht : t.powered = false) : t.holdsNothing := by
  rcases eq_of_isPowerLine hc with rfl | rfl | ⟨on, rfl⟩
  · obtain rfl : s.blockPowerOn = t := Host.Outcome.next.inj h
    simp [State.blockPowerOn_powered] at ht
  · obtain rfl : (s.cold false).allPorts Out.off = t := Host.Outcome.next.inj h
    exact State.holdsNothing_allPorts Out.off (s.holdsNothing_cold false)
  · obtain rfl : { s with winEn := on } = t := Host.Outcome.next.inj h
    exact hs ht

/-- Every command keeps: a block without power holds nothing. -/
theorem exec_keeps_unpowered_holdsNothing {c : Instr} {s t : State} (hs : s.powered = false → s.holdsNothing)
    (h : exec c s = .next t) (ht : t.powered = false) : t.holdsNothing := by
  by_cases hc : isPowerLine c = true
  · exact exec_powerLine_keeps hc hs h ht
  · obtain ⟨hon, hoff⟩ := exec_lineRow (Bool.eq_false_iff.mpr hc) h
    obtain ⟨-, -, hp, -⟩ := State.atOnce_eq_iff.mp hon
    have hdead : s.powered = false := hp.symm.trans ht
    exact (hoff hdead).holdsNothing (hs hdead)

/-- Every step keeps: a block without power holds nothing. -/
theorem step_keeps_unpowered_holdsNothing {s t : State} (hs : s.powered = false → s.holdsNothing)
    (h : step s = .next t) (ht : t.powered = false) : t.holdsNothing := by
  unfold step at h
  split at h
  case h_1 =>
    obtain rfl := Host.Outcome.next.inj h
    have hdead : s.powered = false := s.tick_powered.symm.trans ht
    rw [State.tick_of_unpowered hdead]
    exact hs hdead
  case h_2 c rest _ => exact exec_keeps_unpowered_holdsNothing (s := { s with pending := rest }) hs h ht

/-! ### A power cycle -/

theorem State.part_allPorts (s : State) (o : Nat → Out) (n : Nat) : (s.allPorts o).part n = s.part n := rfl

/-- A block that is switched off or on has every partition at reset but for its input line. -/
theorem State.part_cold (s : State) (on : Bool) (n : Nat) :
    (s.cold on).part n = { Part.init with lineOn := (s.part n).lineOn, lineAt := (s.part n).lineAt } := by
  simp only [State.part, State.cold, Vector.getElem?_map]
  cases s.parts[n]? <;> rfl

end Sys2Proof.Machine

open Sys2Proof.Machine Sys2Proof

/-- Settles O6, by what each step may do to an unpowered block. -/
theorem unpoweredHoldsNothing : Obligations.UnpoweredHoldsNothing := by
  unfold Obligations.UnpoweredHoldsNothing
  intro s t hs hstep ht
  exact step_keeps_unpowered_holdsNothing hs hstep ht

/-- Settles O9: an event that reaches an unpowered block does nothing. -/
theorem deadBlockIsUntouched : Obligations.DeadBlockIsUntouched := by
  unfold Obligations.DeadBlockIsUntouched
  intro c s hwf hp hline
  exact exec_of_unpowered hwf hp hline

/-- Settles O17: switching off and switching on each leave the cold state. -/
theorem powerCycleResets : Obligations.PowerCycleResets := by
  unfold Obligations.PowerCycleResets
  intro s
  refine ⟨(s.cold false).allPorts Out.off, (((s.cold false).allPorts Out.off).cold true).allPorts Out.quiet, rfl, rfl,
    s.holdsNothing_cold false, rfl, rfl, State.holdsNothing_cold _ true, fun _ => rfl, fun n => ?_,
    rfl, rfl, rfl, rfl, rfl, rfl⟩
  simp only [State.part_allPorts, State.part_cold]

/-- Settles O7, by evaluating each invariant at reset. -/
theorem invariantsAtReset : Obligations.InvariantsAtReset :=
  ⟨rfl, State.reset_regsOk, State.reset_memory_wf, nofun, by decide⟩

end

section
/-! PROOF. Fields and parts as updates leave them: a field written reads as written, a field apart from it and a register
at another address as before; and the outcome of a row that a live block takes. -/

namespace Sys2Proof.Machine

/-! ### Fields of words -/

theorem testBit_fget (r : Word) (p : Pos) (i : Nat) :
    (fget r p).testBit i = (decide (i < p.w) && r.getLsbD (p.lo + i)) := by
  simp [fget, Nat.testBit_mod_two_pow, Nat.testBit_shiftRight, BitVec.getLsbD]

theorem getLsbD_fmask (p : Pos) {i : Nat} (hi : i < 64) :
    (fmask p).getLsbD i = (decide (p.lo ≤ i) && decide (i - p.lo < p.w)) := by
  rw [fmask, BitVec.getLsbD_ofNat, Nat.testBit_shiftLeft, Nat.testBit_two_pow_sub_one]
  simp [hi]

theorem getLsbD_fset (r : Word) (p : Pos) (v : Nat) {i : Nat} (hi : i < 64) :
    (fset r p v).getLsbD i = if p.lo ≤ i ∧ i - p.lo < p.w then v.testBit (i - p.lo) else r.getLsbD i := by
  simp only [fset, BitVec.getLsbD_or, BitVec.getLsbD_and, BitVec.getLsbD_not, getLsbD_fmask p hi, BitVec.getLsbD_ofNat,
    Nat.testBit_shiftLeft, Nat.testBit_mod_two_pow, hi]
  by_cases hlo : p.lo ≤ i <;> by_cases hw : i - p.lo < p.w <;> simp [hlo, hw]

/-- A field just written. -/
theorem fget_fset_same (r : Word) {p : Pos} (v : Nat) (hp : p.lo + p.w ≤ 64) : fget (fset r p v) p = v % 2 ^ p.w := by
  refine Nat.eq_of_testBit_eq fun i => ?_
  rw [testBit_fget, Nat.testBit_mod_two_pow]
  by_cases hi : i < p.w
  · rw [getLsbD_fset r p v (by omega)]
    simp [hi]
  · simp [hi]

/-- A field apart from the one written. -/
theorem fget_fset_apart (r : Word) {p q : Pos} (v : Nat) (hq : q.lo + q.w ≤ 64) (h : p.lo + p.w ≤ q.lo ∨ q.lo + q.w ≤ p.lo) :
    fget (fset r p v) q = fget r q := by
  refine Nat.eq_of_testBit_eq fun i => ?_
  rw [testBit_fget, testBit_fget]
  by_cases hi : i < q.w
  · rw [getLsbD_fset r p v (by omega), if_neg (by omega)]
  · simp [hi]

/-! ### Fields of registers -/

theorem State.fld_setReg_ne (s : State) {r q : Reg} (v : Word) (p : Pos) (h : q.addr ≠ r.addr) :
    (s.setReg r v).fld q p = s.fld q p := by
  rw [State.fld, State.reg_setReg_ne s v h, State.fld]

theorem State.fld_setFld_same (s : State) (r : Reg) {p : Pos} (v : Nat) (hp : p.lo + p.w ≤ 64) :
    (s.setFld r p v).fld r p = v % 2 ^ p.w := by
  rw [State.fld, State.reg_setFld_same, fget_fset_same _ _ hp]

theorem State.fld_setFld_of_lt (s : State) (r : Reg) {p : Pos} {v : Nat} (hp : p.lo + p.w ≤ 64) (hv : v < 2 ^ p.w) :
    (s.setFld r p v).fld r p = v := by
  rw [s.fld_setFld_same r v hp, Nat.mod_eq_of_lt hv]

theorem State.fld_setFld_apart (s : State) (r : Reg) {p q : Pos} (v : Nat) (hq : q.lo + q.w ≤ 64)
    (h : p.lo + p.w ≤ q.lo ∨ q.lo + q.w ≤ p.lo) : (s.setFld r p v).fld r q = s.fld r q := by
  rw [State.fld, State.reg_setFld_same, fget_fset_apart _ _ hq h, State.fld]

theorem State.fld_setFld_ne (s : State) {r q : Reg} (p p' : Pos) (v : Nat) (h : q.addr ≠ r.addr) :
    (s.setFld r p v).fld q p' = s.fld q p' := s.fld_setReg_ne _ p' h

theorem State.fld_count_apart (s : State) (r : Reg) {p q : Pos} (k : Nat) (hq : q.lo + q.w ≤ 64)
    (h : p.lo + p.w ≤ q.lo ∨ q.lo + q.w ≤ p.lo) : (s.count r p k).fld r q = s.fld r q := by
  rw [State.fld, State.reg_count_same, fsat, fget_fset_apart _ _ hq h, State.fld]

theorem State.fld_count_ne (s : State) {r q : Reg} (p p' : Pos) (k : Nat) (h : q.addr ≠ r.addr) :
    (s.count r p k).fld q p' = s.fld q p' := s.fld_setReg_ne _ p' h

/-! ### Parts -/

/-- A part of the block just changed. -/
theorem State.part_setPart_same (s : State) {n : Nat} (f : Part → Part) (hn : n < 6) :
    (s.setPart n f).part n = f (s.part n) := by
  simp [State.part, State.setPart, hn]

/-- The registers are no part of a partition's own state. -/
@[simp] theorem State.reg_setPart (s : State) (n : Nat) (f : Part → Part) (r : Reg) : (s.setPart n f).reg r = s.reg r := rfl

@[simp] theorem State.fld_setPart (s : State) (n : Nat) (f : Part → Part) (r : Reg) (p : Pos) :
    (s.setPart n f).fld r p = s.fld r p := rfl

/-- Another part. -/
theorem State.part_setPart_ne (s : State) {n m : Nat} (f : Part → Part) (h : n ≠ m) : (s.setPart n f).part m = s.part m := by
  simp [State.part, State.setPart, h]

/-! ### What a row leaves in a live block -/

theorem State.powered_of_isLive {s : State} (h : s.isLive = true) : s.powered = true := (Bool.and_eq_true_iff.mp h).1

theorem State.blkRun_of_isLive {s : State} (h : s.isLive = true) : s.blkRun = false := by
  simpa using (Bool.and_eq_true_iff.mp h).2

theorem State.onLive_of_isLive {s : State} (h : s.isLive = true) (t : State) : s.onLive t = s.after t := if_pos h

theorem State.onPower_of_isLive {s : State} (h : s.isLive = true) (t : State) : s.onPower t = s.after t :=
  if_pos (State.powered_of_isLive h)

/-- The outcome of a row whose operands need no check. -/
theorem next_onLive {s t u : State} (hs : s.isLive = true) (h : t = u) :
    (.next (s.onLive t) : Host.Outcome State Fault Refusal) = .next (s.after u) := by
  rw [State.onLive_of_isLive hs, h]

/-- The outcome of a row whose operands name units of the block. -/
theorem ifWf_onLive {ok : Bool} {s t u : State} (hok : ok = true) (hs : s.isLive = true) (h : t = u) :
    ifWf ok (s.onLive t) = .next (s.after u) := by
  rw [ifWf_eq_next, State.onLive_of_isLive hs, h]
  exact ⟨hok, rfl⟩

/-- The outcome of such a row that block reset does not keep out. -/
theorem ifWf_onPower {ok : Bool} {s t u : State} (hok : ok = true) (hs : s.isLive = true) (h : t = u) :
    ifWf ok (s.onPower t) = .next (s.after u) := by
  rw [ifWf_eq_next, State.onPower_of_isLive hs, h]
  exact ⟨hok, rfl⟩

end Sys2Proof.Machine
end

section
/-! PROOF. Reset lines, the sequence of a partition reset, the take of a block reset, and the ends of dormancy (R42 to R46,
R490, R501, R554, R556). -/

namespace Sys2Proof.Machine

/-! ### Partition lines -/

theorem State.lineTake_due {s : State} {n : Nat} (hon : (s.part n).lineOn = true) (ht : (s.part n).lineTaken = false)
    (hd : (s.part n).lineAt + ns 20 ≤ s.now) :
    s.lineTake n = (s.setPart n (fun p => { p with lineTaken := true })).resetLine n := by
  simp [State.lineTake, hon, ht, hd]

theorem State.lineTake_early {s : State} {n : Nat} (hd : s.now < (s.part n).lineAt + ns 20) : s.lineTake n = s := by
  simp [State.lineTake, Nat.not_le.mpr hd]

theorem State.lineTake_taken {s : State} {n : Nat} (ht : (s.part n).lineTaken = true) : s.lineTake n = s := by
  simp [State.lineTake, ht]

/-- What the release of a line leaves of the line itself. -/
def Part.lineOff (p : Part) : Part := { p with lineOn := false, lineTaken := false, lineVoid := false }

/-- An assertion shorter than 20 ns is a glitch (R42). -/
theorem State.lineRelease_glitch {s : State} {n : Nat} (hon : (s.part n).lineOn = true) (ht : (s.part n).lineTaken = false)
    (hd : s.now < (s.part n).lineAt + ns 20) :
    s.lineRelease n = (s.setPart n Part.lineOff).blockEvent 0x31 ⟨syPART, 6⟩ := by
  simp only [State.lineRelease, State.lineTake_early hd, hon, ht]
  rfl

/-- A partition that its line holds goes on to its clearing (R43). -/
theorem State.lineRelease_held {s : State} {n : Nat} (hon : (s.part n).lineOn = true) (ht : (s.part n).lineTaken = true)
    (hp : s.pstate n = ptHELD) :
    s.lineRelease n = (s.setPart n Part.lineOff).setFld (.rcvStat n) rcvStat_PSTATE ptCLEARING := by
  have hp' : (s.setPart n Part.lineOff).pstate n = ptHELD := hp
  simp only [State.lineRelease, State.lineTake_taken ht, hon, ht]
  exact if_pos hp'

theorem exec_partitionResetAssert {s : State} {n : Nat} (hn : n < 6) (hoff : (s.part n).lineOn = false) :
    exec (.partitionResetAssert n) s
      = .next (s.setPart n (fun p => { p with lineOn := true, lineAt := s.now, lineTaken := s.blkRun, lineVoid := s.blkRun })) := by
  refine ifWf_eq_next.mpr ⟨decide_eq_true hn, ?_⟩
  simp [State.setPart, hoff]

theorem exec_partitionResetRelease {s : State} {n : Nat} (hn : n < 6) (hs : s.isLive = true) :
    exec (.partitionResetRelease n) s = .next (s.after (s.lineRelease n)) :=
  ifWf_eq_next.mpr ⟨decide_eq_true hn, if_pos hs⟩

/-! ### The block line -/

theorem State.blockLineDue_taken {s : State} (hs : s.isLive = true) (hon : s.blkOn = true) (hd : s.blkAt + ns 20 ≤ s.now) :
    s.blockLineDue = s.atOnce s.blockTake := by
  simp [State.blockLineDue, State.powered_of_isLive hs, State.blkRun_of_isLive hs, hon, hd]

theorem State.blockLineDue_early {s : State} (hd : s.now < s.blkAt + ns 20) : s.blockLineDue = s := by
  simp [State.blockLineDue, Nat.not_le.mpr hd]

theorem State.blockLineDue_running {s : State} (hr : s.blkRun = true) : s.blockLineDue = s := by
  simp [State.blockLineDue, hr]

theorem exec_blockResetAssert {s : State} (hoff : s.blkOn = false) :
    exec .blockResetAssert s = .next { s with blkOn := true, blkAt := s.now } := by
  have hdue : State.blockLineDue { s with blkOn := true, blkAt := s.now } = { s with blkOn := true, blkAt := s.now } :=
    State.blockLineDue_early (Nat.lt_add_of_pos_right (by decide))
  show Host.Outcome.next (if s.blkOn then s else _) = _
  rw [hoff, hdue]
  rfl

/-- The release of a line whose reset has been taken only ends the assertion (R46). -/
theorem exec_blockResetRelease_taken {s : State} (hon : s.blkOn = true) (hr : s.blockLineDue.blkRun = true) :
    exec .blockResetRelease s = .next { s.blockLineDue with blkOn := false } :=
  congrArg Host.Outcome.next ((if_neg (by simp [hon])).trans (if_pos (by simp [hr])))

/-- An assertion shorter than 20 ns is a glitch (R42). -/
theorem exec_blockResetRelease_glitch {s : State} (hs : s.isLive = true) (hon : s.blkOn = true) (hd : s.now < s.blkAt + ns 20) :
    exec .blockResetRelease s = .next (s.after (State.blockEvent { s with blkOn := false } 0x31 ⟨syPART, 6⟩)) := by
  have hdue := State.blockLineDue_early hd
  have hrun : ¬ (s.blockLineDue.blkRun || !s.powered) = true := by
    simp [hdue, State.blkRun_of_isLive hs, State.powered_of_isLive hs]
  refine congrArg Host.Outcome.next ((if_neg (by simp [hon])).trans ((if_neg hrun).trans ?_))
  rw [hdue]

theorem exec_blockResetComplete {s : State} (hp : s.powered = true) (hr : s.blkRun = true) (hoff : s.blkOn = false) :
    exec .blockResetComplete s = .next (s.after s.blockDone) :=
  congrArg Host.Outcome.next (if_pos (by simp [hp, hr, hoff]))

/-! ### The take of a block reset -/

theorem Reg.rcvStat_addr_ne {n m : Nat} (h : n ≠ m) : (Reg.rcvStat n).addr ≠ (Reg.rcvStat m).addr := by
  simp only [Reg.addr]
  omega

theorem Reg.rcvStat_addr_ne_paceStat (n : Nat) {m : Nat} (hm : m < 6) : (Reg.rcvStat n).addr ≠ (Reg.paceStat m).addr := by
  simp only [Reg.addr]
  omega

/-- `t` is `s` but for its registers and its partitions. -/
def State.OnlyRegsParts (s t : State) : Prop := t = { s with regs := t.regs, parts := t.parts }

theorem State.OnlyRegsParts.trans {s t u : State} (h : s.OnlyRegsParts t) (h' : t.OnlyRegsParts u) : s.OnlyRegsParts u :=
  Eq.trans h' (by rw [h])

theorem State.onlyRegsParts_foldl {f : State → Nat → State} (hf : ∀ (s : State) n, s.OnlyRegsParts (f s n)) (l : List Nat) (s : State) :
    s.OnlyRegsParts (l.foldl f s) := by
  induction l generalizing s with
  | nil => rfl
  | cons n l ih => exact (hf s n).trans (ih (f s n))

/-- What one step of a fold establishes and every step keeps holds at its end. -/
theorem foldl_establishes {P : State → Prop} {f : State → Nat → State} {n : Nat} (hset : ∀ s, P (f s n)) {l : List Nat}
    (hkeep : ∀ m ∈ l, ∀ s, P s → P (f s m)) (hn : n ∈ l) (s : State) : P (l.foldl f s) := by
  have hrest (l : List Nat) (hl : ∀ m ∈ l, ∀ s, P s → P (f s m)) (s : State) (hs : P s) : P (l.foldl f s) := by
    induction l generalizing s with
    | nil => exact hs
    | cons m l ih => exact ih (fun k hk => hl k (.tail m hk)) (f s m) (hl m (.head l) s hs)
  obtain ⟨l₁, l₂, rfl⟩ := List.append_of_mem hn
  rw [List.foldl_append, List.foldl_cons]
  exact hrest l₂ (fun m hm => hkeep m (by simp [hm])) _ (hset _)

/-- What the take of a block reset does to one partition. -/
def State.takenByBlock (s : State) (n : Nat) : State := ((s.partTaken n).enable n).tripDemand n

theorem State.onlyRegsParts_setReg (s : State) (r : Reg) (v : Word) : s.OnlyRegsParts (s.setReg r v) := rfl

theorem State.onlyRegsParts_setPart (s : State) (n : Nat) (f : Part → Part) : s.OnlyRegsParts (s.setPart n f) := rfl

theorem State.onlyRegsParts_partTaken (s : State) (n : Nat) : s.OnlyRegsParts (s.partTaken n) := by
  unfold State.partTaken State.setFld State.count
  exact (State.onlyRegsParts_setReg _ _ _).trans ((State.onlyRegsParts_setReg _ _ _).trans
    ((State.onlyRegsParts_setReg _ _ _).trans (State.onlyRegsParts_setPart _ _ _)))

theorem State.onlyRegsParts_enable (s : State) (n : Nat) : s.OnlyRegsParts (s.enable n) := by
  unfold State.enable
  split
  · exact s.onlyRegsParts_setPart n _
  · rfl

theorem State.onlyRegsParts_tripDemand (s : State) (n : Nat) : s.OnlyRegsParts (s.tripDemand n) := by
  unfold State.tripDemand State.setDemand State.paceLevel State.setFld
  split
  · rfl
  · exact (State.onlyRegsParts_setReg _ _ _).trans (State.onlyRegsParts_setReg _ _ _)

theorem State.onlyRegsParts_takenByBlock (s : State) (n : Nat) : s.OnlyRegsParts (s.takenByBlock n) :=
  (s.onlyRegsParts_partTaken n).trans ((State.onlyRegsParts_enable _ n).trans (State.onlyRegsParts_tripDemand _ n))

/-- The registers of an enabled partition are as they were. -/
@[simp] theorem State.reg_enable (s : State) (n : Nat) (r : Reg) : (s.enable n).reg r = s.reg r := by
  unfold State.enable
  split <;> rfl

theorem State.cause_enable (s : State) {n : Nat} (hn : n < 6) (m : Nat) : ((s.enable n).part m).cause = (s.part m).cause := by
  unfold State.enable
  split
  · by_cases h : n = m
    · subst h
      rw [State.part_setPart_same s _ hn]
    · rw [State.part_setPart_ne s _ h]
  · rfl

theorem State.reg_setDemand_ne (s : State) {n : Nat} (p : Pos) (v : Nat) {q : Reg} (h : q.addr ≠ (Reg.paceStat n).addr) :
    (s.setDemand n p v).reg q = s.reg q := by
  rw [State.setDemand, State.paceLevel, State.reg_setFld_ne _ _ _ h, State.reg_setFld_ne _ _ _ h]

theorem State.reg_tripDemand_ne (s : State) {n : Nat} {q : Reg} (h : q.addr ≠ (Reg.paceStat n).addr) :
    (s.tripDemand n).reg q = s.reg q := by
  unfold State.tripDemand
  split
  · rfl
  · exact s.reg_setDemand_ne _ _ h

@[simp] theorem State.part_tripDemand (s : State) (n m : Nat) : (s.tripDemand n).part m = s.part m := by
  unfold State.tripDemand
  split <;> rfl

/-- Held by a block reset: PSTATE, and the cause 0xFE in the partition and in LASTCODE (R501). -/
def State.heldByBlock (s : State) (n : Nat) : Prop :=
  s.pstate n = ptHELD ∧ (s.part n).cause = 0xFE ∧ s.fld (.rcvStat n) rcvStat_LASTCODE = 0xFE

theorem State.heldByBlock_congr {s t : State} {n : Nat} (hr : t.reg (.rcvStat n) = s.reg (.rcvStat n))
    (hp : (t.part n).cause = (s.part n).cause) : t.heldByBlock n ↔ s.heldByBlock n := by
  simp only [State.heldByBlock, State.pstate, State.fld, hr, hp]

theorem State.heldByBlock_partTaken_same (s : State) {n : Nat} (hn : n < 6) : (s.partTaken n).heldByBlock n := by
  unfold State.partTaken
  refine ⟨?_, ?_, ?_⟩
  · rw [State.pstate, State.fld_setPart, State.fld_setFld_of_lt _ _ (by decide) (by decide)]
  · rw [State.part_setPart_same _ _ hn]
  · rw [State.fld_setPart, State.fld_setFld_apart _ _ _ (by decide) (by decide),
      State.fld_setFld_of_lt _ _ (by decide) (by decide)]

theorem State.heldByBlock_partTaken_ne {s : State} {n m : Nat} (h : n ≠ m) (hs : s.heldByBlock n) :
    (s.partTaken m).heldByBlock n := by
  have hne := Reg.rcvStat_addr_ne h
  unfold State.partTaken
  refine (State.heldByBlock_congr ?_ ?_).mpr hs
  · rw [State.reg_setPart, State.reg_setFld_ne _ _ _ hne, State.reg_setFld_ne _ _ _ hne, State.reg_count_ne s _ _ hne]
  · rw [State.part_setPart_ne _ _ h.symm]
    rfl

theorem State.heldByBlock_takenByBlock {s : State} {n m : Nat} (hm : m < 6) :
    (s.takenByBlock m).heldByBlock n ↔ (s.partTaken m).heldByBlock n := by
  refine State.heldByBlock_congr ?_ ?_
  · rw [State.takenByBlock, State.reg_tripDemand_ne _ (Reg.rcvStat_addr_ne_paceStat n hm), State.reg_enable]
  · rw [State.takenByBlock, State.part_tripDemand, State.cause_enable _ hm]

/-- The partitions one after another, whichever the order: each is held once its turn has been. -/
theorem State.heldByBlock_foldl {n : Nat} (hn : n < 6) (s : State) :
    ((List.range 6).foldl State.takenByBlock s).heldByBlock n := by
  refine foldl_establishes (P := fun s => s.heldByBlock n) (n := n) (fun s => ?_) (fun m hm s hs => ?_) (List.mem_range.mpr hn) s
  · exact (State.heldByBlock_takenByBlock hn).mpr (s.heldByBlock_partTaken_same hn)
  · refine (State.heldByBlock_takenByBlock (List.mem_range.mp hm)).mpr ?_
    by_cases h : n = m
    · subst h
      exact s.heldByBlock_partTaken_same hn
    · exact State.heldByBlock_partTaken_ne h hs

/-- What a block reset leaves in queues, buffers and engines: nothing (R46, R412). -/
def State.emptied (s : State) : Prop :=
  s.blkRun = true ∧ s.evq = [] ∧ s.sw = Switch.init ∧ s.gals = [] ∧ s.tp = Transport.init ∧ s.mv.jobs = [] ∧ s.sec = Sec.init

theorem State.OnlyRegsParts.emptied {s t : State} (h : s.OnlyRegsParts t) (hs : s.emptied) : t.emptied := by
  rw [h]
  exact hs

/-- The take of a block reset empties the block, and then takes each partition. -/
theorem State.blockTake_eq (s : State) :
    ∃ t : State, s.blockTake = (List.range 6).foldl State.takenByBlock t ∧ t.emptied := by
  obtain ⟨u, hu⟩ : ∃ u, s.blockTake = u := ⟨_, rfl⟩
  rw [hu]
  unfold State.blockTake at hu
  extract_lets s1 s2 used s3 mv mg ft s4 at hu
  exact ⟨s4, hu.symm, rfl, rfl, rfl, rfl, rfl, rfl, rfl⟩

theorem State.emptied_blockTake (s : State) : s.blockTake.emptied := by
  obtain ⟨t, ht, hempty⟩ := s.blockTake_eq
  rw [ht]
  exact (State.onlyRegsParts_foldl State.onlyRegsParts_takenByBlock _ t).emptied hempty

theorem State.heldByBlock_blockTake (s : State) {n : Nat} (hn : n < 6) : s.blockTake.heldByBlock n := by
  obtain ⟨t, ht, -⟩ := s.blockTake_eq
  rw [ht]
  exact State.heldByBlock_foldl hn t

/-! ### The end of dormant entry -/

theorem Reg.rcvStat_addr_ne_pstate (n : Nat) : (Reg.rcvStat n).addr ≠ (Reg.pstate n).addr := by
  simp only [Reg.addr]
  omega

/-- A partition whose entry has ended is dormant, and its STATE is 3, or 4 where a write of REQ during the entry has it wake
(R554, R556). -/
theorem State.sleep_eq (s : State) (n : Nat) : ∃ t : State, t.pstate n = ptDORMANT
    ∧ (s.sleep n = t.setFld (.pstate n) pstate_STATE 3
      ∨ ∃ f : Part → Part, s.sleep n = (t.setFld (.pstate n) pstate_STATE 4).setPart n f) := by
  obtain ⟨u, hu⟩ : ∃ u, s.sleep n = u := ⟨_, rfl⟩
  rw [hu]
  unfold State.sleep at hu
  extract_lets s1 s2 s3 at hu
  refine ⟨s3, ?_, ?_⟩
  · rw [State.pstate, State.fld_setPart, State.fld_setFld_of_lt _ _ (by decide) (by decide)]
  · split at hu
    · exact .inl hu.symm
    · exact .inr ⟨_, hu.symm⟩

theorem State.sleep_pwState (s : State) (n : Nat) : (s.sleep n).pwState n = 3 ∨ (s.sleep n).pwState n = 4 := by
  obtain ⟨t, -, h | ⟨f, h⟩⟩ := s.sleep_eq n
  · exact .inl (by rw [h, State.pwState, State.fld_setFld_of_lt _ _ (by decide) (by decide)])
  · exact .inr (by rw [h, State.pwState, State.fld_setPart, State.fld_setFld_of_lt _ _ (by decide) (by decide)])

theorem State.sleep_pstate (s : State) (n : Nat) : (s.sleep n).pstate n = ptDORMANT := by
  have hne := Reg.rcvStat_addr_ne_pstate n
  obtain ⟨t, ht, h | ⟨f, h⟩⟩ := s.sleep_eq n
  · rw [h, State.pstate, State.fld_setFld_ne _ _ _ _ hne, ← State.pstate, ht]
  · rw [h, State.pstate, State.fld_setPart, State.fld_setFld_ne _ _ _ _ hne, ← State.pstate, ht]

end Sys2Proof.Machine

open Sys2Proof.Machine Sys2Proof

/-- Settles O19: an assertion is taken from 20 ns on, and a shorter one is one event of its own. -/
theorem resetLines : Obligations.ResetLines := by
  unfold Obligations.ResetLines
  refine ⟨fun s n hn => ⟨exec_partitionResetAssert hn, fun hs hon ht => ⟨fun hd => ?_, fun hd => ?_⟩, fun hs hon ht hp => ?_⟩,
    fun s => ⟨exec_blockResetAssert, fun hs hon hd => ?_, fun hon hr => ?_, exec_blockResetRelease_glitch,
      exec_blockResetComplete⟩⟩
  · exact ifWf_onLive (decide_eq_true hn) hs (State.lineTake_due hon ht hd)
  · rw [exec_partitionResetRelease hn hs, State.lineRelease_glitch hon ht hd]
    rfl
  · rw [exec_partitionResetRelease hn hs, State.lineRelease_held hon ht hp]
    rfl
  · have hdue := State.blockLineDue_taken hs hon hd
    obtain ⟨hrun, -⟩ := s.emptied_blockTake
    refine ⟨hdue, ?_⟩
    rw [exec_blockResetRelease_taken hon (by rw [hdue, State.atOnce_blkRun, hrun]), hdue]
  · have hdue := State.blockLineDue_running hr
    rw [exec_blockResetRelease_taken hon (by rw [hdue]; exact hr), hdue]

/-- Settles O20: each row acts under its condition, and dormant entry ends in one of two states. -/
theorem partitionSequences : Obligations.PartitionSequences := by
  unfold Obligations.PartitionSequences
  refine ⟨fun s n hn hs => ⟨fun hp hc hv => ?_, fun hp hc hg => ?_, fun t l hl hd => ?_⟩,
    fun s n hn hs => ⟨fun hp hd => ?_, fun hp hv => ?_, s.sleep_pwState n, s.sleep_pstate n⟩⟩
  · exact ifWf_onLive (decide_eq_true hn) hs (if_pos ⟨hp, by simp [hc], by simpa using hv⟩)
  · exact ifWf_onLive (decide_eq_true hn) hs (if_pos ⟨hp, hc, hg⟩)
  · refine ifWf_onLive (decide_eq_true hn) hs ?_
    rw [hl]
    exact if_pos (decide_eq_true hd)
  · exact ifWf_onLive (decide_eq_true hn) hs (if_pos ⟨hp, by simpa using hd⟩)
  · exact ifWf_onLive (decide_eq_true hn) hs (if_pos ⟨hp, hv⟩)

/-- Settles O21: the block is emptied first, and each partition is held from its own turn on. -/
theorem blockResetTakesAll : Obligations.BlockResetTakesAll := by
  unfold Obligations.BlockResetTakesAll
  intro s
  obtain ⟨hrun, hevq, hsw, hgals, htp, hjobs, hsec⟩ := s.emptied_blockTake
  exact ⟨hrun, hevq, hsw, hgals, htp, hjobs, hsec, fun n hn => s.heldByBlock_blockTake hn⟩

end

section
/-! PROOF. The rows of droop, temperature and fabric time, each under its condition (R47 to R51, R430, R431, R438, R439, R447 to
R451). -/

namespace Sys2Proof.Machine

/-! ### Droop -/

theorem Reg.paceCfg_addr_ne_paceStat (n : Nat) : Reg.paceCfg.addr ≠ (Reg.paceStat n).addr := by
  simp only [Reg.addr]
  omega

/-- A trip of a sensor that asserted none raises the demand to at least DSTEP (R430). -/
theorem State.droopTrip_new {s : State} {k : Nat} (hd : s.dormant (k / 4) = false)
    (ht : (s.part (k / 4)).trips.any (fun x => x.1 = k) = false) :
    s.droopTrip k = ((s.count (.paceStat (k / 4)) paceStat_DROOPS 1).setPart (k / 4)
        (fun p => { p with trips := p.trips ++ [(k, s.now)] })).setDemand (k / 4) paceStat_SDROOP
          (max (s.fld (.paceStat (k / 4)) paceStat_SDROOP) (s.fld .paceCfg paceCfg_DSTEP)) := by
  simp only [State.droopTrip, hd, ht, State.fld_setPart]
  rw [State.fld_count_apart _ _ _ (by decide) (by decide), State.fld_count_ne _ _ _ _ (Reg.paceCfg_addr_ne_paceStat _)]
  rfl

theorem State.droopHold_due {s : State} {n : Nat} (ht : (s.part n).trips = []) (hdesc : (s.part n).descends = false)
    (hpos : 0 < s.fld (.paceStat n) paceStat_SDROOP)
    (hd : (s.part n).dClearAt + ns (10 * s.fld .paceCfg paceCfg_DHOLD) ≤ s.now) :
    s.droopHold n = s.setPart n (fun p => { p with dStepAt := s.now }) := by
  simp [State.droopHold, ht, hdesc, hpos, hd]

theorem State.droopStep_due {s : State} {n : Nat} (hdesc : (s.part n).descends = true)
    (hpos : 0 < s.fld (.paceStat n) paceStat_SDROOP) (hd : (s.part n).dStepAt + ns 50 ≤ s.now) :
    s.droopStep n = (s.setPart n (fun p => { p with dStepAt := p.dStepAt + ns 50 })).setDemand n paceStat_SDROOP
      (s.fld (.paceStat n) paceStat_SDROOP - 1) := by
  simp [State.droopStep, hdesc, hpos, hd]

/-- The only trip of a partition, held for 1 ms and not counted yet (R48). -/
theorem State.droopStuck_due {s : State} {k t : Nat} (hdorm : s.dormant (k / 4) = false)
    (htrip : (s.part (k / 4)).trips = [(k, t)]) (hd : t + ms 1 ≤ s.now) (hstuck : (s.part (k / 4)).stuck = []) :
    s.droopStuck k
      = (s.setPart (k / 4) (fun p => { p with stuck := k :: p.stuck })).event (k / 4) 0x28 ⟨sySENS, k⟩ := by
  simp [State.droopStuck, hdorm, htrip, hstuck, hd]

/-! ### Temperature -/

/-- A reading of a partition that is not dormant shows at once, and changes its sensor only (R439). -/
theorem State.thermRead_awake {s : State} {m : Nat} (v : BitVec 16) (hd : s.dormant (m / 2) = false) :
    ∃ (r : Word) (l : Vector Therm 12), s.thermRead m v = { s.setReg (.therm m) r with therms := l }
      ∧ fget r therm_TEMP = v.toNat ∧ fget r therm_STALE = 0 := by
  obtain ⟨u, hu⟩ : ∃ u, s.thermRead m v = u := ⟨_, rfl⟩
  rw [hu]
  unfold State.thermRead at hu
  rw [hd] at hu
  extract_lets r r1 r2 s1 t hot at hu
  have htemp : fget r1 therm_TEMP = v.toNat := by
    rw [fget_fset_same _ _ (by decide), Nat.mod_eq_of_lt v.isLt]
  have hstale : fget r1 therm_STALE = 0 := by
    rw [fget_fset_apart _ _ (by decide) (by decide), fget_fset_same _ _ (by decide), Nat.zero_mod]
  refine ⟨r2, _, hu.symm, ?_⟩
  by_cases hmax : sext 16 (fget r therm_MAX) < sext 16 v.toNat
  · have hr2 : r2 = fset r1 therm_MAX v.toNat := if_pos hmax
    rw [hr2, fget_fset_apart r1 (q := therm_TEMP) _ (by decide) (by decide),
      fget_fset_apart r1 (q := therm_STALE) _ (by decide) (by decide)]
    exact ⟨htemp, hstale⟩
  · have hr2 : r2 = r1 := if_neg hmax
    rw [hr2]
    exact ⟨htemp, hstale⟩

theorem State.thermStale_due {s : State} {m : Nat} {t : Therm} (hdorm : s.dormant (m / 2) = false)
    (hf : s.fld (.therm m) therm_STALE = 0) (ht : s.therms[m]? = some t) (hd : t.lastAt + us 100 ≤ s.now) :
    s.thermStale m = State.event
      { s.setFld (.therm m) therm_STALE 1 with therms := s.therms.setIfInBounds m { t with hotAt := none } }
      (m / 2) 0x29 ⟨sySENS, 24 + m⟩ := by
  simp [State.thermStale, hdorm, hf, ht, hd]

theorem State.thermCritical_due {s : State} {m h : Nat} {t : Therm} (ht : s.therms[m]? = some t) (hh : t.hotAt = some h)
    (hd : h + ms 1 ≤ s.now) (hf : s.fld (.therm m) therm_STALE = 0) (ha : s.asleep (m / 2) = false)
    (hp : s.pstate (m / 2) ≠ ptOOS) :
    s.thermCritical m = State.event { s with therms := s.therms.setIfInBounds m { t with hotAt := some s.now } }
      (m / 2) 0x2B ⟨syPART, m / 2⟩ := by
  simp [State.thermCritical, ht, hh, hd, hf, ha, hp]

/-! ### Fabric time -/

theorem State.trefLoss_first {s : State} (h : s.ft.lost = false) :
    s.trefLoss = (s.setFt (fun t => { t with tref := false, lost := true, lostAt := s.now })).blockEvent 0x34 ⟨syUNIT, 6⟩ := by
  simp [State.trefLoss, h]

/-- The time unit as the reference returns: what copies aged by meanwhile stays (R51, R331). -/
def State.trefBack (s : State) : State :=
  s.setFt (fun t => { t with tref := true, lost := false, aged := t.aged + (s.now - s.ft.lostAt), good := 0 })

theorem State.trefReturn_eq {s : State} (ht : s.ft.tref = false) (hl : s.ft.lost = true) :
    s.trefReturn = if s.fts = fsFREE then s.trefBack else s.trefBack.setFld .ftStat ftStat_STATE fsACQUIRE := by
  have hback : s.setFt (fun t => { t with tref := true, lost := false
                                          aged := t.aged + (if t.lost then s.now - t.lostAt else 0), good := 0 }) = s.trefBack := by
    simp [State.trefBack, State.setFt, hl]
  simp only [State.trefReturn, ht, hback]
  rfl

theorem State.syncRequest_due {s : State} (hen : s.fld .ftCfg ftCfg_EN = 1) (hlo : 12 ≤ s.fld .ftCfg ftCfg_PARENT)
    (hhi : s.fld .ftCfg ftCfg_PARENT ≤ 17) (hd : s.ft.sendAt + us 10 ≤ s.now) (hreq : s.ft.req = none)
    (hrun : s.runs (portPart s.syncPort) = true) :
    let q := (s.ft.seq + 1) % 256
    let u := s.setFt (fun t => { t with seq := q, req := some (q, s.syncPort, s.now), sendAt := s.now })
    s.syncRequest
      = u.inject (portPart s.syncPort) (u.syncCell s.syncPort (syncPay 1 q s.ownStratum 0 0)) (some (outOf s.syncPort)) := by
  have hcond : s.fld .ftCfg ftCfg_EN = 1 ∧ 12 ≤ s.fld .ftCfg ftCfg_PARENT ∧ s.fld .ftCfg ftCfg_PARENT ≤ 17
      ∧ s.due s.ft.sendAt (us 10) = true := ⟨hen, hlo, hhi, decide_eq_true hd⟩
  intro q u
  have hrun' : u.runs (portPart s.syncPort) = true := hrun
  unfold State.syncRequest
  rw [if_pos hcond, hreq]
  exact if_pos hrun'

/-- A request delivered on a port in UP is answered there (R447, R448). -/
theorem State.syncAnswer_up {s u : State} {e : InEnt} (ht : s.syncTake 1 = some (e, u)) (hp : 12 ≤ e.port) (hup : u.up e.port = true) :
    s.syncAnswer = u.inject (portPart e.port) (u.syncCell e.port (syncPay 2 (bytesNat (slice e.pkt.pay 1 1)) u.ownStratum
      (bytesNat (slice e.pkt.pay 8 8)) (e.arr - s.ft.aged))) (some (outOf e.port)) := by
  unfold State.syncAnswer
  rw [ht]
  exact if_pos ⟨hp, hup⟩

/-- A response to the request outstanding is used (R449). -/
theorem State.syncResponse_used {s u : State} {e : InEnt} {q c t0 : Nat} (ht : s.syncTake 2 = some (e, u))
    (hreq : u.ft.req = some (q, c, t0)) (hen : u.fld .ftCfg ftCfg_EN = 1) (hm : u.master = false)
    (hq : bytesNat (slice e.pkt.pay 1 1) = q) (hc : e.port = c) :
    s.syncResponse = u.syncSample (bytesNat (slice e.pkt.pay 2 1)) (bytesNat (slice e.pkt.pay 8 8))
      (bytesNat (slice e.pkt.pay 16 8)) (bytesNat (slice e.pkt.pay 24 8)) (e.arr - s.ft.aged) := by
  unfold State.syncResponse
  rw [ht]
  dsimp only
  rw [hreq]
  exact if_pos ⟨hen, by simp [hm], hq, hc⟩

theorem exec_trefLoss {s u : State} (hs : s.isLive = true) (h : s.trefLoss = u) : exec .trefLoss s = .next (s.after u) := by
  refine congrArg Host.Outcome.next ((if_pos (State.powered_of_isLive hs)).trans ?_)
  rw [State.onPower_of_isLive hs, h]

theorem exec_trefReturn {s u : State} (hs : s.isLive = true) (h : s.trefReturn = u) : exec .trefReturn s = .next (s.after u) := by
  refine congrArg Host.Outcome.next ((if_pos (State.powered_of_isLive hs)).trans ?_)
  rw [State.onPower_of_isLive hs, h]

end Sys2Proof.Machine

open Sys2Proof.Machine Sys2Proof

/-- Settles O25: each row acts under its condition; a reading changes the fields TEMP and STALE of its sensor. -/
theorem droopAndThermalRows : Obligations.DroopAndThermalRows := by
  unfold Obligations.DroopAndThermalRows
  refine ⟨fun s k n hk hn hs => ⟨fun hd ht => ?_, fun ht => ?_, fun ht hdesc hpos hd => ?_, fun hdesc hpos hd => ?_,
    fun t hdorm htrip hd hstuck => ?_⟩, fun s m n v hm hn hs => ⟨fun hd => ?_, fun t hdorm hf ht hd => ?_, fun hdorm hd => ?_,
      fun t h ht hh hd hf ha hp => ?_⟩⟩
  · exact ifWf_onPower (decide_eq_true hk) hs (State.droopTrip_new hd ht)
  · exact ifWf_onPower (decide_eq_true hk) hs (if_pos ht)
  · exact ifWf_onLive (decide_eq_true hn) hs (State.droopHold_due ht hdesc hpos hd)
  · exact ifWf_onLive (decide_eq_true hn) hs (State.droopStep_due hdesc hpos hd)
  · exact ifWf_onLive (decide_eq_true hk) hs (State.droopStuck_due hdorm htrip hd hstuck)
  · obtain ⟨r, l, hread, htemp, hstale⟩ := State.thermRead_awake v hd
    refine ⟨{ s.setReg (.therm m) r with therms := l }, ifWf_onPower (decide_eq_true hm) hs hread, ?_, ?_, fun q hq => ?_, rfl⟩
    · exact (congrArg (fget · therm_TEMP) (s.reg_setReg_same (.therm m) r)).trans htemp
    · exact (congrArg (fget · therm_STALE) (s.reg_setReg_same (.therm m) r)).trans hstale
    · exact s.reg_setReg_ne r hq
  · exact ifWf_onLive (decide_eq_true hm) hs (State.thermStale_due hdorm hf ht hd)
  · exact ifWf_onLive (decide_eq_true hn) hs (if_pos (by simp [hdorm, hd]))
  · exact ifWf_onLive (decide_eq_true hm) hs (State.thermCritical_due ht hh hd hf ha hp)

/-- Settles O28: each row acts under its condition. -/
theorem fabricTimeRows : Obligations.FabricTimeRows := by
  unfold Obligations.FabricTimeRows
  refine ⟨fun s hs => ⟨fun hl => ?_, fun ht hl hf => ?_, fun ht hl hf => ?_, fun hf hd => ?_, fun hf hd => ?_,
    fun hen hlo hhi hd hreq hrun => ?_⟩, fun s u e hs => ⟨fun ht hp hup => ?_, fun q c t0 ht hreq hen hm hq hc => ?_⟩⟩
  · exact exec_trefLoss hs (State.trefLoss_first hl)
  · exact exec_trefReturn hs ((State.trefReturn_eq ht hl).trans (if_pos hf))
  · exact exec_trefReturn hs ((State.trefReturn_eq ht hl).trans (if_neg hf))
  · exact next_onLive hs (if_pos ⟨hf, decide_eq_true hd⟩)
  · exact next_onLive hs (if_pos ⟨hf, decide_eq_true hd⟩)
  · exact next_onLive hs (State.syncRequest_due hen hlo hhi hd hreq hrun)
  · exact next_onLive hs (State.syncAnswer_up ht hp hup)
  · exact next_onLive hs (State.syncResponse_used ht hreq hen hm hq hc)

end

section
/-! PROOF. The SerDes control bus and the debug window (R23 to R26, R36, R479, R546). -/

namespace Sys2Proof.Machine

/-! ### Bits that a write sets -/

/-- A field of one bit is that bit. -/
theorem fget_one_bit (r : Word) (i : Nat) : fget r ⟨i, 1⟩ = (r.getLsbD i).toNat := by
  rw [BitVec.getLsbD, Nat.toNat_testBit, fget, Nat.shiftRight_eq_div_pow]
  rfl

/-- A write of 1 sets a bit of access code W1S (R562). -/
theorem Reg.getLsbD_written_w1s {r : Reg} {old d : Word} {i : Nat} (hm : (r.accMask .w1s).getLsbD i = true)
    (hd : d.getLsbD i = true) : (r.written old d).getLsbD i = true := by
  simp [Reg.written, hm, hd]

theorem Reg.written_sdbCmd_go {v : Word} (old : Word) (hv : fget v sdbCmd_GO = 1) :
    fget (Reg.sdbCmd.written old v) sdbCmd_GO = 1 := by
  have hbit : v.getLsbD 63 = true := Bool.toNat_eq_one.mp ((fget_one_bit v 63).symm.trans hv)
  rw [fget_one_bit, Reg.getLsbD_written_w1s (by decide) hbit]
  rfl

/-! ### The SerDes control bus -/

/-- The bus cycles that waited are outputs: nothing but the access and the record of outputs changes. -/
theorem State.sdbFlush_eq (s : State) :
    ∃ o, s.sdbFlush = { s with out := o, sdb := { s.sdb with acc := none, queue := [] } } := by
  have hfold (q : List (Nat × Nat × Nat)) (t : State) :
      ∃ o, q.foldl (fun s x => s.emit (.sdb x.1 x.2.1 true x.2.2)) t = { t with out := o } := by
    induction q generalizing t with
    | nil => exact ⟨t.out, rfl⟩
    | cons x q ih => exact ih _
  exact hfold s.sdb.queue _

@[simp] theorem State.fld_sdbFlush (s : State) (r : Reg) (p : Pos) : s.sdbFlush.fld r p = s.fld r p := by
  obtain ⟨o, h⟩ := s.sdbFlush_eq
  rw [h]
  rfl

@[simp] theorem State.acc_sdbFlush (s : State) : s.sdbFlush.sdb.acc = none := by
  obtain ⟨o, h⟩ := s.sdbFlush_eq
  rw [h]

theorem State.go_sdbEnd (s : State) (ok : Bool) : (s.sdbEnd ok).fld .sdbCmd sdbCmd_GO = 0 := by
  have hgo : (s.setFld .sdbCmd sdbCmd_GO 0).fld .sdbCmd sdbCmd_GO = 0 := State.fld_setFld_of_lt _ _ (by decide) (by decide)
  rw [State.sdbEnd, State.fld_sdbFlush]
  split
  · exact hgo
  · rw [State.fld_setFld_apart _ _ _ (by decide) (by decide), hgo]

theorem State.err_sdbEnd_false (s : State) : (s.sdbEnd false).fld .sdbCmd sdbCmd_ERR = 1 := by
  rw [State.sdbEnd, State.fld_sdbFlush, if_neg Bool.false_ne_true, State.fld_setFld_of_lt _ _ (by decide) (by decide)]

theorem State.sdbAnswered_eq {s : State} {l : Nat} {wr : Bool} (h : s.sdb.acc = some (l, wr)) (d : Nat) :
    s.sdbAnswered d = (if wr then s else s.setFld .sdbData sdbData_DATA d).sdbEnd true := by
  rw [State.sdbAnswered, h]

theorem State.sdbLate_due {s : State} {l : Nat} {wr : Bool} (h : s.sdb.acc = some (l, wr)) (hd : s.sdb.goAt + us 2 ≤ s.now) :
    s.sdbLate
      = ((if wr then s else s.setFld .sdbData sdbData_DATA 0xFFFFFFFF).sdbEnd false).blockEvent 0x30 ⟨syPART, 6⟩ := by
  rw [State.sdbLate, h]
  exact if_pos (decide_eq_true hd)

/-- GO while an access is in progress changes nothing (R26). -/
theorem State.sdbWrite_busy {s : State} {v : Word} (hv : fget v sdbCmd_GO = 1) (hgo : s.fld .sdbCmd sdbCmd_GO = 1) :
    s.sdbWrite v = s := if_pos ⟨hv, hgo⟩

/-- A lane that does not exist gets no bus cycle (R25). -/
theorem State.sdbWrite_noLane {s : State} {v : Word} (hv : fget v sdbCmd_GO = 1) (hgo : s.fld .sdbCmd sdbCmd_GO = 0)
    (hl : 191 < fget v sdbCmd_LANE) :
    s.sdbWrite v = ((s.regStore .sdbCmd v).setFld .sdbCmd sdbCmd_GO 0).setFld .sdbCmd sdbCmd_ERR 1 := by
  simp [State.sdbWrite, hv, hgo, hl]

/-- GO on a lane that exists starts an access (R23). -/
theorem State.sdbWrite_starts {s : State} {v : Word} (hv : fget v sdbCmd_GO = 1) (hgo : s.fld .sdbCmd sdbCmd_GO = 0)
    (hl : fget v sdbCmd_LANE ≤ 191) :
    let wr := decide (fget v sdbCmd_WR = 1)
    let t := s.regStore .sdbCmd v
    s.sdbWrite v = State.emit { t with sdb := { s.sdb with acc := some (fget v sdbCmd_LANE, wr), goAt := s.now } }
      (.sdb (fget v sdbCmd_LANE) (fget v sdbCmd_ADDR) wr (t.fld .sdbData sdbData_DATA)) := by
  simp only [State.sdbWrite, hv, hgo, Nat.not_lt.mpr hl]
  rfl

/-! ### The debug window -/

/-- The open window reads a register of the map as REG_READ does (R546). -/
theorem State.windowRead_reg {s : State} {a : Nat} {r : Reg} (ha : a % 8 = 0) (hr : Reg.ofAddr a = some r) :
    s.windowRead a = { (s.readReg r).2 with winRead := (s.readReg r).1 } := by
  rw [State.windowRead, if_pos ha, hr]

/-- The open window writes a register of the map as REG_WRITE does, DX_INTERP_CTL apart (R546). -/
theorem State.windowWrite_reg {s : State} {a : Nat} {r : Reg} (v : Word) (ha : a % 8 = 0) (hr : Reg.ofAddr a = some r)
    (hne : r.addr ≠ Reg.interpCtl.addr) (hheld : heldByMirror s r = false) :
    s.windowWrite a v
      = if s.regRefused r v then (s.refusedWrite r v).blockEvent 0x32 ⟨syPART, 6⟩ else s.regWrite r v := by
  rw [State.windowWrite, if_pos ha, hr]
  split
  case h_1 h => cases h
  case h_2 h =>
    cases h
    exact absurd rfl hne
  case h_3 h =>
    cases h
    rw [hheld]
    rfl

/-- RESTART of a running interpreter with no exchange under way (R479). -/
theorem State.restart_running {s : State} (hi : s.mg.interp = .running) (ha : s.mg.att = none) :
    s.restart = { s.setFld .hb hb_MISS 0 with mg := { s.mg with interp := .restarting, missAt := none } } := by
  simp [State.restart, State.hungFetched, State.hungCmd, hi, ha]

/-- An access of the closed window is refused (R36). -/
theorem exec_debugWindowAccess_closed {s : State} (hs : s.isLive = true) (hw : s.winEn = false) (write : Bool) (a : BitVec 32)
    (d : Word) : exec (.debugWindowAccess write a d) s
      = .next (s.after ((if write then s else { s with winRead := 0 }).blockEvent 0x32 ⟨syPART, 6⟩)) :=
  next_onLive hs (if_pos (by simp [hw]))

theorem exec_debugWindowAccess_open {s : State} (hs : s.isLive = true) (hw : s.winEn = true) (write : Bool) (a : BitVec 32)
    (d : Word) : exec (.debugWindowAccess write a d) s
      = .next (s.after (if write then s.windowWrite a.toNat d else s.windowRead a.toNat)) :=
  next_onLive hs (if_neg (by simp [hw]))

end Sys2Proof.Machine

open Sys2Proof.Machine Sys2Proof

/-- Settles O30: an access ends in one way, and a write of GO starts one only on a lane that exists. -/
theorem serdesBus : Obligations.SerdesBus := by
  unfold Obligations.SerdesBus
  refine ⟨fun s l wr d hs h => ⟨?_, fun hd => ?_, fun ok => ⟨s.go_sdbEnd ok, State.acc_sdbFlush _⟩, s.err_sdbEnd_false⟩,
    fun s v hv => ⟨State.sdbWrite_busy hv, fun hgo hl => ?_, fun hgo hl => ?_⟩⟩
  · exact next_onLive hs (State.sdbAnswered_eq h d.toNat)
  · exact next_onLive hs (State.sdbLate_due h hd)
  · rw [State.regWrite, State.sdbWrite_noLane hv hgo hl]
    refine ⟨?_, State.fld_setFld_of_lt _ _ (by decide) (by decide), rfl, rfl⟩
    rw [State.fld_setFld_apart _ _ _ (by decide) (by decide), State.fld_setFld_of_lt _ _ (by decide) (by decide)]
  · rw [State.regWrite, State.sdbWrite_starts hv hgo hl]
    refine ⟨rfl, ?_⟩
    have hstored : (s.regStore .sdbCmd v).fld .sdbCmd sdbCmd_GO = 1 := by
      rw [State.regStore, State.fld, State.reg_setReg_same, Reg.written_sdbCmd_go _ hv]
    exact hstored

/-- Settles O22: closed, each access is one event; open, the rows of the registers and of RESTART. -/
theorem debugWindow : Obligations.DebugWindow := by
  unfold Obligations.DebugWindow
  refine ⟨fun s on a d => ⟨rfl, fun hs hw => ⟨exec_debugWindowAccess_closed hs hw false a d,
    exec_debugWindowAccess_closed hs hw true a d, ?_⟩⟩, fun s a d r hs hw ha hr => ⟨?_, fun hne hheld => ?_, fun hi hatt => ?_⟩⟩
  · exact next_onLive hs (if_neg (by simp [hw]))
  · rw [exec_debugWindowAccess_open hs hw, ← State.windowRead_reg ha hr]
    rfl
  · rw [exec_debugWindowAccess_open hs hw, ← State.windowWrite_reg d ha hr hne hheld]
    rfl
  · exact next_onLive hs ((if_pos hw).trans (State.restart_running hi hatt))

end

section
/-! PROOF. Where nothing waits, settling leaves a state as it is but for PEND of DX_MQ_HEAD (R93): each thing that settling
would take up is empty. -/

namespace Sys2Proof.Machine

/-- A fold whose steps change nothing changes nothing. -/
theorem foldl_eq_self {α β : Type} {f : β → α → β} {b : β} {l : List α} (h : ∀ a ∈ l, f b a = b) : l.foldl f b = b := by
  induction l with
  | nil => rfl
  | cons a l ih =>
    rw [List.foldl_cons, h a (.head l)]
    exact ih fun c hc => h c (.tail a hc)

/-! ### Each part of settling, where it has nothing to do -/

theorem State.mgmtHead_of_nil {s : State} (h : s.mg.fetched = []) : s.mgmtHead = s := by
  rw [State.mgmtHead, h]

theorem State.refuseHeads_of_nil {s : State} (h : s.tp.txns = []) : s.refuseHeads = s := by
  rw [State.refuseHeads, h]
  rfl

theorem State.fenceAll_of_nil {s : State} (h : s.tp.txns = []) : s.fenceAll = s := by
  rw [State.fenceAll, h]
  rfl

theorem State.releaseHeld_of_nil {s : State} (h : s.tp.txns = []) : s.releaseHeld = s := by
  rw [State.releaseHeld, h]
  rfl

theorem State.fetchNext_of_idle {s : State} (h : (s.mg.fetch.isSome || !s.mayFetch) = true) : s.fetchNext = s := if_pos h

theorem State.scanNext_of_nil {s : State} (h : s.mg.engScan = []) : s.scanNext = s := by
  unfold State.scanNext
  split
  · rfl
  · rw [h]

theorem State.scrubNext_of_nil {s : State} (h : s.mg.engScrub = []) : s.scrubNext = s := by
  unfold State.scrubNext
  split
  · rfl
  · rw [h]

theorem State.attNext_of_nil {s : State} (h : s.mg.engAtt = []) (hi : s.mg.interp ≠ .restarting) : s.attNext = s := by
  unfold State.attNext
  split
  · rfl
  · rw [h]

theorem State.assignAll_of_nil {s : State} (h : s.mv.ereq = []) : s.assignAll = s := by
  rw [State.assignAll, h]
  rfl

theorem State.sumpsOn_of_nil {s : State} (h : ∀ n < 6, (s.part n).short = []) : s.sumpsOn = s := by
  refine foldl_eq_self fun n hn => ?_
  rw [State.shortRefresh, h n (List.mem_range.mp hn)]
  rfl

/-- A gallery with no command, no step to pass over and no frame held waits for nothing. -/
theorem State.galResume_of_idle {s : State} {g : Nat} (htx : s.tp.txns = []) (hskip : (s.gal g).skip = none)
    (hheld : ∀ x ∈ s.sw.copies, x.out ≠ outHeld) : s.galResume g = s := by
  have hnone : (s.gal g).heldC.filterMap s.findTxn = [] := by
    simp [State.findTxn, htx]
  have hfree : s.sw.copies.any (fun y => decide (y.out = outHeld ∧ y.pkt.galOf = g ∧ y.pkt.sgenOf = s.gsgen g)) = false := by
    simp only [List.any_eq_false, decide_eq_true_eq, not_and]
    exact fun x hx hout => absurd hout (hheld x hx)
  unfold State.galResume
  simp only [hnone, hfree, hskip, List.filter_nil, List.isEmpty_nil, List.foldl_nil, reduceCtorEq, and_self, and_false, if_true,
    Bool.not_true, Bool.false_eq_true, if_false, ite_self]

theorem State.galsOn_of_idle {s : State} (htx : s.tp.txns = []) (hskip : ∀ x ∈ s.gals, (s.gal x.g).skip = none)
    (hheld : ∀ x ∈ s.sw.copies, x.out ≠ outHeld) : s.galsOn = s := by
  refine foldl_eq_self fun x hx => ?_
  have hstay := State.galResume_of_idle htx (hskip x hx) hheld
  rw [hstay, hstay]

/-! ### A quiet block -/

theorem State.quiet_iff {s : State} : s.quiet = true ↔
    s.evq = [] ∧ s.mv.jobs = [] ∧ s.tp.txns = [] ∧ s.mg.fetched = [] ∧ s.mv.ereq = [] ∧ s.mg.engScan = []
    ∧ s.mg.engScrub = [] ∧ s.mg.engAtt = [] ∧ s.mg.engTear = [] ∧ s.mg.dump = none ∧ s.mg.interp ≠ .restarting
    ∧ (s.mg.fetch.isSome || !s.mayFetch) = true ∧ (∀ x ∈ s.sw.copies, x.out ≠ outHeld)
    ∧ (∀ x ∈ s.gals, (s.gal x.g).skip = none) ∧ ∀ n < 6, (s.part n).short = [] := by
  simp [State.quiet, and_assoc]

theorem State.unsettled_of_idle {s : State} (hevq : s.evq = []) (hjobs : s.mv.jobs = []) (hdump : s.mg.dump = none) :
    s.unsettled = false := by
  simp [State.unsettled, hevq, hjobs, hdump]

theorem State.housekeep_of_quiet {s : State} (h : s.quiet = true) : s.housekeep = s.pendRefresh := by
  obtain ⟨-, -, htx, hfetched, hereq, hscan, hscrub, hatt, htear, -, hinterp, hfetch, hheld, hskip, hshort⟩ := State.quiet_iff.mp h
  simp only [State.housekeep, State.mgmtHead_of_nil hfetched, State.refuseHeads_of_nil htx, State.fenceAll_of_nil htx,
    State.galsOn_of_idle htx hskip hheld, State.releaseHeld_of_nil htx, State.fetchNext_of_idle hfetch,
    State.sumpsOn_of_nil hshort, State.scanNext_of_nil hscan, State.attNext_of_nil hatt hinterp,
    State.scrubNext_of_nil hscrub, htear, List.length_nil, State.tearNext, State.assignAll_of_nil hereq]

/-- A quiet block settles in one turn. -/
theorem State.settle_of_quiet {s : State} (h : s.quiet = true) : s.settle = s.pendRefresh := by
  obtain ⟨hevq, hjobs, -, -, -, -, -, -, -, hdump, -⟩ := State.quiet_iff.mp h
  have hbefore := State.unsettled_of_idle hevq hjobs hdump
  have hafter : s.pendRefresh.unsettled = false := State.unsettled_of_idle hevq hjobs hdump
  have hturn (f : Nat) : State.settleN (f + 1) s = s.pendRefresh := by
    simp [State.settleN, hbefore, State.housekeep_of_quiet h, hafter]
  rw [State.settle, Nat.add_comm 16]
  exact hturn _

/-- What a row leaves where it brings about nothing that waits. -/
theorem State.after_of_quiet (s : State) {t : State} (h : t.quiet = true) : s.after t = s.atOnce t.pendRefresh := by
  rw [State.after, State.settle_of_quiet h]

end Sys2Proof.Machine
end

section
/-! PROOF. The memory ports: the check of a tile, the answers to a request, and what a write-through leaves (R30 to R32, R161,
R404, R405, R407). -/

namespace Sys2Proof.Machine

/-! ### Bytes of the deep store -/

/-- A run of byte writes leaves each of its bytes at its place. -/
theorem sget_writeFold_same (a : Nat) (d : List Byte) (k i : Nat) (b : List (Nat × Byte)) (hi : i < d.length) :
    sget (0 : Byte) ((d.zipIdx k).foldl (fun b x => sput 0 b (a + x.2) x.1) b) (a + (k + i)) = d[i] := by
  induction d generalizing k i b with
  | nil => cases hi
  | cons x d ih =>
    rw [List.zipIdx_cons, List.foldl_cons]
    cases i with
    | zero =>
      have hlater : ∀ y ∈ d.zipIdx (k + 1), a + (k + 0) ≠ a + y.2 := fun y hy => by
        have := List.le_snd_of_mem_zipIdx hy
        omega
      rw [sget_writeFold_ne a _ _ _ hlater]
      exact sget_sput_same _ _ _ _
    | succ i =>
      have hplace : k + (i + 1) = k + 1 + i := by omega
      rw [hplace]
      exact ih (k + 1) i _ (Nat.lt_of_succ_lt_succ hi)

/-- A run of bytes written reads back. -/
theorem Store.read_write (m : Store) (a : Nat) (d : List Byte) : (m.write a d).read a d.length = d := by
  refine List.ext_getElem (by simp [Store.read]) fun i _ hi => ?_
  have hbyte : (m.write a d).byte (a + i) = d[i] := by
    have h := sget_writeFold_same a d 0 i m.bytes hi
    rwa [Nat.zero_add] at h
  simpa [Store.read] using hbyte

theorem Store.read_congr {m n : Store} (h : m.bytes = n.bytes) (a k : Nat) : m.read a k = n.read a k := by
  simp only [Store.read, Store.byte, h]

theorem Store.byte_congr {m n : Store} (h : m.bytes = n.bytes) (a : Nat) : m.byte a = n.byte a := by
  rw [Store.byte, Store.byte, h]

/-- Whatever becomes of its check word, a write of a tile writes its bytes (R405, R407). -/
theorem Store.bytes_memWrite (m : Store) (t lo : Nat) (d : List Byte) :
    (m.memWrite t lo d).bytes = (m.write (4096 * t + lo) d).bytes := by
  unfold Store.memWrite
  split
  · rfl
  · split <;> rfl

/-! ### The check of a tile (R30, R404) -/

theorem Store.mem_poisonTile (m : Store) (t : Nat) : t ∈ (m.poisonTile t).poison := by
  unfold Store.poisonTile
  split
  case isTrue h => exact h
  case isFalse => exact List.mem_append_right _ (List.mem_singleton.mpr rfl)

theorem State.tileCheck_poison {s : State} {t : Nat} {m : MemMark} (h : m = .uncorrectable ∨ t ∈ s.st.poison) :
    s.tileCheck t m = (some stPOISON, (State.count { s with st := s.st.poisonTile t } (.dsErr (t % 16)) dsErr_POISON 1).memEvent
      (t % 16) 0x20) := if_pos h

/-- A tile that is not poisoned, read without a mark, is judged by its check word alone. -/
theorem State.tileCheck_clean {s : State} {t : Nat} (h : t ∉ s.st.poison) :
    s.tileCheck t .clean = if firstChecked ≤ t ∧ s.st.tileStatus t = stCHECK
      then (some stCHECK, (s.count (.dsErr (t % 16)) dsErr_TCRC 1).memEvent (t % 16) 0x22) else (none, s) := by
  simp [State.tileCheck, h]

theorem Store.tileStatus_bad {m : Store} {t : Nat} (hp : t ∉ m.poison) (ht : firstChecked ≤ t) (hc : m.check t ≠ m.tileCrc t) :
    m.tileStatus t = stCHECK := by
  rw [Store.tileStatus, if_neg hp, if_neg (Nat.not_lt.mpr ht), if_neg hc]

theorem Store.tileStatus_good {m : Store} {t : Nat} (hp : t ∉ m.poison) (h : t < firstChecked ∨ m.check t = m.tileCrc t) :
    m.tileStatus t = stDONE := by
  rw [Store.tileStatus, if_neg hp]
  split
  case isTrue => rfl
  case isFalse hlt => exact if_pos (h.resolve_left hlt)

/-! ### Answers of the memory ports -/

theorem State.memRead_eq {s : State} {r : MReq} (m : MemMark) (hr : s.memReq r.id = some r) (hb : s.memBehind r = false)
    (hk : r.kind ≠ .write) : s.memRead r.id m = match (s.tileCheck r.tile m).1 with
      | some st => ((s.tileCheck r.tile m).2.reqDrop r.id).pieceDone r.job r.off [] (some st)
      | none =>
        let u := (s.tileCheck r.tile m).2
        let wr (x : MReq) : MReq := { x with kind := .write, at' := s.now }
        let reqs := updFirst (fun (x : MReq) => decide (x.id = r.id)) wr u.st.reqs
        if r.kind = .merge then { u with st := { u.st with reqs := reqs } }
        else (u.reqDrop r.id).memUse r := by
  rw [State.memRead, hr]
  exact if_neg (by simp [hk, hb])

/-- What a write leaves of the deep store, with the line of its tile stale where a frame carried it (R161). -/
def State.memStored (s : State) (r : MReq) : State :=
  let n := (s.reqDrop r.id).st.memWrite r.tile r.lo r.data
  { s.reqDrop r.id with st := if r.part.isSome then n.stale r.tile s.now else n }

theorem State.memWritten_eq {s : State} {r : MReq} (hr : s.memReq r.id = some r) (hb : s.memBehind r = false)
    (hk : r.kind = .write) :
    s.memWritten r.id = if r.thru then s.memStored r else (s.memStored r).pieceDone r.job r.off [] none := by
  rw [State.memWritten, hr]
  exact if_neg (by simp [hk, hb])

theorem State.memLate_due {s : State} {r : MReq} (hr : s.memReq r.id = some r) (hb : s.memBehind r = false)
    (hd : r.at' + us 10 ≤ s.now) (ht : r.thru = false) :
    s.memLate r.id = (((s.cancelReqs (fun x => decide (x.id = r.id))).count (.dsErr (r.tile % 16)) dsErr_PTO 1).memEvent
      (r.tile % 16) 0x23).pieceDone r.job r.off [] (some stCHECK) := by
  rw [State.memLate, hr]
  refine (if_neg (by simp [hb, hd])).trans (if_neg ?_)
  simp [ht]

/-- A write leaves all but the deep store as it was, and there it changes the bytes that it carries and no other. -/
theorem State.memStored_eq (s : State) (r : MReq) : ∃ m : Store, s.memStored r = { s with st := m }
    ∧ m.bytes = (s.st.write (4096 * r.tile + r.lo) r.data).bytes := by
  refine ⟨_, rfl, ?_⟩
  have hbytes := (s.reqDrop r.id).st.bytes_memWrite r.tile r.lo r.data
  cases r.part.isSome
  · exact hbytes
  · exact hbytes

end Sys2Proof.Machine

open Sys2Proof.Machine Sys2Proof

/-- Settles O31: each answer is one branch of its row, and the check of a tile one of three. -/
theorem memoryPort : Obligations.MemoryPort := by
  unfold Obligations.MemoryPort
  refine ⟨fun s r m tile hs hr => ⟨fun hb hw hm hc => ?_, fun st hb hw hc => ?_, fun hb hm hc => ?_, fun hb hk ht => ?_,
    fun hb hd ht => next_onLive hs (State.memLate_due hr hb hd ht), next_onLive hs rfl⟩,
    fun s t m => ⟨fun h => ?_, fun hm hp ht hc => ?_, fun hm hp h => ?_⟩⟩
  · refine next_onLive hs ((State.memRead_eq m hr hb hw).trans ?_)
    rw [hc]
    exact if_neg hm
  · refine next_onLive hs ((State.memRead_eq m hr hb hw).trans ?_)
    rw [hc]
  · refine next_onLive hs ((State.memRead_eq m hr hb (by simp [hm])).trans ?_)
    rw [hc]
    exact if_pos hm
  · exact next_onLive hs ((State.memWritten_eq hr hb hk).trans (if_neg (by simp [ht])))
  · rw [State.tileCheck_poison h]
    exact ⟨rfl, s.st.mem_poisonTile t, List.length_append⟩
  · rw [hm, State.tileCheck_clean hp, if_pos ⟨ht, Store.tileStatus_bad hp ht hc⟩]
    exact ⟨rfl, rfl⟩
  · rw [hm, State.tileCheck_clean hp, Store.tileStatus_good hp h]
    exact if_neg (by simp)

/-- Settles O32: the write changes the deep store alone, and a quiet block then settles nothing but PEND. -/
theorem writeThroughFrame : Obligations.WriteThroughFrame := by
  unfold Obligations.WriteThroughFrame
  intro s r hs hquiet hr hb hk ht
  obtain ⟨m, hstored, hbytes⟩ := s.memStored_eq r
  have hsettles : State.quiet { s with st := m } = true := hquiet
  refine ⟨s.atOnce (State.pendRefresh { s with st := m }), ?_, ?_, fun a ha => ?_, fun q hq => ?_, rfl, rfl, rfl, rfl, rfl, rfl⟩
  · rw [← s.after_of_quiet hsettles, ← hstored]
    exact next_onLive hs ((State.memWritten_eq hr hb hk).trans (if_pos ht))
  · exact (Store.read_congr hbytes _ _).trans (s.st.read_write _ _)
  · exact (Store.byte_congr hbytes a).trans (s.st.byte_write_ne _ a _ ha)
  · exact State.reg_setFld_ne { s with st := m } _ _ hq

end

section
/-! PROOF. The management memory port: the read half of an atomic goes on with its write half (R110), whose operation is in bits
0 to 3 of SUBOP; bit 7 beside them is FETCH (R108). -/

namespace Sys2Proof.Machine

/-- The write half that follows the read half of an atomic, for an operation, its operands and the bytes read. -/
def MgReq.written (r : MgReq) (now sub a b : Nat) (d : List Byte) : MgReq :=
  { r with wr := true, op := none, old := padTo r.len d, at' := now
           data := natBytes r.len (atomicOp sub (bytesNat (padTo r.len d)) a b) }

/-- The state with the access of `x.id` replaced. -/
def State.mgReplace (s : State) (x : MgReq) : State :=
  { s with mv := { s.mv with mgreq := updFirst (fun y => decide (y.id = x.id)) (fun _ => x) s.mv.mgreq } }

/-- The answer to the read half of an atomic starts its write half, by the operation in bits 0 to 3 of SUBOP (R108, R110). -/
theorem State.mgAnswer_atomic {s : State} {r : MgReq} {sub a b : Nat} (d : List Byte)
    (hr : s.mv.mgreq.find? (fun x => x.id = r.id) = some r) (hb : s.mgBehind r = false) (hw : r.wr = false)
    (hop : r.op = some (sub, a, b)) :
    s.mgAnswer r.id d = s.mgReplace (r.written s.now (sub % 16) a b d) := by
  rw [State.mgAnswer, hr]
  dsimp only
  rw [hb, hw, hop]
  rfl

/-- An access replaced is nothing that waits to be settled. -/
theorem State.quiet_mgReplace (s : State) (x : MgReq) : (s.mgReplace x).quiet = s.quiet := rfl

/-- The accesses that a row leaves in a quiet block. -/
theorem State.mgreq_after_mgReplace {s : State} (h : s.quiet = true) (x : MgReq) :
    (s.after (s.mgReplace x)).mv.mgreq = updFirst (fun y => decide (y.id = x.id)) (fun _ => x) s.mv.mgreq := by
  rw [s.after_of_quiet ((s.quiet_mgReplace x).trans h)]
  rfl

/-- The read half of an ADD_I64 with FETCH: SUBOP 0x81, operand 1. -/
def addReturning : MgReq :=
  { id := 0, wr := false, op := some (0x81, 1, 0), old := [], addr := 0, len := 8, data := [], at' := 0, job := 0, off := 0 }

/-- A block after reset with that access outstanding. -/
def addOutstanding : State := { State.reset with mv := { Moves.init with mgreq := [addReturning] } }

theorem quiet_addOutstanding : addOutstanding.quiet = true := by decide

/-- Where memory holds 1 the block writes the sum 2. -/
theorem exec_answer_addOutstanding :
    exec (.mgmtMemoryPortAnswer addReturning.id [1]) addOutstanding
      = .next (addOutstanding.after (addOutstanding.mgReplace (addReturning.written 0 1 1 0 [1]))) :=
  next_onLive rfl (State.mgAnswer_atomic (s := addOutstanding) (r := addReturning) (sub := 0x81) [1] rfl rfl rfl rfl)

end Sys2Proof.Machine

open Sys2Proof.Machine Sys2Proof

/-- Refutes O33: the statement gives the write half of an atomic the whole of SUBOP as its operation, where the block takes
bits 0 to 3 (R108). An ADD_I64 with FETCH, SUBOP 0x81, adds its operand, and does not swap it. -/
theorem not_managementPort : ¬ Obligations.ManagementPort := by
  unfold Obligations.ManagementPort
  intro h
  obtain ⟨-, -, -, hport⟩ := h addOutstanding 0 (Cmd.ofBytes []) addReturning [1] rfl
  obtain ⟨-, hanswer⟩ := hport rfl
  have hswap : exec (.mgmtMemoryPortAnswer addReturning.id [1]) addOutstanding
      = .next (addOutstanding.after (addOutstanding.mgReplace (addReturning.written 0 0x81 1 0 [1]))) := hanswer rfl
  have hsame := Host.Outcome.next.inj (exec_answer_addOutstanding.symm.trans hswap)
  have hdata := congrArg (fun t : State => t.mv.mgreq) hsame
  simp only [State.mgreq_after_mgReplace quiet_addOutstanding] at hdata
  exact absurd hdata (by decide)

end

section
/-! PROOF. Settling where nothing waits (R93). -/

open Sys2Proof.Machine Sys2Proof

/-- Settles O8: a quiet block settles in one turn, which refreshes PEND and no more. -/
theorem settledWhenQuiet : Obligations.SettledWhenQuiet := by
  unfold Obligations.SettledWhenQuiet
  exact fun s _ h => s.after_of_quiet h

end

section
/-! PROOF. The management queue pair's ring sizes: what a write of DX_MQ_CFG leaves, by EN, PEND and the sizes written (R93,
R95). -/

namespace Sys2Proof.Machine

/-- A field holds no more than its width. -/
theorem fget_lt (r : Word) (p : Pos) : fget r p < 2 ^ p.w := Nat.mod_lt _ (Nat.two_pow_pos p.w)

/-! ### The ring sizes of a written word -/

/-- Both ring sizes of a word written to DX_MQ_CFG are from 4 to 12 (R95). -/
def ringSizesOk (v : Word) : Prop :=
  4 ≤ fget v mqCfg_CLOG2 ∧ fget v mqCfg_CLOG2 ≤ 12 ∧ 4 ≤ fget v mqCfg_RLOG2 ∧ fget v mqCfg_RLOG2 ≤ 12

/-- The state with both ring sizes written. -/
def State.ringSized (s : State) (v : Word) : State :=
  (s.setFld .mqCfg mqCfg_CLOG2 (fget v mqCfg_CLOG2)).setFld .mqCfg mqCfg_RLOG2 (fget v mqCfg_RLOG2)

theorem State.clog2_ringSized (s : State) (v : Word) : (s.ringSized v).fld .mqCfg mqCfg_CLOG2 = fget v mqCfg_CLOG2 := by
  rw [State.ringSized, State.fld_setFld_apart _ _ _ (by decide) (by decide),
    State.fld_setFld_of_lt _ _ (by decide) (fget_lt v mqCfg_CLOG2)]

theorem State.rlog2_ringSized (s : State) (v : Word) : (s.ringSized v).fld .mqCfg mqCfg_RLOG2 = fget v mqCfg_RLOG2 :=
  State.fld_setFld_of_lt _ _ (by decide) (fget_lt v mqCfg_RLOG2)

theorem State.en_ringSized (s : State) (v : Word) : (s.ringSized v).fld .mqCfg mqCfg_EN = s.fld .mqCfg mqCfg_EN := by
  rw [State.ringSized, State.fld_setFld_apart _ _ _ (by decide) (by decide),
    State.fld_setFld_apart _ _ _ (by decide) (by decide)]

theorem State.offRange_ringSized (s : State) (v : Word) :
    (offRange 4 12 ((s.ringSized v).fld .mqCfg mqCfg_CLOG2) = true ∨ offRange 4 12 ((s.ringSized v).fld .mqCfg mqCfg_RLOG2) = true)
      ↔ ¬ ringSizesOk v := by
  rw [State.clog2_ringSized, State.rlog2_ringSized]
  simp only [offRange, decide_eq_true_eq, ringSizesOk]
  omega

/-! ### The write, case by case -/

/-- A write that the controller does not take as EN = 1 (R95). -/
def State.mgmtRefused (s : State) : State := s.setFld .stat stat_MGMTPORTERR 1

/-- The queue pair set going: fetch index and slot at 0, phase 1 (R93). -/
def State.mgmtStarted (s : State) : State :=
  (((s.setFld .mqCfg mqCfg_EN 1).setFld .mqHead mqHead_FETCH 0).setFld .mqHead mqHead_WIDX 0).setFld .mqHead mqHead_PH 1

theorem State.mqCfgWrite_of_enabled {s : State} (v : Word) (hen : s.fld .mqCfg mqCfg_EN = 1) :
    s.mqCfgWrite v = s.setFld .mqCfg mqCfg_EN (fget v mqCfg_EN) := if_pos hen

/-- While a fetched command has its record to write, EN stays 0 and the ring sizes stand. -/
theorem State.mqCfgWrite_of_pending {s : State} {v : Word} (hen : s.fld .mqCfg mqCfg_EN = 0)
    (hp : s.fld .mqHead mqHead_PEND = 1) (hv : fget v mqCfg_EN = 1) : s.mqCfgWrite v = s.mgmtRefused := by
  have hoff : fget (s.reg .mqCfg) mqCfg_EN = 0 := hen
  simp [State.mqCfgWrite, hoff, hp, hv, State.mgmtRefused]

/-- With nothing pending the ring sizes are written, and EN after them where they are in range. -/
theorem State.mqCfgWrite_of_idle {s : State} {v : Word} (hen : s.fld .mqCfg mqCfg_EN = 0)
    (hp : s.fld .mqHead mqHead_PEND = 0) (hv : fget v mqCfg_EN = 1) :
    (ringSizesOk v → s.mqCfgWrite v = (s.ringSized v).mgmtStarted)
    ∧ (¬ ringSizesOk v → s.mqCfgWrite v = (s.ringSized v).mgmtRefused) := by
  have hoff : fget (s.reg .mqCfg) mqCfg_EN = 0 := hen
  have hrange := s.offRange_ringSized v
  rw [State.ringSized] at hrange
  refine ⟨fun h => ?_, fun h => ?_⟩
  · simp [State.mqCfgWrite, State.mgmtStarted, State.ringSized, hoff, hp, hv, hrange, h]
  · simp [State.mqCfgWrite, State.mgmtRefused, State.ringSized, hoff, hp, hv, hrange, h]

/-! ### What is left of the registers -/

/-- A refused write sets MGMT_PORT_ERR and leaves EN as it was. -/
theorem State.mgmtRefused_fld (s : State) :
    s.mgmtRefused.fld .mqCfg mqCfg_EN = s.fld .mqCfg mqCfg_EN ∧ s.mgmtRefused.fld .stat stat_MGMTPORTERR = 1 :=
  ⟨s.fld_setFld_ne _ _ _ (by decide), s.fld_setFld_of_lt _ (by decide) (by decide)⟩

theorem State.mgmtStarted_fld (s : State) :
    s.mgmtStarted.fld .mqCfg mqCfg_EN = 1 ∧ s.mgmtStarted.fld .mqHead mqHead_FETCH = 0
    ∧ s.mgmtStarted.fld .mqHead mqHead_WIDX = 0 ∧ s.mgmtStarted.fld .mqHead mqHead_PH = 1 := by
  refine ⟨?_, ?_, ?_, State.fld_setFld_of_lt _ _ (by decide) (by decide)⟩
  · rw [State.mgmtStarted, State.fld_setFld_ne _ _ _ _ (by decide), State.fld_setFld_ne _ _ _ _ (by decide),
      State.fld_setFld_ne _ _ _ _ (by decide), State.fld_setFld_of_lt _ _ (by decide) (by decide)]
  · rw [State.mgmtStarted, State.fld_setFld_apart _ _ _ (by decide) (by decide),
      State.fld_setFld_apart _ _ _ (by decide) (by decide), State.fld_setFld_of_lt _ _ (by decide) (by decide)]
  · rw [State.mgmtStarted, State.fld_setFld_apart _ _ _ (by decide) (by decide),
      State.fld_setFld_of_lt _ _ (by decide) (by decide)]

/-- A write of DX_MQ_CFG changes no register but that one, DX_MQ_HEAD and DX_STAT. -/
theorem State.reg_mqCfgWrite_ne (s : State) (v : Word) {q : Reg} (hcfg : q.addr ≠ Reg.mqCfg.addr)
    (hhead : q.addr ≠ Reg.mqHead.addr) (hstat : q.addr ≠ Reg.stat.addr) : (s.mqCfgWrite v).reg q = s.reg q := by
  have hc (s : State) (p : Pos) (x : Nat) : (s.setFld .mqCfg p x).reg q = s.reg q := s.reg_setFld_ne p x hcfg
  have hh (s : State) (p : Pos) (x : Nat) : (s.setFld .mqHead p x).reg q = s.reg q := s.reg_setFld_ne p x hhead
  have ht (s : State) (p : Pos) (x : Nat) : (s.setFld .stat p x).reg q = s.reg q := s.reg_setFld_ne p x hstat
  simp only [State.mqCfgWrite, apply_ite (fun t : State => t.reg q), hc, hh, ht, ite_self]

end Sys2Proof.Machine

open Sys2Proof.Machine Sys2Proof

/-- Settles O37: by EN, PEND and the ring sizes written. -/
theorem managementRingsAreChecked : Obligations.ManagementRingsAreChecked := by
  unfold Obligations.ManagementRingsAreChecked
  intro s v
  dsimp only
  have hrow : s.regWrite .mqCfg v = s.mqCfgWrite v := rfl
  rw [hrow]
  refine ⟨fun hen => State.mqCfgWrite_of_enabled v hen, fun hen hp hv => ?_, fun hen hp hv => ?_,
    fun q hcfg hhead hstat => s.reg_mqCfgWrite_ne v hcfg hhead hstat⟩
  · obtain ⟨hstarted, hrefused⟩ := State.mqCfgWrite_of_idle hen hp hv
    refine ⟨fun hok => ?_, fun hbad => ?_⟩
    · rw [hstarted hok]
      exact (s.ringSized v).mgmtStarted_fld
    · rw [hrefused hbad, ← hen, ← s.en_ringSized v]
      exact (s.ringSized v).mgmtRefused_fld
  · rw [State.mqCfgWrite_of_pending hen hp hv, ← hen]
    exact s.mgmtRefused_fld

end

section
/-! PROOF. Pushes to the command queues: accepted, discarded, waiting for a slot or a spilled context, and the end of a drain
(R69, R71 to R76, R263, R521). -/

namespace Sys2Proof.Machine

/-! ### The context of a push -/

theorem State.ctx_of_ctxDie {s : State} {q : Nat} {x : QCtx} (h : s.ctxDie q = some x) : s.ctx q = x := by
  rw [State.ctx, h]
  rfl

/-- A slice that is not confidential lets any port push (R521). -/
theorem State.pushMasked_of_open {s : State} {sl : Nat} (c : Nat) (h : s.conf sl = false) : s.pushMasked c sl = true := by
  rw [State.pushMasked, h]
  rfl

/-- A push for a queue of another port or one that is not active is discarded (R69). -/
theorem State.pushTake_discards {s : State} {c q : Nat} (cmd : Cmd)
    (h : fget (s.ctx q).w0 qPORT ≠ c ∨ fget (s.ctx q).w0 qSTATE ≠ qsACTIVE) : s.pushTake c q cmd = s.pushDrop c :=
  if_pos (h.imp_right .inl)

/-- A push within its queue's credits is accepted (R69, R76). -/
theorem State.pushTake_accepts {s : State} {q : Nat} (cmd : Cmd) (hst : fget (s.ctx q).w0 qSTATE = qsACTIVE)
    (hconf : s.conf (fget (s.ctx q).w0 qSLICE) = false) (hcred : fget (s.ctx q).w2 qINFL < fget (s.ctx q).w0 qCREDITS) :
    s.pushTake (fget (s.ctx q).w0 qPORT) q cmd
      = (s.putCtx (s.ctx q)).accept q (fget (s.ctx q).w0 qPORT) (fget (s.ctx q).w0 qSLICE) cmd := by
  have hmask := State.pushMasked_of_open (fget (s.ctx q).w0 qPORT) hconf
  refine (if_neg ?_).trans (if_neg (Nat.not_le.mpr hcred))
  simp [hst, hmask]

/-! ### The push that is next -/

/-- The state with the push taken from the delivered packets. -/
def State.pushPopped (s : State) : State :=
  { s with sw := { s.sw with inbox := dropFirst s.pushReady s.sw.inbox } }

/-- The queue that a push names. -/
def InEnt.queue (e : InEnt) : Nat := nfld e.pkt.ext.toNat 0 20

theorem State.push_discards {s : State} {e : InEnt} (he : s.sw.inbox.find? s.pushReady = some e)
    (h : e.pkt.e2e ≠ e.pkt.e2eOf ∨ e.queue = 0) : s.push = s.pushPopped.pushDrop e.port := by
  rw [State.push, he]
  exact if_pos h

theorem State.push_onDie {s : State} {e : InEnt} {x : QCtx} (he : s.sw.inbox.find? s.pushReady = some e)
    (hcrc : e.pkt.e2e = e.pkt.e2eOf) (hq : e.queue ≠ 0) (hx : s.ctxDie e.queue = some x) :
    s.push = s.pushPopped.pushTake e.port e.queue (Cmd.ofBytes e.pkt.pay) := by
  have hdie : (s.pushPopped.ctxDie e.queue).isSome = true := Option.isSome_of_eq_some hx
  rw [State.push, he]
  exact (if_neg (not_or.mpr ⟨not_not.mpr hcrc, hq⟩)).trans (if_pos hdie)

/-- A push whose context is spilled waits for it, with a slot where one can be had (R72, R73). -/
theorem State.push_waits {s : State} {e : InEnt} (he : s.sw.inbox.find? s.pushReady = some e)
    (hcrc : e.pkt.e2e = e.pkt.e2eOf) (hq : e.queue ≠ 0) (hx : s.ctxDie e.queue = none) :
    s.push = { s.pushPopped with tp := { s.tp with pushW := s.tp.pushW ++
      [{ port := e.port, qid := e.queue, cmd := Cmd.ofBytes e.pkt.pay, slot := s.pushPopped.ctxRoom }] } } := by
  have hdie : (s.pushPopped.ctxDie e.queue).isSome = false := Option.isSome_eq_false_iff.mpr (Option.isNone_iff_eq_none.mpr hx)
  rw [State.push, he]
  exact (if_neg (not_or.mpr ⟨not_not.mpr hcrc, hq⟩)).trans (if_neg (Bool.eq_false_iff.mp hdie))

/-! ### Pushes that wait, and drained queues -/

/-- The state with a slot for the push that waits on port `c`. -/
def State.slotGiven (s : State) (c : Nat) : State :=
  { s with tp := { s.tp with
    pushW := updFirst (fun w => decide (w.port = c) && !w.slot) (fun w => { w with slot := true }) s.tp.pushW } }

theorem State.pushSlot_of_room {s : State} (c : Nat) (h : s.ctxRoom = true) :
    s.pushSlot c = (if (s.slotGiven c).up c then (s.slotGiven c).regrant c else s.slotGiven c).tabResume := if_pos h

/-- The state with the push taken that has a slot and waits for the context of queue `q`. -/
def State.fetchPopped (s : State) (q : Nat) : State :=
  { s with tp := { s.tp with pushW := dropFirst (fun w => decide (w.qid = q) && w.slot) s.tp.pushW } }

/-- A spilled context that passes its check goes on die, and its push is taken (R72, R74). -/
theorem State.ctxFetch_clean {s : State} {q : Nat} {w : PushW} (hw : s.tp.pushW.find? (fun w => decide (w.qid = q) && w.slot) = some w)
    (hdie : s.ctxDie q = none) (hroom : s.ctxRoom = true)
    (hclean : (s.fetchPopped q).tileCheck (spillAddr q / 4096) .clean = (none, s.fetchPopped q)) :
    s.ctxFetch q .clean
      = ((((s.fetchPopped q).putCtx ((s.fetchPopped q).ctxSpilled q)).pushTake w.port q w.cmd).tabResume) := by
  simp only [State.fetchPopped] at hclean ⊢
  simp only [State.ctxFetch, hw, hdie, hroom, hclean, Option.isSome_none, Bool.not_true, Bool.false_eq_true, if_false]

theorem State.drained_frees {s : State} {q : Nat} (hst : fget (s.ctx q).w0 qSTATE = qsDRAINING)
    (hinfl : fget (s.ctx q).w2 qINFL = 0) (hrec : s.recOut q = false) : s.drained q = s.setQState q qsFREE :=
  if_pos ⟨hst, hinfl, by rw [hrec]; rfl⟩

end Sys2Proof.Machine

open Sys2Proof.Machine Sys2Proof

/-- Settles O34: each outcome of a push is one branch of its row. -/
theorem queuePushes : Obligations.QueuePushes := by
  unfold Obligations.QueuePushes
  refine ⟨fun s e hs he => ⟨fun hbad => ?_, fun x hcrc hq hx hno => ?_, fun x hcrc hq hx hport hst hconf hcred => ?_,
      fun hcrc hq hx => ?_⟩,
    fun s q c w hs hq hlt hc => ⟨fun hroom => ?_, fun hw hdie hroom => ?_, fun hst hinfl hrec => ?_⟩⟩
  · exact next_onLive hs (State.push_discards he hbad)
  · have hctx : s.pushPopped.ctx e.queue = x := State.ctx_of_ctxDie hx
    refine next_onLive hs ((State.push_onDie he hcrc hq hx).trans (State.pushTake_discards _ ?_))
    rw [hctx]
    exact hno
  · have hctx : s.pushPopped.ctx e.queue = x := State.ctx_of_ctxDie hx
    refine next_onLive hs ((State.push_onDie he hcrc hq hx).trans ?_)
    rw [← hport]
    subst hctx
    exact State.pushTake_accepts _ hst hconf hcred
  · exact next_onLive hs (State.push_waits he hcrc hq hx)
  · exact ifWf_onLive (decide_eq_true hc) hs (State.pushSlot_of_room c hroom)
  · intro u hclean
    exact ifWf_onLive (decide_eq_true hlt) hs (State.ctxFetch_clean hw hdie hroom hclean)
  · exact ifWf_onLive (decide_eq_true hlt) hs (State.drained_frees hst hinfl hrec)

end

section
/-! PROOF. The management command fetched first, where it may start, and what a check of its operands answers (R540, R544). -/

namespace Sys2Proof.Machine

/-! ### The row of the command fetched first -/

theorem State.mgmtRow_of_starts {s : State} {c : Cmd} {p : Cmd → Bool} (f : Cmd → State → State) (hc : s.starts c)
    (hp : p c = true) : s.mgmtRow p f = f c s.mgmtTaken := by
  obtain ⟨hfirst, hres⟩ := hc
  simp [State.mgmtRow, hfirst, hp, hres]

/-- A command that need not wait runs as one that never waits. -/
theorem State.mgmtRowWait_of_starts {s : State} {c : Cmd} {p w : Cmd → Bool} (f : Cmd → State → State) (hc : s.starts c)
    (hp : p c = true) (hw : w c = false) : s.mgmtRowWait p w f = f c s.mgmtTaken := by
  have hrow := State.mgmtRow_of_starts f hc hp
  obtain ⟨hfirst, -⟩ := hc
  simp [State.mgmtRowWait, hfirst, hp, hw, hrow]

/-- The outcome of a row whose command is fetched first and may start. -/
theorem next_mgmtRow {s u : State} {c : Cmd} {p : Cmd → Bool} {f : Cmd → State → State} (hs : s.isLive = true)
    (hc : s.starts c) (hp : p c = true) (h : f c s.mgmtTaken = u) :
    (.next (s.onLive (s.mgmtRow p f)) : Host.Outcome State Fault Refusal) = .next (s.after u) :=
  next_onLive hs ((State.mgmtRow_of_starts f hc hp).trans h)

/-- The outcome of such a row whose command may have to wait, and need not. -/
theorem next_mgmtRowWait {s u : State} {c : Cmd} {p w : Cmd → Bool} {f : Cmd → State → State} (hs : s.isLive = true)
    (hc : s.starts c) (hp : p c = true) (hw : w c = false) (h : f c s.mgmtTaken = u) :
    (.next (s.onLive (s.mgmtRowWait p w f)) : Host.Outcome State Fault Refusal) = .next (s.after u) :=
  next_onLive hs ((State.mgmtRowWait_of_starts f hc hp hw).trans h)

/-! ### Checks of operands -/

@[simp] theorem firstBad_nil : firstBad [] = none := rfl
@[simp] theorem firstBad_cons_true (at' : Nat) (l : List (Bool × Nat)) : firstBad ((true, at') :: l) = some (3, at') := rfl
@[simp] theorem firstBad_cons_false (at' : Nat) (l : List (Bool × Nat)) : firstBad ((false, at') :: l) = firstBad l := rfl

theorem State.tableEnd_done {s t : State} {c : Cmd} {bad : Option (Nat × Nat)} (h : bad = none) :
    s.tableEnd c bad t = t.mgmtRec c stDONE 0 := by rw [h, State.tableEnd]

theorem State.tableEnd_refused {s t : State} {c : Cmd} {bad : Option (Nat × Nat)} {x : Nat × Nat} (h : bad = some x) :
    s.tableEnd c bad t = s.mgmtRec c stFORMAT (resFmt x.1 x.2) := by
  rw [h, State.tableEnd]
  rfl

theorem State.mgmtRange_taken {s t : State} {c : Cmd} {l : List (Bool × Nat)} (h : firstBad l = none) :
    s.mgmtRange c l t = t := by rw [State.mgmtRange, h]

theorem State.mgmtRange_refused {s t : State} {c : Cmd} {l : List (Bool × Nat)} {x : Nat × Nat} (h : firstBad l = some x) :
    s.mgmtRange c l t = s.mgmtRec c stFORMAT (resFmt x.1 x.2) := by
  rw [State.mgmtRange, h]
  rfl

end Sys2Proof.Machine
end

section
/-! PROOF. Table writes, gallery setup and removal, slice creation and teardown: each row by what its table or slice lets it do
(R63, R100, R182, R184, R207, R347, R413, R515, R533, R535, R541). -/

namespace Sys2Proof.Machine

/-! ### Which row, and whether it waits -/

theorem cmdTable_of_mem {c : Cmd} {l : List Nat} (ho : c.opc = 0x82) (ht : cmdTid c ∈ l) : cmdTable l c = true :=
  decide_eq_true ⟨ho, ht⟩

theorem State.sysWait_of_ready {s : State} (c : Cmd) (h : s.fld .dsStat dsStat_SYSRDY = 1) : s.sysWait c = false := by
  simp [State.sysWait, h]

/-- With no push waiting, a write of a context waits for nothing but a slot that PIN needs (R68, R71). -/
theorem State.ctxWait_of_ready {s : State} {c : Cmd} (h : s.fld .dsStat dsStat_SYSRDY = 1) (hpush : s.tp.pushW = [])
    (hpin : fget c.w3 qPIN = 0 ∨ s.ctxRoom = true) : s.ctxWait c = false := by
  have hsys := State.sysWait_of_ready c h
  rcases hpin with hpin | hroom
  · simp [State.ctxWait, hsys, hpush, hpin]
  · simp [State.ctxWait, hsys, hpush, hroom]

theorem State.holdWait_of_free {s : State} (c : Cmd) (h : s.sec.mirror.held = none) : s.holdWait c = false := by
  simp [State.holdWait, h]

/-! ### Table writes with an index in range, and out of it -/

/-- What a table write's own check adds to that of its index. -/
theorem firstBad_orElse_inRange {b : Bool} (at' : Nat) (x : Option (Nat × Nat)) (h : b = false) :
    (firstBad [(b, at')] <|> x) = x := by
  rw [h]
  rfl

theorem firstBad_orElse_outOfRange {b : Bool} (at' : Nat) (x : Option (Nat × Nat)) (h : b = true) :
    (firstBad [(b, at')] <|> x) = some (3, at') := by
  rw [h]
  rfl

theorem State.runTableSeq_inRange {s : State} {c : Cmd} (hix : cmdIndex c / 16384 < 6)
    (hidle : s.seqBusy (cmdIndex c / 16384) (cmdIndex c % 16384) = false) :
    State.runTableSeq c s
      = (s.seqWrite (cmdIndex c / 16384) (cmdIndex c % 16384) c.w3 c.w4).mgmtRec c stDONE 0 :=
  State.tableEnd_done (by simp [hidle, Nat.not_le.mpr hix])

theorem State.runTableSeq_refused {s : State} {c : Cmd}
    (h : 6 ≤ cmdIndex c / 16384 ∨ s.seqBusy (cmdIndex c / 16384) (cmdIndex c % 16384) = true) :
    State.runTableSeq c s = s.mgmtRec c stFORMAT (resFmt 3 17) := by
  refine State.tableEnd_refused (x := (3, 17)) ?_
  rcases Nat.lt_or_ge (cmdIndex c / 16384) 6 with hlt | hge
  · simp [h.resolve_left (Nat.not_le.mpr hlt), Nat.not_le.mpr hlt]
  · simp [hge]

/-! ### Slices -/

/-- SLICE_TEARDOWN of an ACTIVE slice while no teardown runs starts one; while one runs it joins that of its own slice, and
waits behind that of another (R533). -/
theorem State.runSliceTeardown_active {s : State} {c : Cmd} (hsl : c.fld 2 0 6 ≠ 0)
    (hst : s.fld (.slice (c.fld 2 0 6)) slice_STATE ≠ 0) :
    (s.mg.tear = none → State.runSliceTeardown c s
      = State.tearNext (s.mg.engTear.length + 1) { s with mg := { s.mg with engTear := s.mg.engTear ++ [c] } })
    ∧ (∀ t, s.mg.tear = some t → t.slice = c.fld 2 0 6 → State.runSliceTeardown c s
      = { s with mg := { s.mg with tear := some { t with cmds := t.cmds ++ [c] } } })
    ∧ (∀ t, s.mg.tear = some t → t.slice ≠ c.fld 2 0 6 → State.runSliceTeardown c s
      = { s with mg := { s.mg with engTear := s.mg.engTear ++ [c] } }) := by
  refine ⟨fun ht => ?_, fun t ht heq => ?_, fun t ht hne => ?_⟩
  · simp [State.runSliceTeardown, hsl, hst, ht]
  · simp [State.runSliceTeardown, hsl, hst, ht, heq]
  · simp [State.runSliceTeardown, hsl, hst, ht, hne]

/-- Steps 3 to 5 of a teardown whose drain is over (R535). -/
def State.tearPast (s : State) (t : Tear) : State :=
  let r := s.tearClear t.slice
  let rg := if s.conf t.slice || s.quar t.slice then r.1.filterMap generalPart else []
  let w : Tear := { t with step := 4, ranges := rg }
  let v : State := { r.2 with mg := { r.2.mg with tear := some w } }
  let u := if rg.isEmpty then v.tearFree w else rg.foldl (fun s x => s.scrubAdd x.1 x.2 none) v
  u.tearNext u.mg.engTear.length

theorem State.tearStep_of_drained {s : State} {t : Tear} (ht : s.mg.tear = some t) (hm : s.sec.mirror.held = none)
    (hstep : t.step = 2) (hd : s.tearDrained t.slice = true) : s.tearStep = s.tearPast t := by
  rw [State.tearStep, ht]
  exact (if_neg (by simp [hm])).trans ((if_neg (by simp [hstep])).trans (if_pos ⟨hstep, hd⟩))

/-- A close that a mirror hold kept back (R515). -/
theorem State.tearStep_of_held {s : State} {t : Tear} (ht : s.mg.tear = some t) (hm : s.sec.mirror.held = none)
    (hstep : t.step = 1) :
    s.tearStep = State.tearClose { s with mg := { s.mg with tear := some { t with step := 2 } } } t.slice := by
  rw [State.tearStep, ht]
  exact (if_neg (by simp [hm])).trans (if_pos hstep)

end Sys2Proof.Machine

open Sys2Proof.Machine Sys2Proof

/-- Settles O39: each row takes the command fetched first, and its check, its table or the slice's state picks the answer. -/
theorem tableAndSliceCommands : Obligations.TableAndSliceCommands := by
  unfold Obligations.TableAndSliceCommands
  refine ⟨fun s c hs hc => ⟨fun ho ht hrdy hpush hpin => ?_, fun ho ht hrdy => ?_, fun ho ht => ?_, fun ho ht hm => ?_,
    fun ho hm => ?_, fun ho => ?_, fun ho => ?_⟩, fun s t hs ht hm => ⟨fun hstep hd => ?_, fun hstep => ?_⟩⟩
  · have hp := cmdTable_of_mem (l := [1]) ho (by simp [ht])
    have hw := State.ctxWait_of_ready hrdy hpush hpin
    exact ⟨fun h => next_mgmtRowWait hs hc hp hw (State.tableEnd_done h),
      fun x h => next_mgmtRowWait hs hc hp hw (State.tableEnd_refused h)⟩
  · have hp := cmdTable_of_mem (l := [2]) ho (by simp [ht])
    have hw := State.sysWait_of_ready c hrdy
    refine ⟨fun hix h => next_mgmtRowWait hs hc hp hw (State.tableEnd_done ?_),
      fun x hix h => next_mgmtRowWait hs hc hp hw (State.tableEnd_refused ?_),
      fun hix => next_mgmtRowWait hs hc hp hw (State.tableEnd_refused (x := (3, 17)) ?_)⟩
    · rw [firstBad_orElse_inRange _ _ (decide_eq_false (Nat.not_le.mpr hix)), h]
    · rw [firstBad_orElse_inRange _ _ (decide_eq_false (Nat.not_le.mpr hix)), h]
    · exact firstBad_orElse_outOfRange _ _ (decide_eq_true hix)
  · have hp := cmdTable_of_mem (l := [3]) ho (by simp [ht])
    exact ⟨fun hix hidle => next_mgmtRow hs hc hp (State.runTableSeq_inRange hix hidle),
      fun h => next_mgmtRow hs hc hp (State.runTableSeq_refused h)⟩
  · have hp := cmdTable_of_mem (l := [4, 5]) ho (by simp [ht])
    have hw := State.holdWait_of_free c hm
    refine ⟨fun hix hword h => next_mgmtRowWait hs hc hp hw (State.tableEnd_done ?_),
      fun x hix hword h => next_mgmtRowWait hs hc hp hw (State.tableEnd_refused ?_),
      fun h => next_mgmtRowWait hs hc hp hw (State.tableEnd_refused (x := (3, 17)) ?_)⟩
    · rw [firstBad_orElse_inRange _ _ (by simp [hix, hword]), h]
    · rw [firstBad_orElse_inRange _ _ (by simp [hix, hword]), h]
    · exact firstBad_orElse_outOfRange _ _ (by simpa using h)
  · have hw := State.holdWait_of_free c hm
    refine ⟨fun hv h => next_mgmtRowWait hs hc ?_ hw (State.tableEnd_done h),
      fun x hv h => next_mgmtRowWait hs hc ?_ hw (State.tableEnd_refused h),
      fun hv h => next_mgmtRowWait hs hc ?_ hw (State.tableEnd_done h),
      fun x hv h => next_mgmtRowWait hs hc ?_ hw (State.tableEnd_refused h)⟩
    all_goals simp [ho, hv]
  · refine ⟨fun hsl hst => next_mgmtRow hs hc (decide_eq_true ho) (State.mgmtRange_taken ?_),
      fun h => next_mgmtRow hs hc (decide_eq_true ho) (State.mgmtRange_refused (x := (3, 16)) ?_)⟩
    · simp [hsl, hst]
    · simp [h]
  · refine ⟨fun hsl => next_mgmtRow hs hc (decide_eq_true ho) (if_pos hsl),
      fun hsl hst => next_mgmtRow hs hc (decide_eq_true ho) ((if_neg hsl).trans (if_pos hst)), fun hsl hst => ?_⟩
    obtain ⟨hstart, hjoin, hwait⟩ := State.runSliceTeardown_active hsl hst
    exact ⟨fun ht => next_mgmtRow hs hc (decide_eq_true ho) (hstart ht),
      fun t ht heq => next_mgmtRow hs hc (decide_eq_true ho) (hjoin t ht heq),
      fun t ht hne => next_mgmtRow hs hc (decide_eq_true ho) (hwait t ht hne)⟩
  · exact next_onLive hs (State.tearStep_of_drained ht hm hstep hd)
  · exact next_onLive hs (State.tearStep_of_held ht hm hstep)

end

section
/-! PROOF. The timers of the transport and of edge requests: what each leaves once it is due (R116 to R118, R122, R124, R130, R134,
R151, R169, R170). -/

namespace Sys2Proof.Machine

/-! ### Waits and probes -/

theorem State.syncExpire_late {s : State} {w : Wait}
    (hw : s.tp.waits.find? (fun w => decide (w.deadline < s.fnow)) = some w) :
    s.syncExpire = (s.waitsRefresh (dropFirst (fun x => decide (x = w)) s.tp.waits)).answerWait w stTGTTO w.dst.toNat := by
  rw [State.syncExpire, hw]

/-- Have the writes been performed that a kept probe waits for (R151)? -/
def State.probeDone (s : State) (e : InEnt) : Bool := s.performed e.pkt.h.src.toNat (Desc.ofNat e.pkt.desc).qid

theorem State.probeReady_performed {s : State} {e : InEnt} (he : s.tp.probes.find? s.probeDone = some e) :
    s.probeReady = State.answerProbe { s with tp := { s.tp with probes := dropFirst s.probeDone s.tp.probes } } e := by
  unfold State.probeDone at he ⊢
  simp only [State.probeReady, he]

/-! ### Commands -/

theorem State.waitOut_late {s : State} {t : Txn} (ht : s.findTxn t.id = some t) (hf : t.fstat = none) (ho : t.cmd.opc = opSYNCWAIT)
    (hd : t.accFt + us t.cmd.wto + us 1 ≤ s.fnow) :
    s.waitOut t.id = s.endTxn t.id stTRANSTO (resEp t.cmd.dst 0) := by
  have hgo : ¬ (t.cmd.opc ≠ opSYNCWAIT ∨ t.fstat.isSome ∨ s.fnow < t.accFt + us t.cmd.wto + us 1) := by
    simp [ho, hf, Nat.not_lt.mpr hd]
  rw [State.waitOut, ht]
  exact if_neg hgo

/-- With no sender open, no frame of the command has been answered TARGET_UNREACHABLE, and the command ends by its timer (R122,
R124). -/
theorem State.transportOut_late {s : State} {t : Txn} (ht : s.findTxn t.id = some t) (hf : t.fstat = none)
    (ho : t.cmd.opc ∉ [opSYNCWAIT, opFENCE, opGALC, opCOMB, opKVR]) (hsnds : s.tp.snds = []) (hd : t.acc + t.tto ≤ s.now) :
    s.transportOut t.id = s.endTxn t.id stTRANSTO (resEp t.cmd.dst t.perf) := by
  have hgo : ¬ (t.cmd.opc ∈ [opSYNCWAIT, opFENCE, opGALC, opCOMB, opKVR] ∨ t.fstat.isSome ∨ !s.due t.acc t.tto) := by
    simp only [ho, hf, decide_eq_true hd]
    decide
  rw [State.transportOut, ht]
  refine (if_neg hgo).trans ?_
  simp [hsnds]

/-! ### Frames and acknowledgements -/

/-- A frame as it goes again: in the injection epoch of now, with its end-to-end CRC (R117, R360). -/
def State.resent (s : State) (p : Pkt) : Pkt :=
  let q : Pkt := { p with h := { p.h with ep := BitVec.ofNat 1 s.active } }
  { q with e2e := q.e2eOf }

/-- The state in which frame `i` of sender `id` has gone again as `p` at this moment. -/
def State.frameResent (s : State) (id i : Nat) (p : Pkt) : State :=
  s.updSnd id (fun y => { y with units := y.units.map (fun v =>
    if v.idx = i then { v with pkt := p, at' := s.now, fail := false } else v) })

theorem State.retransmit_due {s : State} {x : Snd} {u : SUnit} (hx : s.findSnd x.id = some x) (hframes : x.frames = true)
    (htto : s.now < x.start + x.tto) (hu : x.units.find? (fun y => decide (y.idx = u.idx)) = some u) (hst : u.st = 1)
    (hrti : u.at' + s.rtiNow ≤ s.now) :
    s.retransmit x.id u.idx = (s.frameResent x.id u.idx (s.resent u.pkt)).send x.part (s.resent u.pkt) := by
  have hlive : ¬ (x.role ≠ 0 ∧ x.start + x.tto ≤ s.now) := fun h => absurd h.2 (Nat.not_le.mpr htto)
  rw [State.retransmit, hx]
  refine (if_neg hlive).trans ?_
  rw [hu]
  exact if_pos ⟨hst, hframes, decide_eq_true hrti, htto⟩

theorem State.ackDelay_due {s : State} {r : RRec} (hr : s.tp.rrecs.find? (fun r => r.ackDue.isSome) = some r) :
    s.ackDelay = s.ackRec r := by
  rw [State.ackDelay, hr]

/-! ### Edge requests and their ETAGs -/

theorem EReq.tagged_iff {c e : Nat} {r : EReq} : r.tagged c e = true ↔ r.port = c ∧ r.etag = some e := decide_eq_true_iff

theorem State.edgeLate_due {s : State} {c e t : Nat} {r : EReq} (hr : s.mv.ereq.find? (EReq.tagged c e) = some r)
    (ht : r.sent = some t) (hd : t + us 4 ≤ s.now) : s.edgeLate c e = s.ereqEnd r e [] (some stTGTTO) := by
  simp only [State.edgeLate, hr, ht]
  exact if_pos (decide_eq_true hd)

/-- The ETAG of a request that is over rests (R130). -/
theorem State.etagBusy_ereqEnd (s : State) (r : EReq) (e : Nat) (data : List Byte) (fail : Option Nat) :
    (s.ereqEnd r e data fail).etagBusy r.port e = true := by
  have hcool : (s.ereqEnd r e data fail).mv.cool = s.mv.cool ++ [(r.port, e, s.now)] := rfl
  simp [State.etagBusy, hcool]

end Sys2Proof.Machine

open Sys2Proof.Machine Sys2Proof

/-- Settles O50: each timer that is due takes the branch of its row that acts. -/
theorem transportTimers : Obligations.TransportTimers := by
  unfold Obligations.TransportTimers
  intro s w t x u r hs
  refine ⟨fun hw => ?_, fun ht hf => ⟨fun ho hd => ?_, fun ho hsnds hd => ?_⟩, fun e he => ?_,
    fun hx hframes htto hu hst hrti => ?_, fun hr => ?_, ?_⟩
  · exact next_onLive hs (State.syncExpire_late hw)
  · exact next_onLive hs (State.waitOut_late ht hf ho hd)
  · exact next_onLive hs (State.transportOut_late ht hf ho hsnds hd)
  · exact next_onLive hs (State.probeReady_performed he)
  · exact next_onLive hs (State.retransmit_due hx hframes htto hu hst hrti)
  · exact next_onLive hs (State.ackDelay_due hr)
  · exact next_onLive hs rfl

/-- Settles O51: the request that the tag names is the one that is late, and its tag joins those that rest. -/
theorem edgeTags : Obligations.EdgeTags := by
  unfold Obligations.EdgeTags
  intro s c e r t hc he hs
  refine ⟨fun hr ht hd => ⟨?_, ?_⟩, ?_⟩
  · exact ifWf_onLive (decide_eq_true ⟨hc, he⟩) hs (State.edgeLate_due hr ht hd)
  · obtain ⟨rfl, -⟩ := EReq.tagged_iff.mp (List.find?_some hr)
    exact s.etagBusy_ereqEnd r e [] (some stTGTTO)
  · exact ifWf_onLive (decide_eq_true ⟨hc, he⟩) hs rfl

end

section
/-! PROOF. How a command of a data queue starts, and a suspect key's command that R498 keeps from an engine (R81, R92, R357, R497,
R498). -/

namespace Sys2Proof.Machine

/-! ### The start of a command that passes its checks -/

/-- The first element that meets `p`, once it has been replaced by an image that meets `p` too. -/
theorem find?_updFirst {α : Type} {p : α → Bool} {f : α → α} {a : α} {l : List α} (h : l.find? p = some a)
    (hp : p (f a) = true) : (updFirst p f l).find? p = some (f a) := by
  induction l with
  | nil => cases h
  | cons x t ih =>
    by_cases hx : p x = true
    · obtain rfl : x = a := by simpa [hx] using h
      simp [updFirst, hx, hp]
    · have ht : t.find? p = some a := by simpa [hx] using h
      simpa [updFirst, hx] using ih ht

theorem State.findTxn_updTxn {s : State} {t : Txn} {f : Txn → Txn} (h : s.findTxn t.id = some t) (hid : (f t).id = t.id) :
    (s.updTxn t.id f).findTxn t.id = some (f t) :=
  find?_updFirst h (decide_eq_true hid)

/-- A command that has started and has not been sent. -/
def Txn.asHeld (t : Txn) : Txn := { t with stage := .held }

/-- The state in which command `id` has started and has not been sent. -/
def State.holding (s : State) (id : Nat) : State := s.updTxn id Txn.asHeld

theorem State.start_of_mayStart {s : State} {q : Nat} {t : Txn} {p : Cmd → Bool} (h : s.mayStart q t) (hp : p t.cmd = true)
    (hgal : isGalCmd t.cmd = false) : s.start q p = s.begin t := by
  have hstart : s.startable q = some t := h
  simp [State.start, hstart, hp, hgal]

theorem State.begin_of_checked {s : State} {t : Txn} (ht : s.findTxn t.id = some t) (hfmt : t.formatFail = none)
    (hfence : t.cmd.opc ≠ opFENCE) (hchk : s.issueCheck t = none) : s.begin t = (s.holding t.id).release t.asHeld := by
  have hheld : (s.updTxn t.id Txn.asHeld).findTxn t.id = some t.asHeld := State.findTxn_updTxn ht rfl
  unfold Txn.asHeld at hheld
  simp only [State.begin, hfmt, hfence, hchk, hheld, if_false]
  rfl

/-- A command of a suspect key waits while an engine of its partition holds another (R498). -/
theorem State.release_of_suspWait {s : State} {t : Txn} (h : s.suspWait t = true) : s.release t = s := by
  simp [State.release, h]

/-! ### A block with two suspect keys in partition 0 -/

/-- PUT_INLINE of one zero byte to port 0 of node 0. -/
def putOne : Cmd := { w0 := BitVec.ofNat 64 opPUTI, w1 := 1, w2 := 0, w3 := 0, w4 := 0, w5 := 0, w6 := 0, w7 := 0 }

/-- That command accepted on queue 0, which has port 14 and slice 0 (R92). -/
def suspectPut : Txn :=
  { id := 1, qid := 0, cmd := putOne, port := 14, gen := 0, slice := 0, seq := 0, xid := 1, ep := 14, acc := 0, accFt := 0,
    tto := ms 10, crc := none, stage := .accepted, waits := [], probes := [], relF := none, acked := false, val := 0, expect := 1,
    wrote := 0, gotRx := 0, getBuf := [], fstat := none, genr := none, perf := 0, cmb := false, sat := false, ufl := false,
    sr := false, probed := 0, ends := [] }

/-- A GET of queue 7 of node 1's port 0, which a copy engine of partition 0 holds. -/
def suspectGet : Snd :=
  { id := 0, role := 2, part := 0, txn := 0, src := 0, dst := 16, iss := 16, slice := 0, qid := 7, seq := 0, xid := 0, ixid := 0,
    gen := 0, agen := 0, reg := 0, flags := 0, desc := Desc.ofNat 0, frames := false, units := [], loaded := false, pre := none,
    start := 0, tto := ms 10, genr := none, marks := 0 }

/-- A valid suspect entry with one command left. -/
def suspectEntry (src qid : Nat) : Word := fset (fset (fset (fset 0 susp_V 1) susp_LEFT 1) susp_QID qid) susp_SRC src

/-- A block after reset that permits slice 0 at port 0 of node 0 (R346), with those commands and the keys of both on probation in
partition 0. Port 14 is no port of a partition, so R497 enters the local key too. -/
def probation : State :=
  let permitted := (State.reset.setReg (.rtab 0 0x2000) 1).setReg (.rtab 0 0x8000) 1
  let listed := (permitted.setReg (.susp 0 0) (suspectEntry 14 0)).setReg (.susp 0 1) (suspectEntry 16 7)
  { listed with ids := 2, tp := { listed.tp with txns := [suspectPut], snds := [suspectGet] } }

theorem isLive_probation : probation.isLive = true := by decide
theorem mayStart_suspectPut : probation.mayStart 0 suspectPut := by
  unfold State.mayStart
  decide
theorem findTxn_suspectPut : probation.findTxn suspectPut.id = some suspectPut := by decide
theorem formatFail_suspectPut : suspectPut.formatFail = none := by decide
theorem issueCheck_suspectPut : probation.issueCheck suspectPut = none := by decide
theorem suspWait_suspectPut : (probation.holding suspectPut.id).suspWait suspectPut.asHeld = true := by decide
theorem none_before_suspectPut :
    ¬ (probation.holding suspectPut.id).tp.txns.any (fun y => suspectPut.asHeld.behind y) = true := by decide
theorem not_releases_suspectPut : ¬ suspectPut.cmd.releases = true := by decide

/-- The command starts and is held. -/
theorem exec_putInline_probation :
    exec (.putInline 0) probation = .next (probation.after (probation.holding suspectPut.id)) := by
  refine ifWf_onLive (ok := Instr.wf (.putInline 0)) rfl isLive_probation ?_
  calc probation.start 0 (isOpc opPUTI)
      = probation.begin suspectPut := State.start_of_mayStart mayStart_suspectPut (by decide) (by decide)
    _ = (probation.holding suspectPut.id).release suspectPut.asHeld :=
        State.begin_of_checked findTxn_suspectPut formatFail_suspectPut (by decide) issueCheck_suspectPut
    _ = probation.holding suspectPut.id := State.release_of_suspWait suspWait_suspectPut

/-- Settling does not send it: the copy engine still holds the GET. -/
theorem stage_after_holding :
    (probation.after (probation.holding suspectPut.id)).tp.txns.map Txn.stage = [.held] := by decide +kernel
/-- Sent, it would be running. -/
theorem stage_after_sendTxn :
    (probation.after ((probation.holding suspectPut.id).sendTxn suspectPut.asHeld)).tp.txns.map Txn.stage = [.running] :=
  by decide +kernel

end Sys2Proof.Machine

open Sys2Proof.Machine Sys2Proof

/-- Refutes O35: its first clause has every command sent that no earlier command of its queue holds back. A PUT_INLINE of a key on
probation is held back too, while a copy engine of its partition holds the command of another such key (R498). -/
theorem not_commandsStart : ¬ Obligations.CommandsStart := by
  unfold Obligations.CommandsStart
  rintro ⟨hdata, -, -⟩
  have hsent : exec (.putInline 0) probation
      = .next (probation.after ((probation.holding suspectPut.id).sendTxn suspectPut.asHeld)) := by
    have hrow : exec (.putInline 0) probation = .next (probation.after
        (if (probation.holding suspectPut.id).tp.txns.any (fun y => suspectPut.asHeld.behind y) then probation.holding suspectPut.id
        else if suspectPut.cmd.releases then (probation.holding suspectPut.id).release suspectPut.asHeld
        else (probation.holding suspectPut.id).sendTxn suspectPut.asHeld)) :=
      hdata (.putInline, isOpc opPUTI) (by simp [startRows]) probation 0 suspectPut rfl isLive_probation
        mayStart_suspectPut rfl findTxn_suspectPut formatFail_suspectPut issueCheck_suspectPut
    rwa [if_neg none_before_suspectPut, if_neg not_releases_suspectPut] at hrow
  have hsame := Host.Outcome.next.inj (exec_putInline_probation.symm.trans hsent)
  have hstage := congrArg (fun t : State => t.tp.txns.map Txn.stage) hsame
  rw [stage_after_holding, stage_after_sendTxn] at hstage
  cases hstage

end

section
/-! PROOF. The sync object file: what an update of an object leaves in the registers and the deep store (R166), and the branches
that a wait and an update take on arrival (R165, R169, R171). -/

namespace Sys2Proof.Machine

/-! ### The waits and their count -/

/-- DX_SYNC_STAT is the only register that follows the slots. -/
theorem State.reg_waitsRefresh_ne (s : State) (l : List Wait) {r : Reg} (h : r.addr ≠ Reg.syncStat.addr) :
    (s.waitsRefresh l).reg r = s.reg r := by
  rw [State.waitsRefresh, State.high, State.reg_setFld_ne _ _ _ h, State.reg_setFld_ne _ _ _ h]
  rfl

/-- WAITS holds the number of slots in use (R171): the high-water field beside it is apart from it. -/
theorem State.fld_waits_waitsRefresh (s : State) {l : List Wait} (h : l.length < 2 ^ syncStat_WAITS.w) :
    (s.waitsRefresh l).fld .syncStat syncStat_WAITS = l.length := by
  rw [State.waitsRefresh, State.high, State.fld_setFld_apart _ _ _ (by decide) (by decide), State.fld_setFld_of_lt _ _ (by decide) h]

/-! ### Answers -/

@[simp] theorem State.reg_ackReq (s : State) (n : Nat) (p : Pkt) (status result : Nat) (r : Reg) :
    (s.ackReq n p status result).reg r = s.reg r := rfl
@[simp] theorem State.syncVal_ackReq (s : State) (n : Nat) (p : Pkt) (status result i : Nat) :
    (s.ackReq n p status result).syncVal i = s.syncVal i := rfl
@[simp] theorem State.st_ackReq (s : State) (n : Nat) (p : Pkt) (status result : Nat) : (s.ackReq n p status result).st = s.st := rfl

/-- Answers join what is to be injected: they change no register and no byte of the deep store. -/
theorem State.foldl_answerWait_keeps (s : State) (l : List Wait) (status result : Nat) :
    (l.foldl (fun s w => s.answerWait w status result) s).regs = s.regs
      ∧ (l.foldl (fun s w => s.answerWait w status result) s).st = s.st := by
  induction l generalizing s with
  | nil => exact ⟨rfl, rfl⟩
  | cons w l ih => exact ih (s.answerWait w status result)

/-! ### An update of an object -/

/-- An update writes the object, and of the other registers at most DX_SYNC_STAT. -/
theorem State.reg_syncUpdate (s : State) (i v : Nat) {r : Reg} (h : r.addr ≠ Reg.syncStat.addr) :
    (s.syncUpdate i v).reg r = (s.setReg (.syncVal i) (BitVec.ofNat 64 v)).reg r := by
  rw [State.syncUpdate, State.reg_congr (State.foldl_answerWait_keeps _ _ _ _).1]
  split
  · rfl
  · exact State.reg_waitsRefresh_ne _ _ h

theorem State.st_syncUpdate (s : State) (i v : Nat) : (s.syncUpdate i v).st = s.st := by
  rw [State.syncUpdate, (State.foldl_answerWait_keeps _ _ _ _).2]
  split <;> rfl

/-- The values of the objects end below DX_SYNC_STAT. -/
theorem Reg.syncVal_addr_ne_syncStat {i : Nat} (hi : i < 65536) : (Reg.syncVal i).addr ≠ Reg.syncStat.addr := by
  simp only [Reg.addr]
  omega

/-- The object holds its new value modulo 2^64 (R166). -/
theorem State.syncVal_syncUpdate_same (s : State) {i : Nat} (v : Nat) (hi : i < 65536) : (s.syncUpdate i v).syncVal i = v % 2 ^ 64 := by
  rw [State.syncVal, s.reg_syncUpdate i v (Reg.syncVal_addr_ne_syncStat hi), State.reg_setReg_same, BitVec.toNat_ofNat]

/-! ### Operations at the file -/

/-- A descriptor names one of the 65,536 objects (R246). -/
theorem Desc.sync_ofNat_lt (d : Nat) : (Desc.ofNat d).sync < 65536 := Nat.mod_lt _ (by decide)

/-- What a SYNC_ADD or SYNC_SET cell makes of its object, before it wraps (R166). -/
def State.syncOpValue (s : State) (p : Pkt) : Nat :=
  let v := bytesNat (slice p.pay 24 8)
  if p.opc = opSYNCADD then s.syncVal (Desc.ofNat p.desc).sync + v else v

theorem State.syncOpTake_denied {s : State} (n : Nat) {p : Pkt} (h : s.syncOwned (Desc.ofNat p.desc).sync p.h.slice.toNat = false) :
    s.syncOpTake n p = s.ackReq n p stSLICE p.h.dst.toNat := by
  simp only [State.syncOpTake, h, Bool.not_false, if_true]

theorem State.syncOpTake_owned {s : State} (n : Nat) {p : Pkt} (h : s.syncOwned (Desc.ofNat p.desc).sync p.h.slice.toNat = true) :
    s.syncOpTake n p = (s.syncUpdate (Desc.ofNat p.desc).sync (s.syncOpValue p)).ackReq n p stDONE 0 := by
  simp only [State.syncOpTake, h, Bool.not_true, Bool.false_eq_true, if_false, State.syncOpValue]
  split <;> rfl

/-- A wait whose condition does not hold when it arrives at the file. -/
def State.syncPends (s : State) (p : Pkt) : Prop :=
  s.syncOwned (Desc.ofNat p.desc).sync p.h.slice.toNat = true
    ∧ waitHolds (bytesNat (slice p.pay 20 1) % 8) (s.syncVal (Desc.ofNat p.desc).sync) (bytesNat (slice p.pay 24 8)) = false

/-- The slot that a wait takes (R169). -/
def Pkt.asWait (p : Pkt) : Wait :=
  let d := Desc.ofNat p.desc
  { sync := d.sync, src := p.h.src, dst := p.h.dst, tag := p.h.tag, slice := p.h.slice, gen := p.h.gen, qid := d.qid, seq := d.seq,
    cmp := bytesNat (slice p.pay 20 1) % 8, target := bytesNat (slice p.pay 24 8), deadline := bytesNat (slice p.pay 32 8),
    marks := p.marks }

/-- No slot is free (R171). -/
theorem State.syncWaitTake_exhausted {s : State} (n : Nat) {p : Pkt} (h : s.syncPends p) (hfull : 65536 ≤ s.tp.waits.length) :
    s.syncWaitTake n p = (s.count .syncStat syncStat_EXHAUST 1).ackReq n p stTGTTO p.h.dst.toNat := by
  obtain ⟨hown, hcond⟩ := h
  simp only [State.syncWaitTake, hown, hcond, Bool.not_true, Bool.false_eq_true, if_false, if_pos hfull]

/-- A slot is free and the deadline not past (R169). -/
theorem State.syncWaitTake_registered {s : State} (n : Nat) {p : Pkt} (h : s.syncPends p) (hroom : s.tp.waits.length < 65536)
    (hdl : s.fnow ≤ bytesNat (slice p.pay 32 8)) : s.syncWaitTake n p = s.waitsRefresh (s.tp.waits ++ [p.asWait]) := by
  obtain ⟨hown, hcond⟩ := h
  simp only [State.syncWaitTake, hown, hcond, Bool.not_true, Bool.false_eq_true, if_false, if_neg (Nat.not_le.mpr hroom),
    if_neg (Nat.not_lt.mpr hdl)]
  rfl

end Sys2Proof.Machine

open Sys2Proof.Machine Sys2Proof

/-- Settles O49: a wait that pends takes a slot or counts EXHAUST, and an update writes its object, after which the waits it
satisfies reach no register but DX_SYNC_STAT. -/
theorem syncObjects : Obligations.SyncObjects := by
  unfold Obligations.SyncObjects
  constructor
  · intro s n p i b hown hcond
    refine ⟨fun hfull => State.syncWaitTake_exhausted n ⟨hown, hcond⟩ hfull, fun hroom hdl => ?_⟩
    rw [State.syncWaitTake_registered n ⟨hown, hcond⟩ hroom hdl]
    have hlen : (s.tp.waits ++ [p.asWait]).length = s.tp.waits.length + 1 := List.length_append
    have hlt : (s.tp.waits ++ [p.asWait]).length < 2 ^ syncStat_WAITS.w := by
      rw [hlen]
      exact lt_of_le_of_lt hroom (by decide)
    exact ⟨rfl, p.asWait, rfl, rfl, rfl, rfl, (s.fld_waits_waitsRefresh hlt).trans hlen⟩
  · intro s n p i v
    refine ⟨State.syncOpTake_denied n, fun hown => ?_⟩
    rw [State.syncOpTake_owned n hown]
    simp only [State.syncVal_ackReq, State.st_ackReq, State.reg_ackReq]
    refine ⟨s.syncVal_syncUpdate_same (s.syncOpValue p) (Desc.sync_ofNat_lt p.desc), s.st_syncUpdate i _, fun r hval hstat => ?_⟩
    calc (s.syncUpdate i (s.syncOpValue p)).reg r
        = (s.setReg (.syncVal i) (BitVec.ofNat 64 (s.syncOpValue p))).reg r := s.reg_syncUpdate i _ hstat
      _ = s.reg r := s.reg_setReg_ne _ hval

end

section
/-! PROOF. Gallery frames on receipt: whose turn a row takes, and by what a frame is folded, kept, counted as stale, or ends its
step (R198, R200, R205, R222, R263; log entries 96 and 113). -/

namespace Sys2Proof.Machine

/-! ### The row -/

/-- The rows of gallery frames, each with its opcode. -/
def galFrameRows : List (Instr × Nat) :=
  [(.galUpRx none, opGALUP), (.galDownRx none, opGALDOWN), (.galleryContribFrameRx none, opGALC),
    (.combineContribFrameRx none, opCOMB), (.kvRotateFrameRx, opKVR)]

/-- The state without the frame of an opcode whose turn has come. -/
def State.galTaken (s : State) (o : Nat) : State := { s with sw := { s.sw with inbox := dropFirst (s.galTurn o) s.sw.inbox } }

theorem State.galRow_turn {s : State} {o : Nat} {e : InEnt} (he : s.sw.inbox.find? (s.galTurn o) = some e) :
    s.galRow o = (s.galTaken o).rxGal e := by
  rw [State.galRow, he]
  rfl

/-- What a row leaves is what the frame whose turn has come leaves. -/
theorem exec_galFrameRow {x : Instr × Nat} (hx : x ∈ galFrameRows) {s u : State} {e : InEnt} (hs : s.isLive = true)
    (he : s.sw.inbox.find? (s.galTurn x.2) = some e) (h : (s.galTaken x.2).rxGal e = u) :
    exec x.1 s = .next (s.after u) := by
  have hrow : s.galRow x.2 = u := (State.galRow_turn he).trans h
  simp only [galFrameRows, List.mem_cons, List.not_mem_nil, or_false] at hx
  rcases hx with rfl | rfl | rfl | rfl | rfl
  · exact ifWf_onLive rfl hs hrow
  · exact ifWf_onLive rfl hs hrow
  · exact ifWf_onLive rfl hs hrow
  · exact ifWf_onLive rfl hs hrow
  · exact next_onLive hs hrow

/-! ### What becomes of a frame -/

theorem State.gnext_ne_gsgen (s : State) (g : Nat) : s.gnext g ≠ s.gsgen g := by
  have hlt : s.gsgen g < 256 := fget_lt _ _
  unfold State.gnext
  omega

/-- Where no accumulation tile that is read fails its check, a contribution is folded (R222, R224). -/
theorem State.galReduce_clean {s : State} {g sg port : Nat} {x : GExt} {weight : Option Val} {pay : List Byte}
    (h : pay = [] ∨ (s.accOf g (sg % 2) x.chunk).bad = none) :
    s.galReduce g sg port x weight pay = s.galFold g (sg % 2) port x weight pay := by
  have hbad : (if pay.isEmpty then none else (s.accOf g (sg % 2) x.chunk).bad) = none := by
    rcases h with rfl | h
    · rfl
    · rw [h, ite_self]
  rw [State.galReduce, hbad]

/-- A frame of a step that can run, and that a REDUCE names. -/
theorem State.galTake_named {s : State} {g : Nat} {f : GFrm} {weight : Option Val} (hb : s.galBlocked (s.gdef g) = none)
    (hn : s.reduceNames (s.gdef g) f.port f.x.chunk = true) :
    s.galTake g f weight = (s.galStart g).galReduce g (s.gsgen g) f.port f.x weight f.pay := by
  simp only [State.galTake, hb, if_pos hn]

/-- One that no REDUCE names. -/
theorem State.galTake_kept {s : State} {g : Nat} {f : GFrm} {weight : Option Val} (hb : s.galBlocked (s.gdef g) = none)
    (hn : s.reduceNames (s.gdef g) f.port f.x.chunk = false) :
    s.galTake g f weight = (s.galStart g).updGal g (fun y => { y with frames := y.frames ++ [f] }) := by
  simp only [State.galTake, hb, hn, Bool.false_eq_true, if_false]

/-- A frame of the current step whose end-to-end check is right reaches the cores. -/
theorem State.rxGal_current {s : State} {e : InEnt} (hcrc : e.pkt.e2e = e.pkt.e2eOf) (hhere : s.galHere e.pkt = true)
    (hsg : (e.pkt.gfrm e.port).x.sgen = s.gsgen e.pkt.galOf) :
    s.rxGal e = s.galTake e.pkt.galOf (e.pkt.gfrm e.port) e.pkt.foldWeight := by
  rw [State.rxGal, if_neg (not_not.mpr hcrc), if_neg (by simp [hhere]), if_pos hsg]

/-- A frame of the next step, which has not been aborted in advance, that a REDUCE names: it is reduced at once, and the step does
not start (R198). -/
theorem State.rxGal_next {s : State} {e : InEnt} (hcrc : e.pkt.e2e = e.pkt.e2eOf) (hhere : s.galHere e.pkt = true)
    (hsg : (e.pkt.gfrm e.port).x.sgen = s.gnext e.pkt.galOf) (hskip : (s.gal e.pkt.galOf).skip ≠ some (e.pkt.gfrm e.port).x.sgen)
    (hn : s.reduceNames (s.gdef e.pkt.galOf) (e.pkt.gfrm e.port).port (e.pkt.gfrm e.port).x.chunk = true) :
    s.rxGal e = s.galReduce e.pkt.galOf (s.gnext e.pkt.galOf) (e.pkt.gfrm e.port).port (e.pkt.gfrm e.port).x e.pkt.foldWeight
      (e.pkt.gfrm e.port).pay := by
  have hnot : (e.pkt.gfrm e.port).x.sgen ≠ s.gsgen e.pkt.galOf := ne_of_eq_of_ne hsg (s.gnext_ne_gsgen _)
  have htaken : ¬ ((e.pkt.gfrm e.port).x.sgen ≠ s.gnext e.pkt.galOf ∨ (s.gal e.pkt.galOf).skip = some (e.pkt.gfrm e.port).x.sgen) :=
    not_or.mpr ⟨not_not.mpr hsg, hskip⟩
  rw [State.rxGal, if_neg (not_not.mpr hcrc), if_neg (by simp [hhere]), if_neg hnot, if_neg htaken, if_pos hn, hsg]

/-- A frame whose gallery is not set up here, or of neither the current nor the next step. -/
theorem State.rxGal_stale {s : State} {e : InEnt} (hcrc : e.pkt.e2e = e.pkt.e2eOf)
    (h : s.galHere e.pkt = false ∨ ((e.pkt.gfrm e.port).x.sgen ≠ s.gsgen e.pkt.galOf
      ∧ (e.pkt.gfrm e.port).x.sgen ≠ s.gnext e.pkt.galOf)) :
    s.rxGal e = s.count (.galStat e.pkt.galOf) galStat_STALE 1 := by
  rw [State.rxGal, if_neg (not_not.mpr hcrc)]
  by_cases hhere : s.galHere e.pkt = true
  case pos =>
    obtain ⟨hcur, hnext⟩ := h.resolve_left (by simp [hhere])
    rw [if_neg (by simp [hhere]), if_neg hcur, if_pos (Or.inl hnext)]
    rfl
  case neg =>
    rw [if_pos (by simpa using hhere)]
    rfl

/-- A frame of the current step that fails the end-to-end check. -/
theorem State.rxGal_badCheck {s : State} {e : InEnt} (hcrc : e.pkt.e2e ≠ e.pkt.e2eOf) (hst : s.gstate e.pkt.galOf ≠ gsIDLE)
    (hsg : (e.pkt.gfrm e.port).x.sgen = s.gsgen e.pkt.galOf) :
    s.rxGal e = s.galAbort e.pkt.galOf grCHECK e.port 99 := by
  rw [State.rxGal, if_pos hcrc, State.sgenAbort, if_neg hst, if_pos hsg]

end Sys2Proof.Machine

open Sys2Proof.Machine Sys2Proof

/-- Settles O52: the row acts on the frame whose turn has come, and the frame's check, its gallery, its step and the REDUCE entries
say what becomes of it. -/
theorem galleryFrames : Obligations.GalleryFrames := by
  unfold Obligations.GalleryFrames
  intro x hx s e hs he
  let t := s.galTaken x.2
  have row {u : State} (h : t.rxGal e = u) : exec x.1 s = .next (s.after u) := exec_galFrameRow hx hs he h
  refine ⟨fun hcrc hhere hsg hb => ⟨fun hn hacc => ?_, fun hn => ?_⟩, fun hcrc hhere hsg hskip hn hacc => ?_,
    fun hcrc h => row (State.rxGal_stale (s := t) hcrc h), fun hcrc hst hsg => row (State.rxGal_badCheck (s := t) hcrc hst hsg)⟩
  · exact row ((State.rxGal_current (s := t) hcrc hhere hsg).trans
      ((State.galTake_named (s := t) hb hn).trans (State.galReduce_clean hacc)))
  · exact row ((State.rxGal_current (s := t) hcrc hhere hsg).trans (State.galTake_kept (s := t) hb hn))
  · exact row ((State.rxGal_next (s := t) hcrc hhere hsg hskip hn).trans (State.galReduce_clean (s := t) hacc))

end

section
/-! PROOF. The running part of a gallery as updates leave it, and the accumulation tile that a core finds changed (R224). -/

namespace Sys2Proof.Machine

/-! ### Running parts -/

theorem find?_updFirst_apart {α : Type} {p q : α → Bool} {f : α → α} {l : List α} (hp : ∀ a, p a = true → q a = false)
    (hf : ∀ a, p a = true → q (f a) = false) : (updFirst p f l).find? q = l.find? q := by
  induction l with
  | nil => rfl
  | cons x t ih =>
    by_cases hx : p x = true
    · simp [updFirst, hx, hp x hx, hf x hx]
    · simp [updFirst, hx, List.find?_cons, ih]

/-- An update of a gallery's running part changes nothing else of the state. -/
theorem State.updGal_eq (s : State) (g : Nat) (f : Gal → Gal) : ∃ l, s.updGal g f = { s with gals := l } := by
  unfold State.updGal
  split
  · exact ⟨_, rfl⟩
  · exact ⟨_, rfl⟩

@[simp] theorem State.st_updGal (s : State) (g : Nat) (f : Gal → Gal) : (s.updGal g f).st = s.st := by
  obtain ⟨l, hl⟩ := s.updGal_eq g f
  rw [hl]

@[simp] theorem State.sw_updGal (s : State) (g : Nat) (f : Gal → Gal) : (s.updGal g f).sw = s.sw := by
  obtain ⟨l, hl⟩ := s.updGal_eq g f
  rw [hl]

theorem State.gals_find?_none {s : State} {g : Nat} (h : ¬ s.gals.any (fun x => decide (x.g = g)) = true) :
    s.gals.find? (fun x => decide (x.g = g)) = none := by
  simpa using h

/-- The running part just changed. -/
theorem State.gal_updGal_same (s : State) (g : Nat) {f : Gal → Gal} (hf : ∀ x, (f x).g = x.g) :
    (s.updGal g f).gal g = f (s.gal g) := by
  unfold State.updGal State.gal
  split
  case isTrue h =>
    obtain ⟨a, ha⟩ := Option.isSome_iff_exists.mp (List.isSome_find?.trans h)
    have hg : a.g = g := by simpa using List.find?_some ha
    simp [ha, find?_updFirst (f := f) ha (by simp [hf, hg])]
  case isFalse h =>
    have hg : (f (Gal.init g)).g = g := hf _
    simp [List.find?_append, State.gals_find?_none h, hg]

/-- Another gallery's. -/
theorem State.gal_updGal_ne (s : State) {g h : Nat} {f : Gal → Gal} (hf : ∀ x, (f x).g = x.g) (hne : h ≠ g) :
    (s.updGal g f).gal h = s.gal h := by
  unfold State.updGal State.gal
  split
  case isTrue =>
    rw [find?_updFirst_apart]
    · exact fun a ha => decide_eq_false fun hh => hne (hh.symm.trans (of_decide_eq_true ha))
    · exact fun a ha => decide_eq_false fun hh => hne (hh.symm.trans ((hf a).trans (of_decide_eq_true ha)))
  case isFalse =>
    have hg : ¬ (f (Gal.init g)).g = h := fun hh => hne (hh.symm.trans (hf _))
    simp [List.find?_append, hg]

/-! ### An action finished -/

/-- Entry `e` has finished on chunk `j`: once. -/
def Gal.finish (e j : Nat) (x : Gal) : Gal := if (e, j) ∈ x.fin then x else { x with fin := x.fin ++ [(e, j)] }

theorem Gal.g_finish (e j : Nat) (x : Gal) : (x.finish e j).g = x.g := by
  unfold Gal.finish
  split <;> rfl

theorem Gal.fin_finish (e j : Nat) (x : Gal) :
    (x.finish e j).fin = if (e, j) ∈ x.fin then x.fin else x.fin ++ [(e, j)] := apply_ite Gal.fin _ _ _

/-- What finishes an action writes PC and the sequencer's progress besides, which are no part of any gallery's running part. -/
theorem State.gal_galFin (s : State) (g e j h : Nat) : (s.galFin g e j).gal h = (s.updGal g (Gal.finish e j)).gal h := rfl

theorem State.fin_galFin_same (s : State) (g e j : Nat) :
    ((s.galFin g e j).gal g).fin = if (e, j) ∈ (s.gal g).fin then (s.gal g).fin else (s.gal g).fin ++ [(e, j)] := by
  rw [s.gal_galFin, s.gal_updGal_same g (Gal.g_finish e j), Gal.fin_finish]

theorem State.gal_galFin_ne (s : State) {g e j h : Nat} (hne : h ≠ g) : (s.galFin g e j).gal h = s.gal h :=
  (s.gal_galFin g e j h).trans (s.gal_updGal_ne (Gal.g_finish e j) hne)

theorem State.st_galFin (s : State) (g e j : Nat) : (s.galFin g e j).st = s.st := s.st_updGal g (Gal.finish e j)

theorem State.sw_galFin (s : State) (g e j : Nat) : (s.galFin g e j).sw = s.sw := s.sw_updGal g (Gal.finish e j)

/-! ### An accumulation tile changed (R224) -/

/-- The accumulators of a running part, with those of the chunk and the set that an upset names marked bad. -/
def strikeAccs (d : GDef) (par : Nat) (w : AccUpset) (accs : List GAcc) : List GAcc :=
  updFirst (fun a => decide (a.par = par ∧ a.chunk = w.chunk)) (fun a => { a with bad := some w.core })
    (if accs.any (fun a => decide (a.par = par ∧ a.chunk = w.chunk)) then accs else accs ++ [clearedAcc d par w.chunk])

/-- The chunk has accumulators after the upset, and they are bad. -/
theorem find?_strikeAccs (d : GDef) (par : Nat) (w : AccUpset) (accs : List GAcc) :
    ∃ a, (strikeAccs d par w accs).find? (fun a => decide (a.par = par ∧ a.chunk = w.chunk)) = some a
      ∧ a.bad = some w.core := by
  have hany : (if accs.any (fun a => decide (a.par = par ∧ a.chunk = w.chunk)) then accs
      else accs ++ [clearedAcc d par w.chunk]).any (fun a => decide (a.par = par ∧ a.chunk = w.chunk)) = true := by
    split
    case isTrue h => exact h
    case isFalse => simp [clearedAcc]
  obtain ⟨a, ha⟩ := Option.isSome_iff_exists.mp (List.isSome_find?.trans hany)
  exact ⟨_, find?_updFirst ha (by simpa using List.find?_some ha), rfl⟩

/-- An upset of the current set of a valid gallery marks accumulators of that gallery and changes nothing else. -/
theorem State.accStrike_eq {s : State} {w : AccUpset} (hv : (s.gdef w.g).v = true) (hcur : w.next = false) :
    ∃ l, s.accStrike w = { s with gals := l } ∧ (s.accStrike w).gal w.g
      = { s.gal w.g with accs := strikeAccs (s.gdef w.g) (s.gsgen w.g % 2) w (s.gal w.g).accs } := by
  have hstrike : s.accStrike w = s.updAcc w.g (s.gsgen w.g % 2) w.chunk (fun a => { a with bad := some w.core }) := by
    simp [State.accStrike, hv, hcur]
  obtain ⟨l, hl⟩ := s.updGal_eq w.g _
  exact ⟨l, hstrike.trans hl, (congrArg (State.gal · w.g) hstrike).trans (s.gal_updGal_same w.g fun _ => rfl)⟩

section
variable {s : State} {w : AccUpset} (hv : (s.gdef w.g).v = true) (hcur : w.next = false)
include hv hcur

theorem State.gdef_accStrike (g : Nat) : (s.accStrike w).gdef g = s.gdef g := by
  obtain ⟨l, hl, -⟩ := State.accStrike_eq hv hcur
  rw [hl]
  rfl

/-- Which entries may act does not depend on accumulators. -/
theorem State.actReady_accStrike (e j act : Nat) : (s.accStrike w).actReady w.g e j act = s.actReady w.g e j act := by
  obtain ⟨l, hl, hgal⟩ := State.accStrike_eq hv hcur
  rw [State.actReady, State.mayAct, hgal, hl]
  rfl

/-- An emission of the chunk that has not been made before reads the changed tile. -/
theorem State.emitBad_accStrike {wide : Bool} (hem : ∀ m ∈ (s.gal w.g).emits, m.chunk ≠ w.chunk ∨ m.wide ≠ wide) :
    (s.accStrike w).emitBad w.g w.chunk wide = some w.core := by
  obtain ⟨l, hl, hgal⟩ := State.accStrike_eq hv hcur
  have hnone : (s.gal w.g).emits.any (fun m => decide (m.chunk = w.chunk ∧ m.wide = wide)) = false := by
    simpa [imp_iff_not_or] using hem
  obtain ⟨a, ha, hbad⟩ := find?_strikeAccs (s.gdef w.g) (s.gsgen w.g % 2) w (s.gal w.g).accs
  have hsg : (s.accStrike w).gsgen w.g = s.gsgen w.g := by
    rw [hl]
    rfl
  rw [State.emitBad, State.galAcc, State.accOf, hgal, hsg]
  simp only [hnone, Bool.false_eq_true, if_false, ha, Option.getD_some, hbad]

end

end Sys2Proof.Machine
end

section
/-! PROOF. Sequencer actions: what each row leaves where its entry may act, and emissions that meet a failing accumulation tile
(R187, R190, R196, R199, R202, R224; log entry 16). -/

namespace Sys2Proof.Machine

theorem State.act_ready {s : State} {g e j a : Nat} (h : s.actReady g e j a = true) (f : GDef → GEntry → State) :
    s.act g e j a f = f (s.gdef g) (s.gentry (s.gdef g) e) := if_pos h

theorem State.emitting_clean {s : State} {g j : Nat} {wide : Bool} (h : s.emitBad g j wide = none) (t : State) :
    s.emitting g j wide t = t := by
  rw [State.emitting, h]

theorem State.emitting_bad {s : State} {g j k : Nat} {wide : Bool} (h : s.emitBad g j wide = some k) (t : State) :
    s.emitting g j wide t = (s.event ((s.gdef g).home j) 0x11 ⟨syCORE, k⟩).galAbort g grCHECK 31 99 := by
  rw [State.emitting, h]
  rfl

/-- The step timer of a step that has started (R199). -/
theorem State.stepTimer_due {s : State} {g t : Nat} (hst : s.gstate g ≠ gsIDLE) (ht : (s.gal g).timer = some t)
    (hd : t + (s.gdef g).timeout ≤ s.now) : s.stepTimer g = s.galAbort g grTIMEOUT 31 99 := by
  have hdue : (s.gal g).timer.isSome ∧ s.due ((s.gal g).timer.getD 0) (s.gdef g).timeout := by
    simp [ht, hd]
  rw [State.stepTimer, if_neg hst]
  exact if_pos hdue

/-! ### Actions that emit -/

/-- A row of an action that emits a chunk. -/
structure EmitRow where
  /-- The command, by the change of an accumulation tile that comes before it. -/
  cmd : Option AccUpset → Instr
  /-- The action. -/
  act : Nat
  /-- Does it emit binary32? -/
  wide : GDef → Bool
  /-- What it leaves of a state by the descriptor and the entry. -/
  leaves : State → GDef → GEntry → State

/-- The rows of SENDUP, MCAST and DSWRITE. -/
def emitRows (g e j : Nat) : List EmitRow :=
  [⟨.actionSendup g e j, actSENDUP, GDef.wideUp, fun s d _ => s.sendup g e j d⟩,
    ⟨.actionMcast g e j, actMCAST, fun _ => false, fun s _ y => s.mcast g e j y⟩,
    ⟨.actionDswrite g e j, actDSWRITE, fun _ => false, fun s d y => s.dswrite g e j d y⟩]

/-- The row's action where it may act. -/
def State.emitAct (s : State) (g e j : Nat) (r : EmitRow) : State :=
  s.act g e j r.act (fun d y => s.emitting g j (r.wide d) (r.leaves s d y))

theorem State.emitAct_clean {s : State} {g e j : Nat} {r : EmitRow} (h : s.actReady g e j r.act = true)
    (hb : s.emitBad g j (r.wide (s.gdef g)) = none) :
    s.emitAct g e j r = r.leaves s (s.gdef g) (s.gentry (s.gdef g) e) :=
  (State.act_ready h _).trans (State.emitting_clean hb _)

theorem State.emitAct_bad {s : State} {g e j k : Nat} {r : EmitRow} (h : s.actReady g e j r.act = true)
    (hb : s.emitBad g j (r.wide (s.gdef g)) = some k) :
    s.emitAct g e j r = (s.event ((s.gdef g).home j) 0x11 ⟨syCORE, k⟩).galAbort g grCHECK 31 99 :=
  (State.act_ready h _).trans (State.emitting_bad hb _)

/-- An emission of a chunk whose accumulation tile has just changed (R224). -/
theorem State.emitAct_accStrike {s : State} {w : AccUpset} {e : Nat} {r : EmitRow} (hv : (s.gdef w.g).v = true)
    (hcur : w.next = false) (h : s.actReady w.g e w.chunk r.act = true)
    (hem : ∀ m ∈ (s.gal w.g).emits, m.chunk ≠ w.chunk ∨ m.wide ≠ r.wide (s.gdef w.g)) :
    (s.accStrike w).emitAct w.g e w.chunk r
      = ((s.accStrike w).event ((s.gdef w.g).home w.chunk) 0x11 ⟨syCORE, w.core⟩).galAbort w.g grCHECK 31 99 := by
  have hready : (s.accStrike w).actReady w.g e w.chunk r.act = true := (State.actReady_accStrike hv hcur e w.chunk r.act).trans h
  have hdef : (s.accStrike w).gdef w.g = s.gdef w.g := State.gdef_accStrike hv hcur w.g
  have hbad : (s.accStrike w).emitBad w.g w.chunk (r.wide ((s.accStrike w).gdef w.g)) = some w.core := by
    rw [hdef]
    exact State.emitBad_accStrike hv hcur hem
  rw [State.emitAct_bad hready hbad, hdef]

theorem exec_emitRow {s u : State} {g e j : Nat} {upset : Option AccUpset} {r : EmitRow} (hr : r ∈ emitRows g e j)
    (hwf : g < 4096 ∧ e < 16384 ∧ j < 16777216 ∧ upset.all AccUpset.wf = true) (hs : s.isLive = true)
    (h : (s.upset upset).emitAct g e j r = u) : exec (r.cmd upset) s = .next (s.after u) := by
  simp only [emitRows, List.mem_cons, List.not_mem_nil, or_false] at hr
  rcases hr with rfl | rfl | rfl
  · exact ifWf_onLive (decide_eq_true hwf) hs h
  · exact ifWf_onLive (decide_eq_true hwf) hs h
  · exact ifWf_onLive (decide_eq_true hwf) hs h

end Sys2Proof.Machine

open Sys2Proof.Machine Sys2Proof

/-- Settles O53: an action that may act does what its entry says; one that emits reads the accumulation tile first; and finishing
adds an entry and its chunk once. -/
theorem actions : Obligations.Actions := by
  unfold Obligations.Actions
  refine ⟨fun s g e j hg he hj hs => ?_, fun s g e j _ => ⟨s.fin_galFin_same g e j, s.st_galFin g e j, s.sw_galFin g e j,
    fun h hne => s.gal_galFin_ne hne⟩⟩
  have hge : g < 4096 ∧ e < 16384 := ⟨hg, he⟩
  have hgej : g < 4096 ∧ e < 16384 ∧ j < 16777216 := ⟨hg, he, hj⟩
  refine ⟨fun h => ifWf_onLive (decide_eq_true hge) hs (State.act_ready h _),
    fun h ht => ifWf_onLive (decide_eq_true hgej) hs ((State.act_ready h _).trans (if_pos ht)),
    fun h hm => ifWf_onLive (decide_eq_true hgej) hs ((State.act_ready h _).trans (if_pos hm)),
    fun h => ifWf_onLive (decide_eq_true hge) hs (State.act_ready h _),
    fun h => ifWf_onLive (decide_eq_true hge) hs (State.act_ready h _), fun x hx h => ?_,
    fun h => ifWf_onLive (decide_eq_true hgej) hs (if_pos h), fun x hx h => ?_, fun w hw hwg hwj hcur hv x hx h hem => ?_,
    fun t hst ht hd => ifWf_onLive (decide_eq_true hg) hs (State.stepTimer_due hst ht hd)⟩
  · simp only [List.mem_cons, List.not_mem_nil, or_false] at hx
    rcases hx with rfl | rfl
    · exact ifWf_onLive (decide_eq_true hgej) hs (State.act_ready h _)
    · exact ifWf_onLive (decide_eq_true hgej) hs (State.act_ready h _)
  · obtain ⟨r, hr, rfl⟩ := List.mem_map (l := emitRows g e j)
      (f := fun r => (r.cmd none, r.act, r.wide (s.gdef g), r.leaves s (s.gdef g) (s.gentry (s.gdef g) e))).mp hx
    have hwf : g < 4096 ∧ e < 16384 ∧ j < 16777216 ∧ (none : Option AccUpset).all AccUpset.wf = true := ⟨hg, he, hj, rfl⟩
    exact ⟨fun hb => exec_emitRow hr hwf hs (State.emitAct_clean h hb),
      fun k hb => exec_emitRow hr hwf hs (State.emitAct_bad h hb)⟩
  · subst hwg hwj
    obtain ⟨r, hr, rfl⟩ := List.mem_map (l := emitRows w.g e w.chunk)
      (f := fun r => (r.cmd (some w), r.act, r.wide (s.gdef w.g))).mp hx
    exact exec_emitRow hr ⟨hg, he, hj, hw⟩ hs (State.emitAct_accStrike hv hcur h hem)

end

section
/-! PROOF. The bytes of a packet spell it again: its header, its extension or payload, and its two CRCs, each cut out where it
stands (R237, R247, R252, R261, R288). -/

namespace Sys2Proof.Machine

/-! ### Byte strings -/

@[simp] theorem length_natBytes (n x : Nat) : (natBytes n x).length = n := by
  induction n generalizing x with
  | zero => rfl
  | succ n ih => rw [natBytes, List.length_cons, ih]

theorem bytesNat_natBytes (n x : Nat) : bytesNat (natBytes n x) = x % 256 ^ n := by
  induction n generalizing x with
  | zero => rw [natBytes, bytesNat, Nat.pow_zero, Nat.mod_one]
  | succ n ih => rw [natBytes, bytesNat, ih, BitVec.toNat_ofNat, Nat.pow_succ' (m := 256), Nat.mod_mul]

theorem bytesNat_natBytes_toNat {w n : Nat} (b : BitVec w) (h : w ≤ 8 * n) : bytesNat (natBytes n b.toNat) = b.toNat := by
  rw [bytesNat_natBytes, Nat.mod_eq_of_lt]
  calc b.toNat < 2 ^ w := b.isLt
    _ ≤ 2 ^ (8 * n) := Nat.pow_le_pow_right (by decide) h
    _ = 256 ^ n := Nat.pow_mul 2 8 n

/-- The bytes of a string between what stands before and behind them. -/
theorem slice_append {off len : Nat} {a b : List Byte} (d : List Byte) (ha : a.length = off) (hb : b.length = len) :
    slice (a ++ b ++ d) off len = b := by
  rw [slice, List.append_assoc, List.drop_left' ha, List.take_left' hb]

theorem padTo_of_length {n : Nat} {l : List Byte} (h : l.length = n) : padTo n l = l := by
  rw [padTo, List.take_of_length_le h.le, h, Nat.sub_self]
  exact List.append_nil l

/-- Bytes behind the first `k` that are all zero come back from the padding. -/
theorem padTo_take_of_zero {n k : Nat} {l : List Byte} (hl : l.length = n) (hk : k ≤ n) (hz : (l.drop k).all (· = 0) = true) :
    padTo n (l.take k) = l := by
  have hdrop : l.drop k = zeros (n - k) := by
    rw [zeros, List.eq_replicate_iff]
    exact ⟨by rw [List.length_drop, hl], by simpa using hz⟩
  have hlen : (l.take k).length = k := by rw [List.length_take, hl, Nat.min_eq_left hk]
  rw [padTo, List.take_of_length_le (by omega), hlen, ← hdrop, List.take_append_drop]

theorem le_padded (n : Nat) : n ≤ padded n := by
  unfold padded cdiv
  omega

/-! ### The header -/

/-- The fields of a header spell it again (R237): each is cut out of the concatenation where it stands. -/
theorem Hdr.ofBits_bits (h : Hdr) : Hdr.ofBits h.bits = h := by
  cases h
  rw [Hdr.ofBits, Hdr.mk.injEq]
  refine ⟨?_, ?_, ?_, ?_, ?_, ?_, ?_, ?_, ?_, ?_, ?_, ?_, ?_, ?_⟩
  all_goals repeat refine (BitVec.extractLsb'_append_eq_of_add_le (by decide)).trans ?_
  · exact BitVec.extractLsb'_eq_self
  all_goals exact BitVec.extractLsb'_append_eq_left

/-! ### The bytes of a packet in its two forms -/

theorem Pkt.body_frame {p : Pkt} (h : p.isFrame = true) :
    p.body = natBytes 12 p.h.bits.toNat ++ natBytes 20 p.ext.toNat ++ p.pay ++ natBytes 4 p.e2e.toNat := if_pos h

theorem Pkt.body_cell {p : Pkt} (h : ¬ p.isFrame = true) : p.body = natBytes 12 p.h.bits.toNat ++ padTo 48 p.pay := if_neg h

/-- Both forms begin with the header (R247, R252). -/
theorem Pkt.hdr_bytes (p : Pkt) : Hdr.ofBits (BitVec.ofNat 96 (bytesNat (p.bytes.take 12))) = p.h := by
  have htake : p.bytes.take 12 = natBytes 12 p.h.bits.toNat := by
    by_cases hf : p.isFrame = true
    · simp only [Pkt.bytes, Pkt.body_frame hf, List.append_assoc]
      exact List.take_left' (length_natBytes ..)
    · simp only [Pkt.bytes, Pkt.body_cell hf, List.append_assoc]
      exact List.take_left' (length_natBytes ..)
  rw [htake, bytesNat_natBytes_toNat _ (by decide), BitVec.ofNat_toNat, BitVec.setWidth_eq, Hdr.ofBits_bits]

theorem Pkt.crc_bytes {p : Pkt} {k : Nat} (h : p.body.length = k) :
    decide (bytesNat (slice p.bytes k 4) = (crc32c (p.bytes.take k)).toNat) = true := by
  have htail : slice p.bytes k 4 = natBytes 4 (crc32c p.body).toNat := by
    rw [Pkt.bytes, slice, List.drop_left' h, List.take_of_length_le (length_natBytes ..).le]
  rw [htail, Pkt.bytes, List.take_left' h, bytesNat_natBytes_toNat _ (by decide), decide_eq_true_eq]

/-! ### What the bytes of each form spell -/

section
variable {p : Pkt}

theorem Pkt.parse_frame (hf : p.isFrame = true) (hn : frameLen p.opc p.ext.toNat = some p.pay.length) :
    Pkt.parse p.bytes = some (p, true) := by
  have hbody : p.body.length = 36 + p.pay.length := by
    rw [Pkt.body_frame hf]
    simp only [List.length_append, length_natBytes]
    omega
  have hlen : p.bytes.length = 40 + p.pay.length := by
    rw [Pkt.bytes, List.length_append, hbody, length_natBytes]
    omega
  have hext : bytesNat (slice p.bytes 12 20) = p.ext.toNat := by
    rw [Pkt.bytes, Pkt.body_frame hf, List.append_assoc, List.append_assoc, slice_append _ (by simp) (by simp),
      bytesNat_natBytes_toNat _ (by decide)]
  have hpay : slice p.bytes 32 p.pay.length = p.pay := by
    rw [Pkt.bytes, Pkt.body_frame hf, List.append_assoc, slice_append _ (by simp) rfl]
  have he2e : bytesNat (slice p.bytes (32 + p.pay.length) 4) = p.e2e.toNat := by
    rw [Pkt.bytes, Pkt.body_frame hf, slice_append _ (by simp; omega) (by simp), bytesNat_natBytes_toNat _ (by decide)]
  have hform : p.h.isFrame = true := hf
  have hfl : frameLen p.h.opc.toNat p.ext.toNat = some p.pay.length := hn
  have hm : 40 + p.pay.length ≤ p.bytes.length ∧ p.bytes.length ≤ padded (40 + p.pay.length) :=
    ⟨hlen.ge, hlen.trans_le (le_padded _)⟩
  unfold Pkt.parse
  simp only [p.hdr_bytes, hform, hext, hfl, if_pos hm, hpay, he2e, Pkt.crc_bytes hbody, if_true, BitVec.ofNat_toNat,
    BitVec.setWidth_eq]

theorem Pkt.parse_cell (hf : ¬ p.isFrame = true) (hlen : p.h.len.toNat ≤ 48) (hext : p.ext = 0) (he2e : p.e2e = 0)
    (hpay : p.pay.length = 48) (hz : (p.pay.drop p.h.len.toNat).all (· = 0) = true) : Pkt.parse p.bytes = some (p, true) := by
  have hbody : p.body.length = 60 := by
    rw [Pkt.body_cell hf, padTo_of_length hpay, List.length_append, length_natBytes, hpay]
  have hsize : p.bytes.length = 64 := by rw [Pkt.bytes, List.length_append, hbody, length_natBytes]
  have htake : slice p.bytes 12 p.h.len.toNat = p.pay.take p.h.len.toNat := by
    rw [Pkt.bytes, Pkt.body_cell hf, padTo_of_length hpay, List.append_assoc, slice, List.drop_left' (length_natBytes ..),
      List.take_append_of_le_length (hpay.ge.trans' hlen)]
  have hform : ¬ p.h.isFrame = true := hf
  unfold Pkt.parse
  simp only [p.hdr_bytes, if_neg hform, if_pos (And.intro hlen hsize), htake, padTo_take_of_zero hpay hlen hz, Pkt.crc_bytes hbody]
  rw [← hext, ← he2e]

end

end Sys2Proof.Machine

open Sys2Proof.Machine Sys2Proof

/-- Settles O15, by the two forms of a packet. -/
theorem packetRoundTrip : Obligations.PacketRoundTrip := by
  unfold Obligations.PacketRoundTrip
  intro p hp
  split at hp
  next hf => exact Pkt.parse_frame hf hp
  next hf =>
    obtain ⟨hlen, hext, he2e, hpay, hz⟩ := hp
    exact Pkt.parse_cell hf hlen hext he2e hpay hz

end

section
/-! PROOF. Transport descriptors and gallery extensions read back from the numbers that hold them (R246, R254): a field stands
above all fields below it, and what is added above leaves it. -/

namespace Sys2Proof.Machine

/-! ### Fields of a number built from its lowest field up -/

theorem nfld_zero {x w : Nat} (h : x < 2 ^ w) : nfld x 0 w = x := Nat.mod_eq_of_lt h

/-- What is added from bit `k` on leaves the fields below. -/
theorem nfld_add_below (a y : Nat) {k lo w : Nat} (h : lo + w ≤ k) : nfld (a + y <<< k) lo w = nfld a lo w := by
  obtain ⟨j, rfl⟩ := Nat.exists_eq_add_of_le h
  have hy : y <<< (lo + w + j) = 2 ^ lo * (2 ^ w * (2 ^ j * y)) := by
    rw [Nat.shiftLeft_eq, Nat.pow_add, Nat.pow_add]; ring
  rw [nfld, nfld, hy, Nat.shiftRight_eq_div_pow, Nat.shiftRight_eq_div_pow, Nat.add_mul_div_left _ _ (Nat.two_pow_pos lo),
    Nat.add_mul_mod_self_left]

theorem nfld_add_at {a y k w : Nat} (ha : a < 2 ^ k) (hy : y < 2 ^ w) : nfld (a + y <<< k) k w = y := by
  rw [nfld, Nat.shiftLeft_eq, Nat.shiftRight_eq_div_pow, Nat.add_mul_div_right _ _ (Nat.two_pow_pos k), Nat.div_eq_of_lt ha,
    Nat.zero_add, Nat.mod_eq_of_lt hy]

theorem add_shiftLeft_lt {a y k w : Nat} (m : Nat) (ha : a < 2 ^ k) (hy : y < 2 ^ w) (hm : k + w = m) : a + y <<< k < 2 ^ m := by
  calc a + y <<< k < 2 ^ k + y * 2 ^ k := by rw [Nat.shiftLeft_eq]; exact Nat.add_lt_add_right ha _
    _ = (y + 1) * 2 ^ k := by ring
    _ ≤ 2 ^ w * 2 ^ k := Nat.mul_le_mul_right _ hy
    _ = 2 ^ m := by rw [← hm, Nat.pow_add, Nat.mul_comm]

theorem nbit_eq_nfld (x i : Nat) : nbit x i = decide (nfld x i 1 = 1) := by
  rw [nbit, nfld, Nat.testBit_eq_decide_div_mod_eq, Nat.shiftRight_eq_div_pow, Nat.pow_one]

theorem decide_toNat_eq_one (b : Bool) : decide (b.toNat = 1) = b := by cases b <;> rfl

theorem Desc.ofNat_toNat {d : Desc} (hrreg : d.rreg < 2 ^ 20) (hroff : d.roff < 2 ^ 44) (hkey : d.key < 2 ^ 16) (hsync : d.sync < 2 ^ 16)
    (hqid : d.qid < 2 ^ 20) (hseq : d.seq < 2 ^ 16) (htlen : d.tlen < 2 ^ 21) (hfidx : d.fidx < 2 ^ 7) :
    Desc.ofNat d.toNat = d ∧ d.toNat < 2 ^ 160 := by
  have b64 := add_shiftLeft_lt 64 hrreg hroff rfl
  have b80 := add_shiftLeft_lt 80 b64 hkey rfl
  have b96 := add_shiftLeft_lt 96 b80 hsync rfl
  have b116 := add_shiftLeft_lt 116 b96 hqid rfl
  have b132 := add_shiftLeft_lt 132 b116 hseq rfl
  have b153 := add_shiftLeft_lt 153 b132 htlen rfl
  unfold Desc.toNat
  rw [Nat.mod_eq_of_lt hrreg, Nat.mod_eq_of_lt hroff, Nat.mod_eq_of_lt hkey, Nat.mod_eq_of_lt hsync,
    Nat.mod_eq_of_lt hqid, Nat.mod_eq_of_lt hseq, Nat.mod_eq_of_lt htlen, Nat.mod_eq_of_lt hfidx]
  refine ⟨?_, add_shiftLeft_lt 160 b153 hfidx rfl⟩
  simp (disch := decide) only [Desc.ofNat, nfld_add_below, nfld_zero hrreg, nfld_add_at hrreg hroff, nfld_add_at b64 hkey,
    nfld_add_at b80 hsync, nfld_add_at b96 hqid, nfld_add_at b116 hseq, nfld_add_at b132 htlen, nfld_add_at b153 hfidx]

theorem GExt.ofNat_toNat {x : GExt} (hgal : x.gal < 2 ^ 12) (hsgen : x.sgen < 2 ^ 8) (hchunk : x.chunk < 2 ^ 24) (hflen : x.flen < 2 ^ 14)
    (htoken : x.token < 2 ^ 24) (hweight : x.weight < 2 ^ 32) : GExt.ofNat x.toNat = x ∧ x.toNat < 2 ^ 120 := by
  have b20 := add_shiftLeft_lt 20 hgal hsgen rfl
  have b44 := add_shiftLeft_lt 44 b20 hchunk rfl
  have b58 := add_shiftLeft_lt 58 b44 hflen rfl
  have b59 := add_shiftLeft_lt (w := 1) 59 b58 x.w.toNat_lt rfl
  have b60 := add_shiftLeft_lt (w := 1) 60 b59 x.satf.toNat_lt rfl
  have b61 := add_shiftLeft_lt (w := 1) 61 b60 x.uflf.toNat_lt rfl
  have b62 := add_shiftLeft_lt (w := 1) 62 b61 x.srf.toNat_lt rfl
  have b63 := add_shiftLeft_lt (w := 1) 63 b62 x.half.toNat_lt rfl
  have b64 := b63.trans (by decide : 2 ^ 63 < 2 ^ 64)
  have b88 := add_shiftLeft_lt 88 b64 htoken rfl
  unfold GExt.toNat
  rw [Nat.mod_eq_of_lt hgal, Nat.mod_eq_of_lt hsgen, Nat.mod_eq_of_lt hchunk, Nat.mod_eq_of_lt hflen,
    Nat.mod_eq_of_lt htoken, Nat.mod_eq_of_lt hweight]
  refine ⟨?_, add_shiftLeft_lt 120 b88 hweight rfl⟩
  simp (disch := decide) only [GExt.ofNat, nbit_eq_nfld, nfld_add_below, nfld_zero hgal, nfld_add_at hgal hsgen,
    nfld_add_at b20 hchunk, nfld_add_at b44 hflen, nfld_add_at (w := 1) b58 x.w.toNat_lt, nfld_add_at (w := 1) b59 x.satf.toNat_lt,
    nfld_add_at (w := 1) b60 x.uflf.toNat_lt, nfld_add_at (w := 1) b61 x.srf.toNat_lt, nfld_add_at (w := 1) b62 x.half.toNat_lt,
    nfld_add_at b64 htoken, nfld_add_at b88 hweight, decide_toNat_eq_one]

end Sys2Proof.Machine

open Sys2Proof.Machine Sys2Proof

/-- Settles O16: each field is read where it was added. -/
theorem fieldsRoundTrip : Obligations.FieldsRoundTrip := by
  unfold Obligations.FieldsRoundTrip
  exact ⟨fun _ hrreg hroff hkey hsync hqid hseq htlen hfidx => Desc.ofNat_toNat hrreg hroff hkey hsync hqid hseq htlen hfidx,
    fun _ hgal hsgen hchunk hflen htoken hweight => GExt.ofNat_toNat hgal hsgen hchunk hflen htoken hweight⟩

end

section
/-! PROOF. Admission at the crossbar: the head that goes first, and what the admission of a head or of a packet built here leaves
(R315 to R317, R321). -/

namespace Sys2Proof.Machine

/-! ### The head that the crossbar takes (R317) -/

theorem State.rxHead_place {s : State} {c ch : Nat} {e : RxEnt} (h : s.rxHead c ch = some e) : e.port = c ∧ e.chan = ch := by
  simpa using List.find?_some h

theorem State.xbar_of_head {s : State} {c ch : Nat} {e : RxEnt} (h : s.rxHead c ch = some e) :
    s.xbar c ch = s.xbarTake ((s.rival e).getD e) := by
  rw [State.xbar, h]

/-- A fold that keeps one of two at each element ends with one of them. -/
theorem foldl_mem_of_choice {α : Type} {f : α → α → α} (hf : ∀ a b, f a b = a ∨ f a b = b) (l : List α) (a : α) :
    l.foldl f a ∈ a :: l := by
  induction l generalizing a with
  | nil => exact List.mem_singleton.mpr rfl
  | cons b l ih =>
    rcases List.mem_cons.mp (ih (f a b)) with h | h
    · rw [List.foldl_cons, h]
      rcases hf a b with h' | h' <;> simp [h']
    · exact .tail a (.tail b h)

/-- A rival goes before the head at the partition for which they contend. -/
theorem State.rival_key {s : State} {x y : RxEnt} (h : s.rival x = some y) : ∃ n, s.xbarKey n y < s.xbarKey n x := by
  unfold State.rival at h
  extract_lets heads at h
  split at h
  · cases h
  · obtain ⟨n, -, hn⟩ := List.exists_of_findSome?_eq_some h
    dsimp only at hn
    refine ⟨n, ?_⟩
    split at hn
    · cases hn
    next z l hcs =>
      have hmem : y ∈ z :: l := by
        rw [← Option.some.inj hn]
        exact foldl_mem_of_choice (fun a b => (ite_eq_or_eq _ b a).symm) l z
      rw [← hcs, List.mem_filter, Bool.and_eq_true, decide_eq_true_eq] at hmem
      exact hmem.2.1

/-- The class outweighs the port and the channel. -/
theorem State.rank_le_of_key {s : State} {n : Nat} {x y : RxEnt} (hx : x.chan < 12) (h : s.xbarKey n y < s.xbarKey n x) :
    xbarRank y.pkt.cls ≤ xbarRank x.pkt.cls := by
  unfold State.xbarKey at h
  have hmod := Nat.mod_lt (x.port + 17 - s.lastIn n x.pkt.cls) (by decide : 0 < 18)
  omega

/-- Notes of the ports taken touch the round robins over the receive stages alone. -/
theorem State.foldl_rrIn (g : State → Nat → List (Nat × Nat × Nat)) (l : List Nat) (s : State) :
    ∃ r, l.foldl (fun t n => { t with sw := { t.sw with rrIn := g t n } }) s = { s with sw := { s.sw with rrIn := r } } := by
  induction l generalizing s with
  | nil => exact ⟨s.sw.rrIn, rfl⟩
  | cons n l ih => exact ih { s with sw := { s.sw with rrIn := g s n } }

theorem State.xbarTake_eq (s : State) (x : RxEnt) :
    ∃ r, s.xbarTake x = { s.admitRecv x.port x.chan with sw := { (s.admitRecv x.port x.chan).sw with rrIn := r } } :=
  State.foldl_rrIn _ _ _

/-! ### Admission (R315, R316) -/

/-- The head of a channel on its way to admission. -/
def RxEnt.pend (c : Nat) (e : RxEnt) : Pend :=
  { part := portPart c, pkt := e.pkt, inPort := some c, arr := e.arr, built := false, gdel := none, ereq := none }

/-- The admission of that head, which has left its channel. -/
def State.admitHead (s : State) (c ch : Nat) (e : RxEnt) : Bool × State :=
  let u : State := { s with sw := { s.sw with rx := dropFirst (fun y => decide (y.port = c ∧ y.chan = ch)) s.sw.rx } }
  if c < 12 then u.admitEdge c (e.pend c) else u.admitTorus (e.pend c)

theorem State.admitRecv_admits {s : State} {c ch : Nat} {e : RxEnt} (hhead : s.rxHead c ch = some e)
    (hflows : s.flows (portPart c) = true) (hby : s.headBypass e = false) (hok : (s.admitHead c ch e).1 = true) :
    s.admitRecv c ch = (s.admitHead c ch e).2.regrant c := by
  have hstep : s.admitRecv c ch = if (s.admitHead c ch e).1 then (s.admitHead c ch e).2.regrant c
      else { s with free := (s.admitHead c ch e).2.free } := by
    unfold State.admitRecv
    simp only [hhead, hflows, hby, Bool.not_true, Bool.false_eq_true, if_false]
    rfl
  rw [hstep, if_pos hok]

/-- The first packet built in a partition, on its way to admission. -/
def Inj.pend (n : Nat) (i : Inj) : Pend :=
  { part := n, pkt := i.pkt, inPort := none, arr := i.arr, built := true, gdel := i.gdel, ereq := i.ereq }

theorem State.admitLocal_admits {s : State} {n : Nat} {i : Inj} {l : List Inj} (hruns : s.runs n = true) (hinj : s.sw.inj = i :: l)
    (hpart : i.part = n) (hshaped : i.shaped = false)
    (hok : (State.admitBuilt { s with sw := { s.sw with inj := l } } (i.pend n) i.fixed).1 = true) :
    s.admitLocal n = (State.admitBuilt { s with sw := { s.sw with inj := l } } (i.pend n) i.fixed).2.heldAll
      (fun y => decide (y.part = n)) := by
  have hgo : ¬ (i.part ≠ n ∨ (i.shaped && s.native && (s.rateOf i.pkt.h.slice.toNat i.pkt.h.dst.toNat).isSome) = true
      ∨ (i.pkt.h.dst, i.fixed) ∈ ([] : List (BitVec 16 × Option (Nat × Nat)))) := by simp [hpart, hshaped]
  rw [State.admitLocal, if_pos hruns, hinj, State.tryBuilt]
  simp only [if_neg hgo]
  congr 1
  exact if_pos hok

/-! ### The rows of admission -/

/-- PACKET_ADMIT and ADMISSION_RETRY are one attempt. -/
theorem exec_admit {f : AdmitSrc → Instr} (hf : f ∈ [Instr.packetAdmit, Instr.admissionRetry]) {s u : State} {a : AdmitSrc}
    (ha : a.wf = true) (hs : s.isLive = true) (h : s.tryAdmit a = u) : exec (f a) s = .next (s.after u) := by
  simp only [List.mem_cons, List.not_mem_nil, or_false] at hf
  rcases hf with rfl | rfl
  · exact ifWf_onLive (decide_eq_true ha) hs h
  · exact ifWf_onLive (decide_eq_true ha) hs h

end Sys2Proof.Machine
end

section
/-! PROOF. An output's choice: what taking, losing, delivering and sending a copy leave in the switch's buffers (R292, R325, R326,
R337, R379, R499). -/

namespace Sys2Proof.Machine

/-! ### What leaves the buffers of the switch as they are -/

/-- `t` holds the copies, the replay buffers and the delivered packets of `s`. -/
structure State.SameBuffers (s t : State) : Prop where
  copies : t.sw.copies = s.sw.copies
  replay : t.sw.replay = s.sw.replay
  inbox  : t.sw.inbox = s.sw.inbox

theorem State.SameBuffers.refl (s : State) : s.SameBuffers s := ⟨rfl, rfl, rfl⟩

theorem State.SameBuffers.trans {s t u : State} (h : s.SameBuffers t) (h' : t.SameBuffers u) : s.SameBuffers u :=
  ⟨h'.copies.trans h.copies, h'.replay.trans h.replay, h'.inbox.trans h.inbox⟩

theorem State.SameBuffers.of_sw {s t : State} (h : t.sw = s.sw) : s.SameBuffers t := ⟨by rw [h], by rw [h], by rw [h]⟩

theorem State.sameBuffers_foldl {α : Type} {f : State → α → State} (hf : ∀ s a, State.SameBuffers s (f s a)) (l : List α)
    (s : State) : s.SameBuffers (l.foldl f s) := by
  induction l generalizing s with
  | nil => exact .refl s
  | cons a l ih => exact (hf s a).trans (ih (f s a))

theorem State.SameBuffers.ite {s a b : State} {c : Prop} [Decidable c] (ha : s.SameBuffers a) (hb : s.SameBuffers b) :
    s.SameBuffers (if c then a else b) := by
  split
  · exact ha
  · exact hb

theorem State.sameBuffers_setReg (s : State) (r : Reg) (v : Word) : s.SameBuffers (s.setReg r v) := .of_sw rfl
theorem State.sameBuffers_emit (s : State) (o : Out) : s.SameBuffers (s.emit o) := .of_sw rfl
theorem State.sameBuffers_setLink (s : State) (c : Nat) (f : Link → Link) : s.SameBuffers (s.setLink c f) := .of_sw rfl

theorem State.sameBuffers_linkEmit (s : State) (c : Nat) (o : Out) : s.SameBuffers (s.linkEmit c o) := by
  unfold State.linkEmit
  exact (State.SameBuffers.ite (s.sameBuffers_emit _) (.refl s)).trans
    ((State.SameBuffers.ite (State.sameBuffers_emit ..) (.refl _)).trans
      ((State.sameBuffers_emit ..).trans (State.sameBuffers_setLink ..)))

theorem State.sameBuffers_countSl (s : State) (n sl : Nat) (r : Reg) (p : Pos) : s.SameBuffers (s.countSl n sl r p) :=
  .ite (s.sameBuffers_setReg ..) (.refl s)

theorem State.sameBuffers_ereqSent (s : State) (x : Option (Nat × Nat)) : s.SameBuffers (s.ereqSent x) := by
  cases x with
  | none => exact .refl s
  | some k => exact .of_sw rfl

theorem State.sameBuffers_ereqLost (s : State) (k : Nat × Nat) : s.SameBuffers (s.ereqLost k) := by
  unfold State.ereqLost
  split
  · exact .of_sw rfl
  · exact .refl s

theorem State.sameBuffers_failWith (s : State) (n : Nat) (p : Pkt) (status result : Nat) : s.SameBuffers (s.failWith n p status result) :=
  .ite (.refl s) ⟨rfl, rfl, rfl⟩

theorem State.sameBuffers_cutShort (s : State) (n o i : Nat) (x : Copy) : s.SameBuffers (s.cutShort n o i x) :=
  .ite (s.sameBuffers_linkEmit _ _) (.refl s)

/-- A copy that is lost to a tile check leaves the others, unless a gallery's step aborts with it (R326). -/
theorem State.sameBuffers_tileLost (s : State) (n : Nat) {x : Copy} (t : Nat) (hgal : x.pkt.isGal = false) :
    s.SameBuffers (s.tileLost n x t) := by
  have hev : s.SameBuffers (s.tileEvent n x.pkt t) := (s.sameBuffers_countSl ..).trans (.of_sw rfl)
  unfold State.tileLost
  simp only [hgal, Bool.false_eq_true, if_false]
  split
  · split
    · exact hev.trans (State.sameBuffers_ereqLost _ _)
    · exact hev.trans (State.sameBuffers_failWith _ _ _ _ _)
  · exact hev.trans (State.sameBuffers_ereqSent _ _)

/-! ### What a port sends -/

theorem State.sameBuffers_emitAll (s : State) (c : Nat) (l : List (BitVec 64)) :
    s.SameBuffers (l.foldl (fun s b => s.linkEmit c (.ctl c b)) s) :=
  State.sameBuffers_foldl (fun s b => s.sameBuffers_linkEmit c (.ctl c b)) l s

theorem State.sameBuffers_closeRec (s : State) (c : Nat) : s.SameBuffers (s.closeRec c) := by
  unfold State.closeRec
  split
  · exact .refl s
  · dsimp only
    split
    · exact ⟨rfl, rfl, rfl⟩
    · refine .trans ?_ (State.sameBuffers_emitAll _ c _)
      exact ⟨rfl, rfl, rfl⟩

theorem State.sameBuffers_useRecNo (s : State) (k : Nat) (ph : Bool) (c : Nat) : s.SameBuffers (s.useRecNo k ph c)  := by
  unfold State.useRecNo
  exact .ite ⟨rfl, rfl, rfl⟩ ⟨rfl, rfl, rfl⟩

/-- A packet goes out in clear, in the open record, in a record of its own, or not at all (R521, R523, R526). -/
theorem State.sameBuffers_linkSend (s : State) (c lseq : Nat) (p : Pkt) : s.SameBuffers (s.linkSend c lseq p) := by
  unfold State.linkSend
  extract_lets sl joins s0
  have h0 : s.SameBuffers s0 := .ite (.refl s) (s.sameBuffers_closeRec c)
  refine .ite (h0.trans (s0.sameBuffers_linkEmit _ _)) ?_
  split
  · split
    · exact h0.trans ⟨rfl, rfl, rfl⟩
    · have hsent (t : State) (o : Out) (f : List OpenRec → List OpenRec) :
          t.SameBuffers { t.linkEmit c o with sw := { (t.linkEmit c o).sw with opens := f (t.linkEmit c o).sw.opens } } :=
        (t.sameBuffers_linkEmit c o).trans ⟨rfl, rfl, rfl⟩
      exact .ite ((h0.trans (hsent ..)).trans (State.sameBuffers_closeRec _ c)) (h0.trans (hsent ..))
  · split
    · exact h0.trans (.of_sw rfl)
    · have hsent (k : Nat) (ph : Bool) (o : Out) : s.SameBuffers ((s0.useRecNo k ph c).linkEmit c o) :=
        (h0.trans (s0.sameBuffers_useRecNo k ph c)).trans (State.sameBuffers_linkEmit ..)
      exact .ite ((hsent ..).trans (State.sameBuffers_emitAll _ c _)) ((hsent ..).trans ⟨rfl, rfl, rfl⟩)

theorem State.sameBuffers_snoop (s : State) (st idx : Nat) (p : Pkt) : s.SameBuffers (s.snoop st idx p) := by
  refine State.sameBuffers_foldl (fun t _ => ?_) _ s
  exact .ite ⟨rfl, rfl, rfl⟩ (.refl t)

/-- A port's replay buffer takes what it sends, with the LSEQ that the port had next (R292). -/
theorem State.sendOn_buffers (s : State) (c : Nat) (p : Pkt) :
    State.SameBuffers { s with sw := { s.sw with replay := s.sw.replay ++ [{ port := c, lseq := (s.link c).next, pkt := p }] } }
      (s.sendOn c p) := by
  have htel (t : State) (d : Prop) [Decidable d] (r : Reg) (v : Word) : t.SameBuffers (if d then t.setReg r v else t) :=
    .ite (t.sameBuffers_setReg r v) (.refl t)
  unfold State.sendOn
  refine .trans (.trans (.trans (.trans ?_ (htel ..)) (htel ..)) (State.sameBuffers_snoop ..)) (State.sameBuffers_linkSend ..)
  exact ⟨rfl, rfl, rfl⟩

/-! ### What leaves the checks on a copy as they are -/

/-- A register apart from those of slices and quarantines. -/
def Reg.apart (r : Reg) : Prop := (∀ n i, i < 64 → (Reg.quar n i).addr ≠ r.addr) ∧ ∀ sl < 64, (Reg.slice sl).addr ≠ r.addr

theorem Reg.apart_telQ (n : Nat) {o : Nat} (ho : o < 5) : (Reg.telQ n o).apart := by
  constructor <;> intros <;> simp only [Reg.addr] <;> omega

theorem Reg.apart_smpIdx : Reg.smpIdx.apart := by
  constructor <;> intros <;> simp only [Reg.addr] <;> omega

theorem Reg.apart_secStat : Reg.secStat.apart := by
  constructor <;> intros <;> simp only [Reg.addr] <;> omega

/-- `t` holds the packets of `s`, and what it looks at where one leaves is as in `s`: ports, transport, clock, slices and
quarantines. -/
structure State.SameChecks (s t : State) : Prop extends s.SameBuffers t where
  links : t.links = s.links
  tp    : t.tp = s.tp
  now   : t.now = s.now
  quar  : ∀ n i, i < 64 → t.reg (.quar n i) = s.reg (.quar n i)
  slice : ∀ sl < 64, t.reg (.slice sl) = s.reg (.slice sl)

section
variable {s t u : State}

theorem State.SameChecks.refl (s : State) : s.SameChecks s := ⟨.refl s, rfl, rfl, rfl, fun _ _ _ => rfl, fun _ _ => rfl⟩

theorem State.SameChecks.trans (h : s.SameChecks t) (h' : t.SameChecks u) : s.SameChecks u :=
  ⟨h.toSameBuffers.trans h'.toSameBuffers, h'.links.trans h.links, h'.tp.trans h.tp, h'.now.trans h.now,
    fun n i hi => (h'.quar n i hi).trans (h.quar n i hi), fun sl hsl => (h'.slice sl hsl).trans (h.slice sl hsl)⟩

theorem State.SameChecks.ite {c : Prop} [Decidable c] (ht : s.SameChecks t) (hu : s.SameChecks u) :
    s.SameChecks (if c then t else u) := by
  split
  · exact ht
  · exact hu

theorem State.sameChecks_setReg (s : State) {r : Reg} (v : Word) (h : r.apart) : s.SameChecks (s.setReg r v) :=
  ⟨s.sameBuffers_setReg r v, rfl, rfl, rfl, fun n i hi => s.reg_setReg_ne v (h.1 n i hi), fun sl hsl => s.reg_setReg_ne v (h.2 sl hsl)⟩

theorem State.SameChecks.link (h : s.SameChecks t) (c : Nat) : t.link c = s.link c := by
  rw [State.link, State.link, h.links]

theorem State.SameChecks.conf (h : s.SameChecks t) {sl : Nat} (hsl : sl < 64) : t.conf sl = s.conf sl := by
  rw [State.conf, State.conf, State.fld, State.fld, h.slice sl hsl]

theorem State.SameChecks.quarAt (h : s.SameChecks t) (n src qid : Nat) : t.quarAt n src qid = s.quarAt n src qid := by
  rw [Bool.eq_iff_iff, State.quarAt, State.quarAt, List.any_eq_true, List.any_eq_true]
  refine exists_congr fun i => and_congr_right fun hi => ?_
  have hfld (p : Pos) : t.fld (.quar n i) p = s.fld (.quar n i) p := by rw [State.fld, State.fld, h.quar n i (List.mem_range.mp hi)]
  rw [decide_eq_true_eq, decide_eq_true_eq, hfld, hfld, hfld]

theorem State.SameChecks.quarPart (h : s.SameChecks t) (e : InEnt) : t.quarPart e = s.quarPart e := by
  simp only [State.quarPart, h.quarAt, h.tp]

/-! ### The state after the choice -/

/-- The state without a copy. -/
def State.without (s : State) (x : Copy) : State :=
  { s with sw := { s.sw with copies := dropFirst (fun y => decide (y = x)) s.sw.copies } }

theorem State.sameChecks_gateRefresh (s : State) (n : Nat) : s.SameChecks (s.gateRefresh n) := by
  have hgate (f : Part → Part) : s.SameChecks (s.setPart n f) :=
    ⟨.of_sw rfl, rfl, rfl, rfl, fun _ _ _ => rfl, fun _ _ => rfl⟩
  unfold State.gateRefresh
  exact .ite (.refl s) (.ite (hgate _) (.ite (hgate _) (.refl s)))

/-- The state after output `o` has chosen a copy: its round robin and credit used, the copy taken (R337). -/
def State.chosen (s : State) (n o : Nat) (x : Copy) (d : Drr) : State :=
  let t := ((s.setDrr (d.sent x)).useCredit n o x).without x
  if o = 0 then t.gateRefresh n else t

theorem State.sameChecks_chosen (s : State) (n o : Nat) (x : Copy) (d : Drr) : (s.without x).SameChecks (s.chosen n o x d) := by
  have hdrr : (s.without x).SameChecks (((s.setDrr (d.sent x)).useCredit n o x).without x) := by
    unfold State.useCredit
    split <;> exact ⟨⟨rfl, rfl, rfl⟩, rfl, rfl, rfl, fun _ _ _ => rfl, fun _ _ => rfl⟩
  exact .ite (hdrr.trans (State.sameChecks_gateRefresh _ n)) hdrr

section
variable {n o : Nat} {x : Copy} {d : Drr} (hflows : s.flows n = true) (hchoose : s.choose n o = some (x, d))
  (hquar : s.quar x.pkt.h.slice.toNat = false) (hold : s.tooOld x = false)
include hflows hchoose hquar hold

theorem State.outputStep_bad {i : Nat} (hbad : x.firstBad = some i) :
    s.outputStep n o = ((s.chosen n o x d).cutShort n o i x).tileLost n x (x.tiles.getD i 0) := by
  unfold State.outputStep
  simp only [hflows, hchoose, hquar, hold, hbad, Bool.not_true, Bool.false_eq_true, if_false]
  rfl

theorem State.outputStep_good (hgood : x.firstBad = none) :
    s.outputStep n o = (s.chosen n o x d).sendCopy n o (s.qDepth n o x.chan) x x.read := by
  unfold State.outputStep
  simp only [hflows, hchoose, hquar, hold, hgood, Bool.not_true, Bool.false_eq_true, if_false]
  rfl

end

/-- Tiles no bit of which has changed meet their check. -/
theorem Copy.firstBad_of_flips_nil {x : Copy} (h : x.flips = []) : x.firstBad = none := by
  simp [Copy.firstBad, Copy.tileBad, Copy.flipsIn, h]

theorem Copy.read_of_flips_nil {x : Copy} (h : x.flips = []) : x.read = x.pkt := by
  rw [Copy.read, h]
  rfl

/-! ### What an output does with a copy that meets its checks -/

/-- A packet with another ECN. -/
def Pkt.withEcn (p : Pkt) (c : BitVec 2) : Pkt := { p with h := { p.h with ecn := c } }

theorem State.quarPart_withEcn (s : State) (e : InEnt) (c : BitVec 2) :
    s.quarPart { e with pkt := e.pkt.withEcn c } = s.quarPart e := rfl

theorem Pkt.stamped_of_ne {p : Pkt} (h : p.opc ≠ opTIMESYNC) (ft : Nat) : p.stamped ft = p := if_pos h

/-- Marking changes the ECN at most (R379). -/
theorem State.ecnMark_eq (s : State) (n : Nat) {o : Nat} (ho : o < 5) (k : Nat) (p : Pkt) :
    (∃ c, (s.ecnMark n o k p).1 = p.withEcn c) ∧ s.SameChecks (s.ecnMark n o k p).2 := by
  unfold State.ecnMark
  extract_lets mark
  split
  · exact ⟨⟨3, rfl⟩, .ite (s.sameChecks_setReg _ (Reg.apart_telQ n ho)) (.refl s)⟩
  · exact ⟨⟨p.h.ecn, rfl⟩, .refl s⟩

theorem State.sameChecks_keepMerged (s : State) (x : Copy) : s.SameChecks (s.keepMerged x) := by
  unfold State.keepMerged
  exact .ite (.refl s) ⟨⟨rfl, rfl, rfl⟩, rfl, rfl, rfl, fun _ _ _ => rfl, fun _ _ => rfl⟩

theorem State.sameChecks_ereqSent (s : State) (x : Option (Nat × Nat)) : s.SameChecks (s.ereqSent x) := by
  cases x with
  | none => exact .refl s
  | some k => exact ⟨.of_sw rfl, rfl, rfl, rfl, fun _ _ _ => rfl, fun _ _ => rfl⟩

theorem State.sameChecks_sampleTake (s : State) (n o k : Nat) (p : Pkt) : s.SameChecks (s.sampleTake n o k p) := by
  have hput (l : List (Nat × Nat × Nat)) : s.SameChecks { s with sw := { s.sw with samp := l } } :=
    ⟨⟨rfl, rfl, rfl⟩, rfl, rfl, rfl, fun _ _ _ => rfl, fun _ _ => rfl⟩
  have hout (t : State) (b : List Byte) : t.SameChecks (t.sampleOut b) := by
    unfold State.sampleOut
    exact .ite (t.sameChecks_setReg _ Reg.apart_smpIdx) ⟨.of_sw rfl, rfl, rfl, rfl, fun _ _ _ => rfl, fun _ _ => rfl⟩
  unfold State.sampleTake
  exact .ite (.ite ((hput _).trans (hout _ _)) (hput _)) (.refl s)

/-- What an output does with a copy, marked: it delivers it to the units, sends it on its port, or, of a confidential slice
without a key, drops it. -/
theorem State.sendCopy_cases (s : State) (n : Nat) {o : Nat} (ho : o < 5) (k : Nat) (x : Copy) (p : Pkt) :
    ∃ c t, s.SameChecks t ∧ ((2 < o ∧ s.sendCopy n o k x p = t.deliverUnit n x (p.withEcn c))
      ∨ (o ≤ 2 ∧ ∃ ft, s.sendCopy n o k x p = t.sendOn (portCode n o) ((p.withEcn c).stamped ft))
      ∨ (o ≤ 2 ∧ s.conf x.pkt.h.slice.toNat = true ∧ s.sendCopy n o k x p = t)) := by
  obtain ⟨⟨c, hc⟩, hmark⟩ := s.ecnMark_eq n ho k p
  have hprep := (hmark.trans (State.sameChecks_keepMerged _ { x with pkt := (s.ecnMark n o k p).1 })).trans
    (State.sameChecks_ereqSent _ x.ereq)
  unfold State.sendCopy
  dsimp only
  rw [hc] at hprep ⊢
  split
  next h2 => exact ⟨c, _, hprep.trans (State.sameChecks_sampleTake ..), .inl ⟨h2, rfl⟩⟩
  next h2 =>
    split
    next hseal =>
      refine ⟨c, _, hprep.trans (State.sameChecks_setReg _ _ Reg.apart_secStat), .inr (.inr ⟨Nat.le_of_not_lt h2, ?_, rfl⟩)⟩
      rw [← hprep.conf x.pkt.h.slice.isLt]
      simp only [State.canSeal, Bool.not_eq_true', Bool.or_eq_false_iff, Bool.not_eq_false'] at hseal
      exact hseal.1
    next => exact ⟨c, _, hprep.trans (State.sameChecks_sampleTake ..), .inr (.inl ⟨Nat.le_of_not_lt h2, _, rfl⟩)⟩

end

theorem State.deliverUnit_delivers {s : State} {n : Nat} {x : Copy} {p : Pkt} {e : InEnt}
    (he : e = { part := n, pkt := p, inPort := x.inPort, arr := x.arr, at' := s.now }) (hq : s.quarPart e = none) :
    (s.deliverUnit n x p).sw = { s.sw with inbox := inboxAdd e s.sw.inbox } := by
  subst he
  unfold State.deliverUnit
  simp only [hq]

theorem State.deliverUnit_quarantined {s : State} {n : Nat} {x : Copy} {p : Pkt} {e : InEnt}
    (he : e = { part := n, pkt := p, inPort := x.inPort, arr := x.arr, at' := s.now }) (hq : s.quarPart e ≠ none) :
    s.SameBuffers (s.deliverUnit n x p) := by
  subst he
  obtain ⟨m, hm⟩ := Option.ne_none_iff_exists'.mp hq
  unfold State.deliverUnit
  simp only [hm]
  exact s.sameBuffers_failWith ..

theorem State.copies_deliverUnit (s : State) (n : Nat) (x : Copy) (p : Pkt) : (s.deliverUnit n x p).sw.copies = s.sw.copies := by
  by_cases hq : s.quarPart { part := n, pkt := p, inPort := x.inPort, arr := x.arr, at' := s.now } = none
  · rw [State.deliverUnit_delivers rfl hq]
  · exact (State.deliverUnit_quarantined rfl hq).copies

/-! ### The row of an output -/

section
variable {s : State} {n o : Nat} {x : Copy} {d : Drr}

theorem exec_outputSelect {u : State} (hn : n < 6) (ho : o < 5) (hs : s.isLive = true) (h : s.outputStep n o = u) :
    exec (.outputSelect n o none) s = .next (s.after u) :=
  ifWf_onLive (decide_eq_true ⟨hn, ho, rfl⟩) hs h

variable (hflows : s.flows n = true) (hchoose : s.choose n o = some (x, d)) (hquar : s.quar x.pkt.h.slice.toNat = false)
  (hold : s.tooOld x = false)
include hflows hchoose hquar hold

/-- A copy that a tile check takes is gone, and nothing of it is kept (R326). -/
theorem State.outputStep_lost (hgal : x.pkt.isGal = false) (hbad : x.firstBad.isSome = true) :
    (s.without x).SameBuffers (s.outputStep n o) := by
  obtain ⟨i, hi⟩ := Option.isSome_iff_exists.mp hbad
  rw [State.outputStep_bad hflows hchoose hquar hold hi]
  exact ((s.sameChecks_chosen n o x d).toSameBuffers.trans (State.sameBuffers_cutShort ..)).trans
    (State.sameBuffers_tileLost _ _ _ hgal)

/-- A copy that meets its checks is delivered or sent, marked, from a state that holds the others. -/
theorem State.outputStep_sends (ho : o < 5) (hflips : x.flips = []) :
    ∃ c t, (s.without x).SameChecks t ∧ ((2 < o ∧ s.outputStep n o = t.deliverUnit n x (x.pkt.withEcn c))
      ∨ (o ≤ 2 ∧ ∃ ft, s.outputStep n o = t.sendOn (portCode n o) ((x.pkt.withEcn c).stamped ft))
      ∨ (o ≤ 2 ∧ s.conf x.pkt.h.slice.toNat = true ∧ s.outputStep n o = t)) := by
  have hchosen := s.sameChecks_chosen n o x d
  obtain ⟨c, t, ht, hcases⟩ := (s.chosen n o x d).sendCopy_cases n ho (s.qDepth n o x.chan) x x.pkt
  rw [State.outputStep_good hflows hchoose hquar hold (Copy.firstBad_of_flips_nil hflips), Copy.read_of_flips_nil hflips]
  rw [hchosen.conf x.pkt.h.slice.isLt] at hcases
  exact ⟨c, t, hchosen.trans ht, hcases⟩

end

end Sys2Proof.Machine

open Sys2Proof.Machine Sys2Proof

/-- Settles O47: admission by the head that goes first, an output's selection by what it does with the copy it chose. -/
theorem switchRows : Obligations.SwitchRows := by
  unfold Obligations.SwitchRows
  intro s c ch n o e i x d hs
  refine ⟨fun f hf => ⟨fun hc hch hhead y hy => ?_, fun hc hch hhead hflows hby hriv => ?_, fun l hn hruns hinj hpart hshaped => ?_⟩,
    fun hn ho hflows hchoose hquar hold hgal hbad => ?_, fun hn ho hflows hchoose hquar hold hflips => ?_, next_onLive hs rfl⟩
  · have hwf : (AdmitSrc.recv c ch).wf = true := decide_eq_true ⟨hc, hch⟩
    refine ⟨exec_admit hf hwf hs ((State.xbar_of_head hhead).trans (by rw [hy]; rfl)), ?_⟩
    obtain ⟨n, hkey⟩ := State.rival_key hy
    exact State.rank_le_of_key ((State.rxHead_place hhead).2.trans_lt hch) hkey
  · intro w u r t hok
    have hwf : (AdmitSrc.recv c ch).wf = true := decide_eq_true ⟨hc, hch⟩
    obtain ⟨rfl, rfl⟩ := State.rxHead_place hhead
    obtain ⟨l, hl⟩ := s.xbarTake_eq e
    rw [State.admitRecv_admits hhead hflows hby hok] at hl
    exact ⟨l, exec_admit hf hwf hs ((State.xbar_of_head hhead).trans (by rw [hriv]; exact hl))⟩
  · intro w r hok
    exact exec_admit hf (decide_eq_true hn) hs (State.admitLocal_admits hruns hinj hpart hshaped hok)
  · have hlost := State.outputStep_lost hflows hchoose hquar hold hgal hbad
    exact ⟨_, exec_outputSelect hn ho hs rfl, hlost.copies, hlost.replay, hlost.inbox⟩
  · intro ent
    obtain ⟨k, t, ht, ⟨h2, hstep⟩ | ⟨h2, ft, hstep⟩ | ⟨h2, hconf, hstep⟩⟩ :=
      State.outputStep_sends hflows hchoose hquar hold ho hflips
    · have hent : ent (x.pkt.withEcn k)
          = { part := n, pkt := x.pkt.withEcn k, inPort := x.inPort, arr := x.arr, at' := t.now } := by rw [ht.now]; rfl
      have hkey : t.quarPart (ent (x.pkt.withEcn k)) = s.quarPart (ent x.pkt) := ht.quarPart _
      refine ⟨_, x.pkt.withEcn k, exec_outputSelect hn ho hs hstep, (t.copies_deliverUnit ..).trans ht.copies, rfl, rfl,
        fun _ hq => ?_, fun _ hq => ?_, fun ho' => absurd h2 (Nat.not_lt.mpr ho')⟩
      · rw [State.deliverUnit_delivers hent (hkey.trans hq)]
        exact congrArg (inboxAdd (ent (x.pkt.withEcn k))) ht.inbox
      · exact (State.deliverUnit_quarantined hent (hkey.trans_ne hq)).inbox.trans ht.inbox
    · have hsent := t.sendOn_buffers (portCode n o) ((x.pkt.withEcn k).stamped ft)
      refine ⟨_, x.pkt.withEcn k, exec_outputSelect hn ho hs hstep, hsent.copies.trans ht.copies, rfl, rfl,
        fun ho' => absurd ho' (Nat.not_lt.mpr h2), fun ho' => absurd ho' (Nat.not_lt.mpr h2), fun _ _ hopc => ?_⟩
      rw [Pkt.stamped_of_ne (p := x.pkt.withEcn k) hopc] at hsent ⊢
      rw [hsent.replay, ht.link, ht.replay]
      rfl
    · exact ⟨t, x.pkt, exec_outputSelect hn ho hs hstep, ht.copies, rfl, rfl, fun ho' => absurd ho' (Nat.not_lt.mpr h2),
        fun ho' => absurd ho' (Nat.not_lt.mpr h2), fun _ hclear => absurd hconf (by rw [hclear]; decide)⟩

end

section
/-! PROOF. LANE_TEST (R308 to R310): what its operands let it do, and what it leaves of a lane fenced before. -/

namespace Sys2Proof.Machine

/-! ### Lanes and links after an update -/

/-- A lane of the block just changed. -/
theorem State.lane_setLane_same (s : State) {l : Nat} (f : Lane → Lane) (hl : l < 192) : (s.setLane l f).lane l = f (s.lane l) := by
  simp [State.lane, State.setLane, hl]

/-- Another lane. -/
theorem State.lane_setLane_ne (s : State) {l k : Nat} (f : Lane → Lane) (h : l ≠ k) : (s.setLane l f).lane k = s.lane k := by
  simp [State.lane, State.setLane, h]

theorem State.lane_congr {s t : State} (h : t.lanes = s.lanes) (l : Nat) : t.lane l = s.lane l := by
  rw [State.lane, State.lane, h]

/-! ### The checks of LANE_TEST -/

/-- May lane `l` not be fenced: does DX_PORT_CFG refuse the write that adds it to FENCE (R306, R309)? -/
def State.fenceRefused (s : State) (l : Nat) : Bool :=
  let p := lanePort l
  let r := s.reg (cfgReg p)
  s.portCfgRefused (portPart p) (portK p) (fset r portCfg_FENCE (fget r portCfg_FENCE ||| 2 ^ laneLocal l))

/-- Is lane `l` fenced, by FENCE or HWFENCE (R305)? -/
def State.laneFenced (s : State) (l : Nat) : Bool := (s.fencedLanes (lanePort l)).getLsbD (laneLocal l)

/-- The operand checks of LANE_TEST, each with the byte that a refusal names. -/
def State.laneTestChecks (s : State) (c : Cmd) : List (Bool × Nat) :=
  let inj := c.fld 2 16 6
  [(decide (191 < c.fld 2 0 8), 16), (decide (c.fld 2 8 4 ≠ 0 ∧ inj ≠ 0 ∧ (inj < 10 ∨ 40 < inj)), 18),
    (!s.laneFenced (c.fld 2 0 8) && s.fenceRefused (c.fld 2 0 8), 16)]

/-- With its lane and injection in range, LANE_TEST is refused only where it has to fence its lane and may not. -/
theorem State.firstBad_laneTestChecks {s : State} {c : Cmd} (hl : c.fld 2 0 8 ≤ 191)
    (hinj : c.fld 2 8 4 = 0 ∨ c.fld 2 16 6 = 0 ∨ (10 ≤ c.fld 2 16 6 ∧ c.fld 2 16 6 ≤ 40)) :
    firstBad (s.laneTestChecks c)
      = if s.laneFenced (c.fld 2 0 8) = false ∧ s.fenceRefused (c.fld 2 0 8) = true then some (3, 16) else none := by
  have hlane : decide (191 < c.fld 2 0 8) = false := decide_eq_false (by omega)
  have hrange : decide (c.fld 2 8 4 ≠ 0 ∧ c.fld 2 16 6 ≠ 0 ∧ (c.fld 2 16 6 < 10 ∨ 40 < c.fld 2 16 6)) = false :=
    decide_eq_false (by omega)
  rw [State.laneTestChecks, hlane, hrange, firstBad_cons_false, firstBad_cons_false]
  cases s.laneFenced (c.fld 2 0 8) <;> cases s.fenceRefused (c.fld 2 0 8) <;> rfl

/-! ### What LANE_TEST does -/

/-- A lane put in test mode `md`: the checker has to lock anew, and the injection acts on a PRBS stream only (R310, R311). -/
def Lane.tested (md inj : Nat) (x : Lane) : Lane :=
  { x with mode := md, plock := false, inj := if md ∈ [1, 2, 3] then inj else 0 }

@[simp] theorem State.lanes_sdbFlush (s : State) : s.sdbFlush.lanes = s.lanes := by
  obtain ⟨o, h⟩ := s.sdbFlush_eq
  rw [h]

@[simp] theorem State.regs_sdbFlush (s : State) : s.sdbFlush.regs = s.regs := by
  obtain ⟨o, h⟩ := s.sdbFlush_eq
  rw [h]

/-- LANE_TEST sets its lane in a state that, where the lane was fenced before, has every lane and register as it was. -/
theorem State.runLaneTest_eq (c : Cmd) (s : State) : ∃ t : State,
    State.runLaneTest c s = s.mgmtRange c (s.laneTestChecks c)
      ((t.setLane (c.fld 2 0 8) (Lane.tested (c.fld 2 8 4) (c.fld 2 16 6))).mgmtRec c stDONE 0)
    ∧ (s.laneFenced (c.fld 2 0 8) = true → t.lanes = s.lanes ∧ t.regs = s.regs) := by
  refine ⟨_, rfl, fun hf => ?_⟩
  rw [State.laneFenced] at hf
  rw [if_pos hf]
  split
  · exact ⟨rfl, rfl⟩
  · exact ⟨State.lanes_sdbFlush _, State.regs_sdbFlush _⟩

/-- Each mode of LANE_TEST is the row of the command fetched first in that mode. -/
theorem exec_laneTest {s u : State} {c : Cmd} {x : Nat × Instr} (hs : s.isLive = true) (hc : s.starts c) (ho : c.opc = 0xA8)
    (hx : x ∈ [(0, Instr.laneTestStop), (1, .laneTestPrbs31), (2, .laneTestPrbs13q), (3, .laneTestNearLoop), (4, .laneTestFarLoop)])
    (hmd : c.fld 2 8 4 = x.1) (h : State.runLaneTest c s.mgmtTaken = u) : exec x.2 s = .next (s.after u) := by
  have hrow : exec x.2 s = .next (s.onLive (s.mgmtRow (cmdLaneTest x.1) State.runLaneTest)) := by
    fin_cases hx <;> rfl
  rw [hrow]
  exact next_mgmtRow hs hc (decide_eq_true ⟨ho, hmd⟩) h

end Sys2Proof.Machine

open Sys2Proof.Machine Sys2Proof

/-- Settles O42: the checks of the operands leave the fence alone to decide, and the lane is set in a state that fencing or the
control bus has made. -/
theorem laneTests : Obligations.LaneTests := by
  unfold Obligations.LaneTests
  intro s c hs hc ho hl hinj x hx hmd l p r bad
  obtain ⟨t, hrun, hkeeps⟩ := State.runLaneTest_eq c s.mgmtTaken
  have hlane : l < 192 := Nat.lt_succ_of_le hl
  have hchecks := State.firstBad_laneTestChecks (s := s.mgmtTaken) hl hinj
  have hset : (t.setLane l (Lane.tested (c.fld 2 8 4) (c.fld 2 16 6))).lane l = Lane.tested x.1 (c.fld 2 16 6) (t.lane l) := by
    rw [State.lane_setLane_same t _ hlane, hmd]
  have hdone (h : ¬ (s.mgmtTaken.laneFenced l = false ∧ s.mgmtTaken.fenceRefused l = true)) :
      exec x.2 s = .next (s.after ((t.setLane l (Lane.tested (c.fld 2 8 4) (c.fld 2 16 6))).mgmtRec c stDONE 0)) :=
    exec_laneTest hs hc ho hx hmd (hrun.trans (State.mgmtRange_taken (hchecks.trans (if_neg h))))
  refine ⟨fun hf => ?_, fun hf hb => ?_, fun hf hb => ?_⟩
  · obtain ⟨hlanes, hregs⟩ := hkeeps hf
    refine ⟨_, hdone fun h => Bool.false_ne_true (h.1.symm.trans hf), by rw [hset]; rfl, by rw [hset]; rfl, fun k hk => ?_, hregs⟩
    rw [State.lane_setLane_ne t _ hk.symm]
    exact State.lane_congr hlanes k
  · exact ⟨_, hdone fun h => Bool.false_ne_true (hb.symm.trans h.2), by rw [hset]; rfl⟩
  · exact exec_laneTest hs hc ho hx hmd (hrun.trans (State.mgmtRange_refused (x := (3, 16)) (hchecks.trans (if_pos ⟨hf, hb⟩))))

end

section
/-! PROOF. Lanes and the training of a port: what a lane's lock, a round of MARKs, a partner's TRAIN block and each timer of
training leave (R268, R271, R274 to R278). -/

namespace Sys2Proof.Machine

/-! ### Lanes -/

theorem State.laneLock_hunting {s : State} {l : Nat} (hon : s.laneOn l = true) (hunts : (s.lane l).locked = false) :
    s.laneLock l
      = (s.setLane l (fun x => { x with locked := true, aligned := true, good := 0, hist := [] })).trainOn (lanePort l) :=
  if_pos (by simp [hon, hunts])

theorem State.lockLoss_locked {s : State} {l : Nat} (hon : s.laneOn l = true) (hlock : (s.lane l).locked = true) :
    s.lockLoss l
      = (s.setLane l (fun x => { x with locked := false, aligned := false, good := 0, hist := [], blks := [] })).laneLost l :=
  if_pos (by simp [hon, hlock])

theorem State.markRound_trains {s : State} {c : Nat} (ht : s.trains c = true) (bl : List MarkBlk) :
    s.markRound c bl = (bl.foldl (fun s m => s.mark c m) s).trainOn c :=
  if_pos (by simp [ht])

/-! ### TRAIN blocks -/

/-- Only a burst in announced idle is judged (R299). -/
theorem State.burstEnd_awake {s : State} {c : Nat} (h : ¬ (s.up c = true ∧ s.fld (statReg c) portStat_RXIDLE = 1)) :
    s.burstEnd c = s := by
  unfold State.burstEnd
  split
  · exact if_neg fun hb => h ⟨hb.1, hb.2.1⟩
  · rfl

/-- A port that trains or has found a mismatch takes the block. -/
theorem State.trainRx_takes {s : State} {c : Nat} (t : TrainBlk) (h : s.pst c ∈ [psLOCK, psALIGN, psRETRAIN, psMISMATCH]) :
    s.trainRx c t = s.trainTake c t := by
  have hup : s.up c = false := by
    refine decide_eq_false fun hst => ?_
    rw [hst] at h
    exact absurd h (by decide)
  have hparked : s.pst c ≠ psPARKED := fun hst => by
    rw [hst] at h
    exact absurd h (by decide)
  have htakes : s.trains c = true ∨ s.pst c = psMISMATCH := by simpa [State.trains, or_assoc] using h
  rw [State.trainRx, State.burstEnd_awake (by simp [hup])]
  exact (if_neg hparked).trans ((if_neg (by simp [hup])).trans (if_pos htakes))

theorem State.trainTake_passed {s : State} {c : Nat} {t : TrainBlk} (h : s.trainOk c t = true) :
    s.trainTake c t = ((s.setFld (statReg c) portStat_PEER t.node.toNat).setLink c
      (fun l => { l with partner := some t.mask, pready := t.ready })).train c := if_pos h

theorem State.trainTake_failed {s : State} {c : Nat} {t : TrainBlk} (h : s.trainOk c t = false) :
    s.trainTake c t = if s.pst c = psLOCK then ((s.count (errReg c) portErr_MISMATCH 1).portEvent c 0x05).setPst c psMISMATCH
      else (s.count (errReg c) portErr_MISMATCH 1).portEvent c 0x05 := if_neg (by simp [h])

/-! ### Timers of training -/

theorem State.mismatchEnd_due {s : State} {c : Nat} (h : s.pst c = psMISMATCH) (hd : (s.link c).since + ms 1 ≤ s.now) :
    s.mismatchEnd c = s.enterLock c := if_pos ⟨h, decide_eq_true hd⟩

theorem State.trainLate_due {s : State} {c : Nat} (h : s.pst c ∈ [psLOCK, psALIGN, psMISMATCH])
    (hd : (s.link c).lockAt + ms 20 ≤ s.now) :
    s.trainLate c = ((s.count (errReg c) portErr_TRTO 1).portEvent c 0x05).enterLock c := if_pos ⟨h, decide_eq_true hd⟩

theorem State.downEnd_due {s : State} {c : Nat} (h : s.pst c = psDOWN) (hd : (s.link c).since + us 1 ≤ s.now)
    (hmay : s.mayTrain c = true) : s.downEnd c = s.enterLock c := if_pos ⟨h, decide_eq_true hd, hmay⟩

/-- The lanes that a port in RETRAIN waits for: those of its previous mask, neither fenced nor aligned (R278). -/
def State.awaited (s : State) (c : Nat) : BitVec 16 := (s.link c).prev &&& ~~~(s.fencedLanes c) &&& ~~~(s.ownMask c)

theorem State.lockWait_over {s : State} {c : Nat} (h : s.pst c = psRETRAIN) (hnone : s.awaited c = 0) :
    s.lockWait c = s.train c := (if_neg (not_not.mpr h)).trans (if_pos hnone)

theorem State.lockWait_due {s : State} {c : Nat} (h : s.pst c = psRETRAIN) (hsome : s.awaited c ≠ 0)
    (hd : (s.link c).since + us 10 ≤ s.now) :
    s.lockWait c = ((s.setFld (statReg c) portStat_HWFENCE
      (s.fld (statReg c) portStat_HWFENCE ||| (s.awaited c).toNat)).lanesFenced c (s.awaited c)).train c :=
  (if_neg (not_not.mpr h)).trans ((if_neg hsome).trans (if_pos (decide_eq_true hd)))

end Sys2Proof.Machine

open Sys2Proof.Machine Sys2Proof

/-- Settles O43: each row by the state of its lane or port, and each timer once it is due. -/
theorem lanesAndTraining : Obligations.LanesAndTraining := by
  unfold Obligations.LanesAndTraining
  intro s l c t bl hl hc hs
  have hlane := decide_eq_true hl
  have hport := decide_eq_true hc
  refine ⟨fun hon hunts => ifWf_onLive hlane hs (State.laneLock_hunting hon hunts),
    fun hon hlock => ifWf_onLive hlane hs (State.lockLoss_locked hon hlock),
    fun ht hwf => ifWf_onLive hwf hs (State.markRound_trains ht bl),
    fun hst hok => ifWf_onLive hport hs ?_, fun hst hbad => ifWf_onLive hport hs ?_, fun hst hbad => ifWf_onLive hport hs ?_,
    fun hst hd => ifWf_onLive hport hs (State.mismatchEnd_due hst hd),
    fun hst hd => ifWf_onLive hport hs (State.trainLate_due (by simp [hst]) hd),
    fun hst hd hmay => ifWf_onLive hport hs (State.downEnd_due hst hd hmay),
    fun hst => ⟨fun hnone => ifWf_onLive hport hs (State.lockWait_over hst hnone),
      fun hsome hd => ifWf_onLive hport hs (State.lockWait_due hst hsome hd)⟩⟩
  · rw [State.trainRx_takes t (by simp [hst]), State.trainTake_passed hok]
  · rw [State.trainRx_takes t (by simp [hst]), State.trainTake_failed hbad, if_pos hst]
  · rw [State.trainRx_takes t (by simp [hst]), State.trainTake_failed hbad, if_neg (by simp [hst])]

end

section
/-! PROOF. What a port in UP does with control blocks, and its timers (R273, R284, R290 to R294, R297 to R302). -/

namespace Sys2Proof.Machine

/-! ### Control blocks -/

/-- START, once the port has been judged where it had to be (R290): a gap is asked for again, else the stream goes on from it. -/
def State.startFrom (s : State) (c n : Nat) : State :=
  if serialBefore (s.link c).eseq n then (s.setLink c (fun x => { x with resync := true })).pendCtl c (ctlLseq ctNAK (s.link c).eseq)
  else s.setLink c (fun x => { x with resync := false, cur := n })

/-- START goes on with what a judgement of the burst has left of the port, where that is in UP (R298, R299). -/
def State.startIfUp (s : State) (c n : Nat) : State := if s.up c then s.startFrom c n else s

theorem State.startRx_eq (s : State) (c n : Nat) :
    s.startRx c n = (if s.up c ∧ s.fld (statReg c) portStat_RXIDLE = 1 then s.judge c else s).startIfUp c n := by
  rw [State.startRx, State.startIfUp]
  cases (if s.up c ∧ s.fld (statReg c) portStat_RXIDLE = 1 then s.judge c else s).up c <;> rfl

theorem State.startRx_awake {s : State} {c : Nat} (n : Nat) (hup : s.up c = true) (hidle : s.fld (statReg c) portStat_RXIDLE = 0) :
    s.startRx c n = s.startFrom c n := by
  rw [State.startRx_eq, if_neg (by simp [hidle])]
  exact if_pos hup

theorem State.startRx_idle {s : State} {c : Nat} (n : Nat) (hup : s.up c = true) (hidle : s.fld (statReg c) portStat_RXIDLE = 1) :
    s.startRx c n = (s.judge c).startIfUp c n := by
  rw [State.startRx_eq, if_pos ⟨hup, hidle⟩]

theorem State.creditRx_up {s : State} {c : Nat} (ch g : Nat) (hup : s.up c = true) :
    s.creditRx c ch g = s.setLink c (fun x => { x with granted := x.granted.set ch g }) := if_pos hup

/-- An ACK of a packet that is held frees it and those sent before it (R291, R292). -/
theorem State.ackRx_held {s : State} {c n : Nat} {r : Rep} (hup : s.up c = true) (hr : r ∈ s.sw.replay) (hport : r.port = c)
    (hseq : r.lseq = n) :
    s.ackRx c n = State.setLink { s with sw := { s.sw with replay := s.sw.replay.filter (fun r =>
        !(decide (r.port = c) && (decide (r.lseq = n) || serialBefore r.lseq n))) } } c
      (fun x => { x with ackAt := s.now, repN := 0 }) :=
  (if_neg (by simp [hup])).trans (if_pos (List.any_eq_true.mpr ⟨r, hr, by simp [hport, hseq]⟩))

theorem State.nakRx_up {s : State} {c : Nat} (n : Nat) (hup : s.up c = true) : s.nakRx c n = s.replayFrom c n := if_pos hup

theorem State.idleRx_up {s : State} {c : Nat} (off : Bool) (hup : s.up c = true) :
    s.idleRx c off = if off then s.park c else s.rxIdle c := if_neg (by simp [hup])

/-! ### Timers of a port in UP -/

theorem State.creditsAgain_due {s : State} {c : Nat} (hup : s.up c = true) (hd : (s.link c).refAt + us 1 ≤ s.now) :
    s.creditsAgain c = (portChans c).foldl (fun s ch => s.pendCtl c (ctlCredit ch (nthD (s.link c).grantG ch)))
      (s.setLink c (fun x => { x with refAt := s.now })) := if_pos ⟨hup, decide_eq_true hd⟩

theorem State.ctlForced_awake {s : State} {c : Nat} (hup : s.up c = true) (hidle : s.fld (statReg c) portStat_TXIDLE = 0) :
    s.ctlForced c = ((s.link c).ctl.filter (fun b => decide (b.2 + ns 64 ≤ s.now))).foldl (fun s b => s.linkEmit c (.ctl c b.1))
      (s.setLink c (fun x => { x with ctl := x.ctl.filter (fun b => !decide (b.2 + ns 64 ≤ s.now)) })) := if_pos ⟨hup, hidle⟩

theorem State.replayLate_due {s : State} {c : Nat} (hup : s.up c = true) (hheld : (s.unacked c).isEmpty = false)
    (hd : (s.link c).ackAt + s.replayTime c ≤ s.now) : s.replayLate c = s.replayFrom c (s.oldest c) :=
  if_pos ⟨hup, by simp [hheld], decide_eq_true hd⟩

theorem State.linkLost_holds {s : State} {c : Nat} {x : LossCause} (h : s.lossHolds c x = true) :
    s.linkLost c x = s.portLoss c psDOWN := if_pos h

/-- A control block that waits ends announced idle (R298). -/
theorem State.exitIdle_pending {s : State} {c : Nat} (hup : s.up c = true) (hidle : s.fld (statReg c) portStat_TXIDLE = 1)
    (hctl : (s.link c).ctl.isEmpty = false) :
    s.exitIdle c = ((s.setFld (statReg c) portStat_TXIDLE 0).emit
      (.burst c (BitVec.ofNat 16 (s.fld (statReg c) portStat_ACTIVE)) (s.link c).next)).setLink c
        (fun x => { x with lastTx := s.now, txAt := s.now + ns 128, txN := 0 }) :=
  if_pos ⟨hup, hidle, .inr (by simp [hctl])⟩

end Sys2Proof.Machine

open Sys2Proof.Machine Sys2Proof

/-- Settles O44: what the port holds decides on START and ACK; every other control block does one thing on a port in UP. -/
theorem controlBlocks : Obligations.ControlBlocks := by
  unfold Obligations.ControlBlocks
  intro s c ch n g hc hch _ hs hup start
  have hport := decide_eq_true hc
  exact ⟨⟨fun hidle => ifWf_onLive hport hs (State.startRx_awake n.toNat hup hidle),
      fun hidle => ifWf_onLive hport hs (State.startRx_idle n.toNat hup hidle)⟩,
    ifWf_onLive (decide_eq_true ⟨hc, by omega⟩) hs (State.creditRx_up ch g.toNat hup),
    fun r hr hrport hseq => ifWf_onLive hport hs (State.ackRx_held hup hr hrport hseq),
    ifWf_onLive hport hs (State.nakRx_up n.toNat hup),
    ifWf_onLive hport hs (State.idleRx_up false hup), ifWf_onLive hport hs (State.idleRx_up true hup)⟩

/-- Settles O46: what each timer leaves once it is due. -/
theorem linkTimers : Obligations.LinkTimers := by
  unfold Obligations.LinkTimers
  intro s c x hc hs
  have hport := decide_eq_true hc
  exact ⟨fun hup => ⟨fun hd => ifWf_onLive hport hs (State.creditsAgain_due hup hd),
      fun hidle => ifWf_onLive hport hs (State.ctlForced_awake hup hidle)⟩,
    fun hup hheld hd => ifWf_onLive hport hs (State.replayLate_due hup hheld hd),
    fun hloss => ifWf_onLive hport hs (State.linkLost_holds hloss),
    fun hmay => ifWf_onLive hport hs (if_pos hmay),
    fun hup hidle hctl => ifWf_onLive hport hs (State.exitIdle_pending hup hidle hctl)⟩

end

section
/-! PROOF. Packets received on a link: the one that fails its link CRC, the duplicate and the next in sequence, and what accepting
one leaves alone (R290, R291). -/

namespace Sys2Proof.Machine

/-! ### One packet in clear -/

/-- Without events of its lanes, a port in UP outside announced idle takes the packet delimited. -/
theorem State.linkRx_plain {s : State} {c : Nat} (b : List Byte) (hup : s.up c = true)
    (hidle : s.fld (statReg c) portStat_RXIDLE = 0) : s.linkRx c [b] none [] = s.plainPkt c b := by
  have hburst : s.burstEnd c = s := State.burstEnd_awake (by simp [hidle])
  simp [State.linkRx, State.laneWork, hburst, hup, hidle]

theorem State.plainPkt_badCrc {s : State} {c : Nat} {b : List Byte} (hsync : (s.link c).resync = false)
    (h : ∀ p, Pkt.parse b ≠ some (p, true)) : s.plainPkt c b = s.lcrcFail c := by
  rw [State.plainPkt, hsync, if_neg Bool.false_ne_true]
  split
  · next p hp => exact absurd hp (h p)
  · rfl

/-- A packet of a slice that is not confidential is taken by its place in the sequence. -/
theorem State.plainPkt_clear {s : State} {c : Nat} {b : List Byte} {p : Pkt} (hsync : (s.link c).resync = false)
    (hp : Pkt.parse b = some (p, true)) (hconf : s.conf (if c < 12 then s.edgeSlice c p else p.h.slice.toNat) = false) :
    s.plainPkt c b = if serialBefore (s.link c).cur (s.link c).eseq then
        (s.setLink c (fun x => { x with cur := (x.cur + 1) % 65536 })).pendCtl c (ctlLseq ctACK ((s.link c).eseq + 65535))
      else s.acceptPkt c p := by
  simp [State.plainPkt, State.seqPkt, hsync, hp, hconf]

/-! ### The frame of accepting a packet -/

/-- `t` holds what `s` holds outside its registers, its links and its records of events and outputs: the deep store, the switch core,
the commands, the moves, the galleries, the management plane and the keys. -/
structure State.SameWork (s t : State) : Prop where
  st   : t.st = s.st
  sw   : t.sw = s.sw
  tp   : t.tp = s.tp
  mv   : t.mv = s.mv
  gals : t.gals = s.gals
  mg   : t.mg = s.mg
  sec  : t.sec = s.sec

theorem State.SameWork.refl (s : State) : s.SameWork s := ⟨rfl, rfl, rfl, rfl, rfl, rfl, rfl⟩

theorem State.SameWork.trans {s t u : State} (h : s.SameWork t) (h' : t.SameWork u) : s.SameWork u :=
  ⟨h'.st.trans h.st, h'.sw.trans h.sw, h'.tp.trans h.tp, h'.mv.trans h.mv, h'.gals.trans h.gals, h'.mg.trans h.mg,
    h'.sec.trans h.sec⟩

theorem State.SameWork.ite {s t u : State} {p : Prop} [Decidable p] (ht : s.SameWork t) (hu : s.SameWork u) :
    s.SameWork (if p then t else u) := by
  split
  · exact ht
  · exact hu

theorem State.sameWork_foldl {α : Type} {f : State → α → State} (hf : ∀ s a, State.SameWork s (f s a)) (l : List α) (s : State) :
    s.SameWork (l.foldl f s) := by
  induction l generalizing s with
  | nil => exact .refl s
  | cons a l ih => exact (hf s a).trans (ih (f s a))

theorem State.sameWork_setReg (s : State) (r : Reg) (v : Word) : s.SameWork (s.setReg r v) := ⟨rfl, rfl, rfl, rfl, rfl, rfl, rfl⟩
theorem State.sameWork_setLink (s : State) (c : Nat) (f : Link → Link) : s.SameWork (s.setLink c f) :=
  ⟨rfl, rfl, rfl, rfl, rfl, rfl, rfl⟩
theorem State.sameWork_pendCtl (s : State) (c : Nat) (b : BitVec 64) : s.SameWork (s.pendCtl c b) :=
  ⟨rfl, rfl, rfl, rfl, rfl, rfl, rfl⟩
theorem State.sameWork_portEvent (s : State) (c code : Nat) : s.SameWork (s.portEvent c code) := ⟨rfl, rfl, rfl, rfl, rfl, rfl, rfl⟩

theorem State.sameWork_snoop (s : State) (st idx : Nat) (p : Pkt) : s.SameWork (s.snoop st idx p) := by
  refine State.sameWork_foldl (fun t _ => ?_) _ s
  exact .ite ⟨rfl, rfl, rfl, rfl, rfl, rfl, rfl⟩ (.refl t)

/-- Credits granted again are counters of the link and control blocks that wait (R284, R285). -/
theorem State.sameWork_regrant (s : State) (c : Nat) : s.SameWork (s.regrant c) :=
  State.sameWork_foldl (fun t _ => .ite (.refl t) ((t.sameWork_setLink c _).trans (State.sameWork_pendCtl ..))) _ s

theorem State.sameWork_seenBy (s : State) (c : Nat) (p : Pkt) : s.SameWork (s.seenBy c p) := .ite (s.sameWork_setReg ..) (.refl s)

/-- The state with `e` behind the other entries of its receive stage. -/
def State.withRx (s : State) (e : RxEnt) : State := { s with sw := { s.sw with rx := s.sw.rx ++ [e] } }

theorem State.SameWork.withRx {s t : State} (h : s.SameWork t) (e : RxEnt) : (s.withRx e).SameWork (t.withRx e) :=
  ⟨h.st, by rw [State.withRx, State.withRx, h.sw], h.tp, h.mv, h.gals, h.mg, h.sec⟩

/-- A packet accepted enters the receive stage, or as a malformed one does not; nothing else of the work in hand changes. -/
theorem State.acceptPkt_work (s : State) (c : Nat) (p : Pkt) :
    s.SameWork (s.acceptPkt c p) ∨ ∃ e, e.pkt = p ∧ e.port = c ∧ (s.withRx e).SameWork (s.acceptPkt c p) := by
  have htel (t : State) (d : Prop) [Decidable d] (r : Reg) (v : Word) : t.SameWork (if d then t.setReg r v else t) :=
    .ite (t.sameWork_setReg r v) (.refl t)
  unfold State.acceptPkt
  extract_lets l s1 sl tel s2 e _
  have h2 : s.SameWork s2 :=
    ((((s.sameWork_setLink c _).trans (State.sameWork_pendCtl ..)).trans (htel ..)).trans (htel ..)).trans
      (State.sameWork_snoop ..)
  split
  · exact .inl ((h2.trans (s2.sameWork_portEvent c _)).trans (State.sameWork_regrant ..))
  · exact .inr ⟨e, rfl, rfl, (h2.withRx e).trans ((State.sameWork_seenBy _ c p).trans (State.sameWork_regrant ..))⟩

end Sys2Proof.Machine

open Sys2Proof.Machine Sys2Proof

/-- Settles O45: a packet is taken by its CRC and its place in the sequence, and accepting one only adds to the receive stage. -/
theorem linkPacketsReceived : Obligations.LinkPacketsReceived := by
  unfold Obligations.LinkPacketsReceived
  refine ⟨fun s c b _ hwf hs hup hidle hsync => ?_, fun s c p => ?_⟩
  · have hrx := State.linkRx_plain b hup hidle
    refine ⟨fun hbad => ifWf_onLive hwf hs (hrx.trans (State.plainPkt_badCrc hsync hbad)), fun p hp hconf => ?_⟩
    have hclear := State.plainPkt_clear hsync hp hconf
    exact ⟨fun hdup => ifWf_onLive hwf hs (hrx.trans (hclear.trans (if_pos hdup))),
      fun hnext => ifWf_onLive hwf hs (hrx.trans (hclear.trans (if_neg (by simp [hnext]))))⟩
  · rcases s.acceptPkt_work c p with h | ⟨e, hpkt, hport, h⟩
    · exact ⟨h.st, h.tp, h.mv, h.gals, h.mg, h.sec, by rw [h.sw], by rw [h.sw], .inl (by rw [h.sw])⟩
    · exact ⟨h.st, h.tp, h.mv, h.gals, h.mg, h.sec, by rw [h.sw]; rfl, by rw [h.sw]; rfl,
        .inr ⟨e, by rw [h.sw]; rfl, hpkt, hport⟩⟩

end

section
/-! PROOF. EPOCH_CTL at a node (R366), and what the coordinating node does with a reply, a request left unanswered and the drain
limit (R367, R368). -/

namespace Sys2Proof.Machine

/-! ### What a request leaves in DX_ROUTE_CTL -/

/-- PREPARED for the coordinating node `co`. -/
def State.prepared (s : State) (co : Nat) : State := (s.setFld .routeCtl routeCtl_PHASE 1).setFld .routeCtl routeCtl_COORD co

/-- SWITCHED, with the epoch `target` active and the other still live. -/
def State.switched (s : State) (target : Nat) : State :=
  ((s.setFld .routeCtl routeCtl_ACTIVE target).setFld .routeCtl routeCtl_OLDLIVE 1).setFld .routeCtl routeCtl_PHASE 2

/-- The old epoch given up, and no swap under way. -/
def State.retired (s : State) : State :=
  (((s.setFld .routeCtl routeCtl_OLDLIVE 0).setFld .routeCtl routeCtl_LOADED 0).setFld .routeCtl routeCtl_PHASE 0).setFld
    .routeCtl routeCtl_COORD 0

theorem State.routeCtl_prepared (s : State) {co : Nat} (hco : co < 4096) :
    (s.prepared co).swPhase = 1 ∧ (s.prepared co).fld .routeCtl routeCtl_COORD = co ∧ (s.prepared co).active = s.active := by
  simp (disch := decide) [State.prepared, State.swPhase, State.active, State.fld_setFld_apart, State.fld_setFld_same,
    Nat.mod_eq_of_lt hco]

theorem State.routeCtl_switched (s : State) {target : Nat} (ht : target < 2) :
    (s.switched target).swPhase = 2 ∧ (s.switched target).active = target
      ∧ (s.switched target).fld .routeCtl routeCtl_OLDLIVE = 1 := by
  simp (disch := decide) [State.switched, State.swPhase, State.active, State.fld_setFld_apart, State.fld_setFld_same,
    Nat.mod_eq_of_lt ht]

theorem State.routeCtl_retired (s : State) :
    s.retired.swPhase = 0 ∧ s.retired.fld .routeCtl routeCtl_OLDLIVE = 0 ∧ s.retired.fld .routeCtl routeCtl_LOADED = 0
      ∧ s.retired.active = s.active := by
  simp (disch := decide) [State.retired, State.swPhase, State.active, State.fld_setFld_apart, State.fld_setFld_same]

/-! ### The four requests, obeyed or refused -/

/-- A reply is a packet handed to injection: it changes no register. -/
@[simp] theorem State.reg_epochReply (s : State) (p : Pkt) (rcode seen old : Nat) (r : Reg) :
    (s.epochReply p rcode seen old).reg r = s.reg r := rfl

@[simp] theorem State.fld_epochReply (s : State) (p : Pkt) (rcode seen old : Nat) (r : Reg) (q : Pos) :
    (s.epochReply p rcode seen old).fld r q = s.fld r q := rfl

@[simp] theorem State.swPhase_epochReply (s : State) (p : Pkt) (rcode seen old : Nat) :
    (s.epochReply p rcode seen old).swPhase = s.swPhase := rfl

@[simp] theorem State.active_epochReply (s : State) (p : Pkt) (rcode seen old : Nat) :
    (s.epochReply p rcode seen old).active = s.active := rfl

theorem State.swPrepare_obeyed {s : State} {e : InEnt} (hen : s.fld .routeCtl routeCtl_EN = 1)
    (hload : s.fld .routeCtl routeCtl_LOADED = 1) (hact : s.active ≠ bytesNat (slice e.pkt.pay 1 1))
    (ht : bytesNat (slice e.pkt.pay 1 1) < 2) (hold : s.fld .routeCtl routeCtl_OLDLIVE = 0) (hph : s.swPhase = 0) :
    s.swPrepare e = (s.prepared (bytesNat (slice e.pkt.pay 10 2) % 4096)).epochReply e.pkt 0 0 0 :=
  if_pos ⟨hen, hload, hact, ht, hold, hph⟩

section
variable {s : State} {e : InEnt}

theorem State.swSwitch_obeyed (hph : s.swPhase = 1) (hmine : s.swMine e.pkt = true) :
    s.swSwitch e = (s.switched (bytesNat (slice e.pkt.pay 1 1))).epochReply e.pkt 0 0 0 :=
  (if_neg (by simp [hph, hmine])).trans (if_pos hph)

theorem State.swPoll_obeyed (hph : s.swPhase = 2) (hmine : s.swMine e.pkt = true) :
    s.swPoll e = (s.setFld .epochCnt epochCnt_SEEN 0).epochReply e.pkt 0 (s.fld .epochCnt epochCnt_SEEN)
      (min s.oldCount (2 ^ 32 - 1)) := if_neg (by simp [hph, hmine])

theorem State.swRetire_obeyed (hph : s.swPhase = 2) (hmine : s.swMine e.pkt = true) :
    s.swRetire e = s.retired.epochReply e.pkt 0 0 0 := if_neg (by simp [hph, hmine])

/-- A request of another coordinating node while a swap is under way: PREPARE is answered BUSY, the others NOTREADY (R366). -/
theorem State.swRequests_refused (hmine : s.swMine e.pkt = false) (hph : s.swPhase ≠ 0) :
    s.swPrepare e = s.epochReply e.pkt 2 0 0 ∧ s.swSwitch e = s.epochReply e.pkt 1 0 0
      ∧ s.swPoll e = s.epochReply e.pkt 1 0 0 ∧ s.swRetire e = s.epochReply e.pkt 1 0 0 := by
  refine ⟨?_, if_pos (.inr (by simp [hmine])), if_pos (.inr (by simp [hmine])), if_pos (.inr (by simp [hmine]))⟩
  calc s.swPrepare e
      = if s.swPhase ≠ 0 ∧ s.swMine e.pkt ∧ s.liveAgrees (bytesNat (slice e.pkt.pay 1 1)) then s.epochReply e.pkt 0 0 0
        else if s.swPhase ≠ 0 ∧ !s.swMine e.pkt then s.epochReply e.pkt 2 0 0 else s.epochReply e.pkt 1 0 0 :=
        if_neg (by simp [hph])
    _ = s.epochReply e.pkt 2 0 0 := (if_neg (by simp [hmine])).trans (if_pos ⟨hph, by simp [hmine]⟩)

end

/-! ### The coordinating node -/

/-- A row of received packets acts on the oldest that it may take, taken. -/
theorem State.rxRow_oldest {s : State} {p : Pkt → Bool} {e : InEnt} (f : State → InEnt → State) (h : s.oldestRx p = some e) :
    s.rxRow p f = f (s.rxTaken p) e := by
  have hfind : s.sw.inbox.find? (fun e => s.runs e.part && p e.pkt && !s.ordHeld e.pkt && !s.suspBehind e) = some e := h
  simp only [State.rxRow, hfind]
  rfl

section
variable {s : State} {w : Swap} {r : EpReq} {n : Nat}

/-- A request late a second time fails the swap (R368). -/
theorem State.swapLate_fails (hw : s.mg.swap = some w) (hr : w.reqs.find? (fun x => x.node = n) = some r)
    (hd : r.sentAt + us 100 ≤ s.now) (ha : r.again = true) : s.swapLate n = s.swapEnd 4 n stTGTTO (16 * n + 14) := by
  simp [State.swapLate, hw, hr, hd, ha]

/-- One late for the first time is sent once more (R368). -/
theorem State.swapLate_resends (hw : s.mg.swap = some w) (hr : w.reqs.find? (fun x => x.node = n) = some r)
    (hd : r.sentAt + us 100 ≤ s.now) (ha : r.again = false) :
    let w1 : Swap := { w with
      reqs := updFirst (fun x => x.node = n) (fun x => { x with sentAt := s.now, again := true }) w.reqs }
    s.swapLate n = (s.setSwap (some w1)).epochSend w1 n := by
  simp [State.swapLate, hw, hr, hd, ha]

theorem State.swapLimit_due (hw : s.mg.swap = some w) (hph : w.phase = epPOLL) (hd : w.switchAt + w.drain ≤ s.now) :
    let node := ((w.worst ++ w.curW).getD (s.draw.1 % (w.worst ++ w.curW).length) s.draw.1) % 4096
    s.swapLimit = s.draw.2.swapEnd 5 node stTRANSTO (16 * node + 14) := by
  rw [State.swapLimit, hw]
  exact if_neg (by simp [hph, hd])

end

end Sys2Proof.Machine

open Sys2Proof.Machine Sys2Proof

/-- Settles O54: a node obeys or refuses a request by PHASE and COORD, and the coordinating node's timers act once they are due. -/
theorem epochSwap : Obligations.EpochSwap := by
  unfold Obligations.EpochSwap
  refine ⟨fun s e => ⟨fun hen hload hact ht hold hph => ?_, fun hph hmine ht => ?_, fun hph hmine => ⟨?_, ?_, ?_⟩,
    State.swRequests_refused⟩, fun s w r e hs hw => ⟨fun h => ?_, fun hr hd hn => ⟨fun ha => ?_, fun ha => ?_⟩,
    fun hph hd => ?_⟩⟩
  · rw [State.swPrepare_obeyed hen hload hact ht hold hph]
    simpa using s.routeCtl_prepared (Nat.mod_lt _ (by decide))
  · rw [State.swSwitch_obeyed hph hmine]
    simpa using s.routeCtl_switched ht
  · rw [State.swPoll_obeyed hph hmine, State.fld_epochReply, State.fld_setFld_of_lt _ _ (by decide) (by decide)]
  · rw [State.swPoll_obeyed hph hmine, State.reg_epochReply, State.setFld, State.reg_setReg_ne _ _ (by decide)]
  · rw [State.swRetire_obeyed hph hmine]
    simpa using s.routeCtl_retired
  · exact next_onLive hs (State.rxRow_oldest _ h)
  · exact ifWf_onLive (decide_eq_true hn) hs (State.swapLate_fails hw hr hd ha)
  · exact ifWf_onLive (decide_eq_true hn) hs (State.swapLate_resends hw hr hd ha)
  · exact next_onLive hs (State.swapLimit_due hw hph hd)

end

section
/-! PROOF. Management commands that an engine runs: what their operands let them do, and how an exchange with the mailbox ends
(R367, R415, R423, R481, R512, R514, R544, R548, R549). -/

namespace Sys2Proof.Machine

/-! ### Commands handed to their engine -/

section
variable {s : State} {c : Cmd}

/-- SCRUB of whole tiles within the general area or the crash-dump area (R415). -/
theorem State.runScrub_taken (ha : c.fld 2 0 40 % 4096 = 0) (hn : c.fld 3 0 40 % 4096 = 0) (hpos : 0 < c.fld 3 0 40)
    (harea : (0x20000000 ≤ c.fld 2 0 40 ∧ c.fld 2 0 40 + c.fld 3 0 40 ≤ dsEnd)
      ∨ (0x10000000 ≤ c.fld 2 0 40 ∧ c.fld 2 0 40 + c.fld 3 0 40 ≤ 0x14000000)) :
    State.runScrub c s = s.scrubAdd (c.fld 2 0 40) (c.fld 3 0 40) (some c) := by
  refine State.mgmtRange_taken ?_
  simp only [ha, hn, Nat.ne_of_gt hpos, harea]
  rfl

/-- SCAN_CRC of bytes within the store (R423). -/
theorem State.runScan_taken (hpos : 0 < c.fld 3 0 40) (hend : c.fld 2 0 40 + c.fld 3 0 40 ≤ dsEnd) :
    State.runScan c s = s.scanAdd (c.fld 2 0 40) (c.fld 3 0 40) (c.fld 4 0 2) (some c) := by
  have hlen : ¬ dsEnd < c.fld 3 0 40 := by omega
  refine State.mgmtRange_taken ?_
  simp only [Nat.ne_of_gt hpos, hlen, Nat.not_lt.mpr hend]
  rfl

/-- ATTEST with aligned addresses and lengths that the mailbox holds (R512). -/
theorem State.runAttest_taken (hreq : c.w2.toNat % 8 = 0) (hrsp : c.w3.toNat % 8 = 0) (hpos : 1 ≤ c.fld 4 0 16)
    (hlen : c.fld 4 0 16 ≤ 32704) (hcap : c.fld 4 16 16 ≤ 32768) :
    State.runAttest c s = State.attNext { s with mg := { s.mg with engAtt := s.mg.engAtt ++ [c] } } := by
  refine State.mgmtRange_taken ?_
  simp only [hreq, hrsp, Nat.ne_of_gt hpos, Nat.not_lt.mpr hlen, Nat.not_lt.mpr hcap]
  rfl

/-- DUMP of one of the six partitions (R481). -/
theorem State.runDump_taken (hn : c.fld 2 0 3 < 6) :
    State.runDump c s = State.dumpNext { s with mg := { s.mg with engDump := s.mg.engDump ++ [(c.fld 2 0 3, some c)] } } := by
  refine State.mgmtRange_taken ?_
  simp only [Nat.not_le.mpr hn]
  rfl

end

/-! ### The answer to an activation, and its limit (R548, R549) -/

section
variable {s : State} {a : Att} {c : Cmd}

theorem State.fwAnswer_refused (ha : s.mg.att = some a) (hc : a.cmd = some c) (hfw : a.fw = true) (hst : a.stage = 3) :
    s.fwAnswer true = ((s.setAtt none).setInterp .running).mgmtEp c stKEY := by
  simp [State.fwAnswer, ha, hc, hfw, hst]

theorem State.fwAnswer_response (ha : s.mg.att = some a) (hfw : a.fw = true) (hst : a.stage = 3) :
    s.fwAnswer false = (((s.mgWrite s.mbox (mboxWord0 a.seq 0 a.subop a.len) .drop).setAtt (some { a with stage := 6 })).setInterp
      .starting).setReg .hb 0 := by
  simp [State.fwAnswer, ha, hfw, hst]

theorem State.fwLate_due (ha : s.mg.att = some a) (hc : a.cmd = some c) (hfw : a.fw = true) (hst : a.stage ≤ 3)
    (hd : a.start + ms 1 ≤ s.now) : s.fwLate = ((s.setAtt none).setInterp .halted).mgmtEp c stTGTTO := by
  simp [State.fwLate, ha, hc, hfw, hst, hd]

/-! ### Polls of the mailbox by an ATTEST, and its limit (R514) -/

/-- What a poll that is due makes of the STATE and RLEN it reads. -/
theorem State.attPoll_due (w0 w1 : Word) (ha : s.mg.att = some a) (hfw : a.fw = false) (hst : a.stage = 3)
    (hd : a.pollAt + us 1 ≤ s.now) :
    (nfld w0.toNat 16 4 = 3 → s.attPoll w0 w1 = s.attEnd false stKEY (s.ep 14))
    ∧ (nfld w0.toNat 16 4 = 2 → nfld w1.toNat 0 32 = 0 → s.attPoll w0 w1 = s.attEnd true stDONE 0)
    ∧ (nfld w0.toNat 16 4 < 2 → s.attPoll w0 w1 = s.setAtt (some { a with pollAt := s.now })) := by
  refine ⟨fun hrefused => ?_, fun hanswered hempty => ?_, fun hwaits => ?_⟩
  · simp [State.attPoll, ha, hfw, hst, hd, hrefused]
  · simp [State.attPoll, ha, hfw, hst, hd, hanswered, hempty]
  · have hne3 : nfld w0.toNat 16 4 ≠ 3 := by omega
    have hne2 : nfld w0.toNat 16 4 ≠ 2 := by omega
    simp [State.attPoll, ha, hfw, hst, hd, hne3, hne2]

theorem State.attLate_due (ha : s.mg.att = some a) (hfw : a.fw = false) (hst : a.stage = 3) (hd : a.start + ms 500 ≤ s.now) :
    s.attLate = s.attEnd true stTGTTO (s.ep 14) := by
  simp [State.attLate, ha, hfw, hst, hd]

end

end Sys2Proof.Machine

open Sys2Proof.Machine Sys2Proof

/-- Settles O40: operands in range pass every check, and the stage and the limits of an exchange pick the branch of its row. -/
theorem engineCommands : Obligations.EngineCommands := by
  unfold Obligations.EngineCommands
  refine ⟨fun s c hs hc => ⟨fun ho hnone => ?_, fun ho ha hn hpos harea => ?_, fun ho hpos hend => ?_, fun ho hn => ?_,
    fun ho hreq hrsp hpos hlen hcap x hx hsub => ?_, fun ho hatt hnone => ?_⟩,
    fun s a c w0 w1 hs ha hc => ⟨fun hfw hst => ⟨?_, ?_⟩, fun hfw hst hd => ?_, fun hfw hst => ⟨fun hd => ?_, fun hd => ?_⟩⟩⟩
  · refine next_mgmtRow hs hc (decide_eq_true ho) ?_
    have htaken : s.mgmtTaken.mg.engSwap = [] := hnone
    rw [State.runEpochSwap, htaken]
    rfl
  · exact next_mgmtRow hs hc (decide_eq_true ho) (State.runScrub_taken ha hn hpos harea)
  · exact next_mgmtRow hs hc (decide_eq_true ho) (State.runScan_taken hpos hend)
  · exact next_mgmtRow hs hc (decide_eq_true ho) (State.runDump_taken hn)
  · have htaken := State.runAttest_taken (s := s.mgmtTaken) hreq hrsp hpos hlen hcap
    simp only [List.mem_cons, List.not_mem_nil, or_false] at hx
    rcases hx with rfl | rfl
    · exact next_mgmtRow hs hc (decide_eq_true ⟨ho, hsub⟩) htaken
    · exact next_mgmtRow hs hc (decide_eq_true ⟨ho, hsub⟩) htaken
  · have hfree : s.mg.att.isNone ∧ s.mg.engAtt.isEmpty := by simp [hatt, hnone]
    exact next_onLive hs ((if_pos hfree).trans (State.mgmtRow_of_starts _ hc (decide_eq_true ho)))
  · exact next_onLive hs (State.fwAnswer_refused ha hc hfw hst)
  · exact next_onLive hs (State.fwAnswer_response ha hfw hst)
  · exact next_onLive hs (State.fwLate_due ha hc hfw hst hd)
  · obtain ⟨hrefused, hempty, hwaits⟩ := State.attPoll_due w0 w1 ha hfw hst hd
    exact ⟨fun h => next_onLive hs (hrefused h), fun h hlen => next_onLive hs (hempty h hlen), fun h => next_onLive hs (hwaits h)⟩
  · exact next_onLive hs (State.attLate_due ha hfw hst hd)

end

section
/-! PROOF. REG_READ and the rows of REG_WRITE: that each write is the one of a single row, what such a row answers, and the field
that a refusal names (R347, R515, R543; log entry 32). -/

namespace Sys2Proof.Machine

/-! ### The field that a refusal names -/

/-- A word whose set bits lie at `n` and above has its lowest one there. -/
theorem le_lowBit {w : Word} {n : Nat} (hne : w ≠ 0) (hlow : ∀ i < n, w.getLsbD i = false) : n ≤ lowBit w := by
  unfold lowBit
  cases hfind : (List.range 64).find? (fun i => w.getLsbD i) with
  | none =>
    refine absurd (BitVec.eq_of_getLsbD_eq fun i hi => ?_) hne
    simpa using List.find?_eq_none.mp hfind i (List.mem_range.mpr hi)
  | some i =>
    have hset : w.getLsbD i = true := List.find?_some hfind
    refine Nat.le_of_not_lt fun hi => ?_
    simp [hlow i hi] at hset

/-- The bits of a word outside its low 16. -/
theorem getLsbD_outside_low16 (v : Word) {i : Nat} (hi : i < 64) :
    (outside [⟨0, 16⟩] v).getLsbD i = (v.getLsbD i && !decide (i < 16)) := by
  simp only [outside, List.foldl_cons, List.foldl_nil, BitVec.getLsbD_and, BitVec.getLsbD_not, BitVec.getLsbD_or,
    getLsbD_fmask _ hi, hi]
  simp

/-- In a word with a field of 16 bits alone, a set bit above it lies in a reserved field, which starts at byte 2. -/
theorem badBits_low16 {v : Word} (at' : Nat) (hv : 0x10000 ≤ v.toNat) : badBits [⟨0, 16⟩] v at' = some (2, at' + 2) := by
  obtain ⟨i, hi, hbit⟩ := Nat.exists_ge_and_testBit_of_ge_two_pow (n := 16) hv
  have hlt : i < 64 := BitVec.lt_of_getLsbD hbit
  have hne : outside [⟨0, 16⟩] v ≠ 0 := by
    intro h
    have hzero := getLsbD_outside_low16 v hlt
    have hset : v.getLsbD i = true := hbit
    simp [h, hset, Nat.not_lt.mpr hi] at hzero
  have hlow : 16 ≤ lowBit (outside [⟨0, 16⟩] v) :=
    le_lowBit hne fun j hj => by simp [getLsbD_outside_low16 v (show j < 64 by omega), hj]
  rw [badBits, if_neg hne]
  simp [fieldByte, cutsOf, hlow]

theorem regReason_of_not_rtab {r : Reg} (v : Word) (h : ∀ e w, r ≠ .rtab e w) : regReason r v = (3, 24) := by
  unfold regReason
  split
  case h_1 e w => exact absurd rfl (h e w)
  case h_2 => rfl

/-- The parameter word of a table set has a field of 16 bits alone (R346, R347). -/
theorem regReason_parameterWord {v : Word} (e : Nat) (hv : 0x10000 ≤ v.toNat) : regReason (.rtab e 0x2040) v = (2, 26) := by
  simp [regReason, rtabBad, badBits_low16 24 hv]

/-! ### The row of a write -/

/-- The word written picks the row of DX_SDB_CMD and of DX_PSTATE; that of any other register is picked by its name. -/
theorem length_regRows_filter (r : Reg) (v : Word) : (regRows.filter (fun x => x.2 r v)).length = 1 := by
  cases r
  case sdbCmd => by_cases h : fget v sdbCmd_GO = 1 <;> simp [regRows, regHasRow, h]
  case pstate n =>
    have hlt : fget v pstate_REQ < 4 := Nat.mod_lt _ (by decide)
    interval_cases h : fget v pstate_REQ <;> simp [regRows, regHasRow, h]
  all_goals rfl

/-- Every row but the last runs the REG_WRITE fetched first where it is one that the row carries. -/
theorem exec_regRows_dropLast : regRows.dropLast.map (fun x => exec x.1)
    = regRows.dropLast.map (fun x s => .next (s.onLive (s.regRow x.2))) := rfl

theorem regRows_eq : regRows = regRows.dropLast ++ [(.regWrite, fun r v => !regHasRow r v)] := rfl

theorem State.writeWaits_reg {s : State} {c : Cmd} {r : Reg} (hr : cmdReg c = some r) : s.writeWaits c = heldByMirror s r := by
  rw [State.writeWaits, hr]

/-- A REG_WRITE that no mirror hold keeps back runs in the row that carries it. -/
theorem exec_regRow {s u : State} {c : Cmd} {r : Reg} {x : Instr × (Reg → Word → Bool)} (hs : s.isLive = true) (hc : s.starts c)
    (ho : c.opc = 0x81) (hr : cmdReg c = some r) (hheld : heldByMirror s r = false) (hx : x ∈ regRows) (hp : x.2 r c.w3 = true)
    (h : State.runRegWrite c s.mgmtTaken = u) : exec x.1 s = .next (s.after u) := by
  have hw : s.writeWaits c = false := (State.writeWaits_reg hr).trans hheld
  rw [regRows_eq, List.mem_append, List.mem_singleton] at hx
  rcases hx with hx | rfl
  · have hrow : exec x.1 s = .next (s.onLive (s.regRow x.2)) := congrFun (List.map_inj_left.mp exec_regRows_dropLast x hx) s
    rw [hrow]
    exact next_mgmtRowWait hs hc (by simp [cmdWrites, ho, hr, hp]) hw h
  · exact next_mgmtRowWait hs hc (by simpa [ho, hr] using hp) hw h

/-! ### What REG_READ and REG_WRITE answer -/

section
variable {s : State} {c : Cmd}

theorem State.runRegRead_unmapped (hr : cmdReg c = none) : State.runRegRead c s = s.mgmtRec c stFORMAT (resFmt 3 16) := by
  rw [State.runRegRead, hr]
  rfl

theorem State.runRegWrite_unmapped (hr : cmdReg c = none) : State.runRegWrite c s = s.mgmtRec c stFORMAT (resFmt 3 16) := by
  rw [State.runRegWrite, hr]
  rfl

variable {r : Reg}

theorem State.runRegRead_reg (hr : cmdReg c = some r) :
    State.runRegRead c s = (s.readReg r).2.mgmtRec c stDONE (s.readReg r).1.toNat := by
  rw [State.runRegRead, hr]

theorem State.runRegWrite_taken (hr : cmdReg c = some r) (h : s.regRefused r c.w3 = false) :
    State.runRegWrite c s = (s.regWrite r c.w3).mgmtRec c stDONE 0 := by
  rw [State.runRegWrite, hr]
  exact if_neg (by simp [h])

theorem State.runRegWrite_refused (hr : cmdReg c = some r) (h : s.regRefused r c.w3 = true) :
    State.runRegWrite c s
      = (s.refusedWrite r c.w3).mgmtRec c stFORMAT (resFmt (regReason r c.w3).1 (regReason r c.w3).2) := by
  rw [State.runRegWrite, hr]
  exact if_pos h

end

end Sys2Proof.Machine

open Sys2Proof.Machine Sys2Proof

/-- Settles O36: the row that carries a write runs it, and the register takes it or refuses it. -/
theorem registerCommands : Obligations.RegisterCommands := by
  unfold Obligations.RegisterCommands
  refine ⟨fun s c hs hc => ⟨fun hr x hx ho => ?_, fun r hr => ⟨fun ho => ?_, fun ho hheld x hx hp => ⟨fun h => ?_, fun h => ?_⟩,
    regReason_of_not_rtab c.w3, fun e he hv => ?_⟩⟩, length_regRows_filter⟩
  · simp only [List.mem_cons, List.not_mem_nil, or_false] at hx
    rcases hx with rfl | rfl
    · exact next_mgmtRow hs hc (decide_eq_true ho) (State.runRegRead_unmapped hr)
    · have hw : s.writeWaits c = false := by rw [State.writeWaits, hr]
      exact next_mgmtRowWait hs hc (by simp [ho, hr]) hw (State.runRegWrite_unmapped hr)
  · exact next_mgmtRow hs hc (decide_eq_true ho) (State.runRegRead_reg hr)
  · exact exec_regRow hs hc ho hr hheld hx hp (State.runRegWrite_taken hr h)
  · exact exec_regRow hs hc ho hr hheld hx hp (State.runRegWrite_refused hr h)
  · rw [he, regReason_parameterWord e hv]

end

section
/-! PROOF. The rows of congestion control once they are due: the rise of a rate entry, the release of a packet held for it, and
the opening of a gate (R384, R386, R388, R393). -/

namespace Sys2Proof.Machine

section
variable {s : State} {sl dst n : Nat} {e : Rate} {x : Inj}

/-- A rise that is due ends at RMAX, which frees the entry, or sets its rate anew (R384). -/
theorem State.rateUp_due (hnative : s.native = true) (he : s.rateOf sl dst = some e) (hdue : e.chg + s.ccTI ≤ s.fnow) :
    let r := min s.ccRMAX (s.clampR e.r + s.ccAI)
    s.rateUp sl dst = if r = s.ccRMAX
      then (s.noteRise e).setRates (dropFirst (fun y => decide (y.slice = sl ∧ y.dst = dst)) s.tp.rate)
      else (s.noteRise e).updRate sl dst (fun y => { y with r, chg := s.fnow, bucket := y.level s.fnow, fillAt := s.fnow }) := by
  rw [State.rateUp, he]
  exact if_neg (by simpa [hnative] using hdue)

/-- Is a packet held at injection by the rate entry of a slice and destination? -/
def Inj.heldBy (sl dst : Nat) (y : Inj) : Bool := y.shaped && decide (y.pkt.h.slice.toNat = sl ∧ y.pkt.h.dst.toNat = dst)

/-- The oldest packet held for an entry goes on where the bucket covers its length, which is taken from the bucket (R386). -/
theorem State.shaperOut_covered (he : s.rateOf sl dst = some e) (hx : s.sw.inj.find? (Inj.heldBy sl dst) = some x)
    (hcover : 1024 * x.pkt.size ≤ e.level s.fnow) :
    let u := s.updRate sl dst (fun y => { y with bucket := y.level s.fnow - 1024 * x.pkt.size, fillAt := s.fnow })
    s.shaperOut sl dst
      = { u with sw := { u.sw with inj := updFirst (Inj.heldBy sl dst) (fun y => { y with shaped := false }) u.sw.inj } } := by
  have hfind : s.sw.inj.find? (fun y => y.shaped && decide (y.pkt.h.slice.toNat = sl ∧ y.pkt.h.dst.toNat = dst)) = some x := hx
  simp only [State.shaperOut, he, hfind]
  exact if_neg (Nat.not_lt.mpr hcover)

/-- A gate whose output holds fewer than TLO tiles opens, THI being larger (R393). -/
theorem State.gateRefresh_below (hmode : s.throttle = true)
    (hlow : sumBy (fun q => s.qDepth n 0 q) [0, 1, 8, 9] < s.fld (.throt n) throt_TLO)
    (hband : s.fld (.throt n) throt_TLO < s.fld (.throt n) throt_THI) :
    s.gateRefresh n = s.setPart n (fun p => { p with gate := false }) := by
  have hnotFull : ¬ s.fld (.throt n) throt_THI ≤ sumBy (fun q => s.qDepth n 0 q) [0, 1, 8, 9] :=
    Nat.not_le.mpr (hlow.trans hband)
  rw [State.gateRefresh, if_neg (by simp [hmode])]
  exact (if_neg hnotFull).trans (if_pos hlow)

end

end Sys2Proof.Machine

open Sys2Proof.Machine Sys2Proof

/-- Settles O55: each row takes the branch of its function that acts, once the entry, the bucket or the queue is as the row wants. -/
theorem congestionRows : Obligations.CongestionRows := by
  unfold Obligations.CongestionRows
  intro s sl dst n e x hsl hdst hn hs
  have hrange : decide (sl < 64 ∧ dst < 65536) = true := decide_eq_true ⟨hsl, hdst⟩
  refine ⟨fun hnative he hdue => ?_, fun he hx hcover => ?_, fun hgate hmode hlow hband => ?_⟩
  · exact ifWf_onLive hrange hs (State.rateUp_due hnative he hdue)
  · exact ifWf_onLive hrange hs (State.shaperOut_covered he hx hcover)
  · exact ifWf_onLive (decide_eq_true hn) hs ((if_pos hgate).trans (State.gateRefresh_below hmode hlow hband))

end

section
/-! PROOF. The deep store's tiles: what a write and a clearing leave of a tile's bytes, check word and poison (R404, R405, R407,
R413, R415), and the rows of the system areas and of the mirror copy (R402, R413, R424, R515). -/

namespace Sys2Proof.Machine

/-- A table whose entries are kept by their keys: a key that is not kept reads as the default. -/
theorem sget_filter {α : Type} (d : α) (l : List (Nat × α)) (keep : Nat → Bool) (k : Nat) :
    sget d (l.filter (fun e => keep e.1)) k = if keep k then sget d l k else d := by
  induction l with
  | nil => exact (ite_self d).symm
  | cons e t ih =>
    obtain ⟨a, x⟩ := e
    by_cases hak : a = k
    · subst hak
      cases ha : keep a with
      | false => simpa [ha] using ih
      | true => simp [ha, sget]
    · have hskip (l : List (Nat × α)) : sget d ((a, x) :: l) k = sget d l k := if_neg hak
      cases ha : keep a with
      | false => simpa [ha, hskip] using ih
      | true => simpa [ha, hskip] using ih

/-! ### A tile written (R404, R405, R407) -/

theorem Store.check_setCheck (m : Store) (t : Nat) (v : BitVec 32) : (m.setCheck t v).check t = v := by
  rw [Store.check, Store.chkDefault_congr (Store.setCheck_clear m t v)]
  exact sget_sput_same _ _ _ _

theorem Store.tileCrc_congr {m n : Store} (h : m.bytes = n.bytes) : m.tileCrc = n.tileCrc := by
  funext t
  simp only [Store.tileCrc, h, Store.read_congr h]

/-- A write leaves a tile the check word of the bytes it then holds (R405). -/
theorem Store.check_writeTile (m : Store) (t lo : Nat) (d : List Byte) :
    (m.writeTile t lo d).check t = (m.writeTile t lo d).tileCrc t :=
  (Store.check_setCheck _ _ _).trans (congrFun (Store.tileCrc_congr (Store.setCheck_bytes _ _ _).symm) t)

@[simp] theorem Store.writeTile_poison (m : Store) (t lo : Nat) (d : List Byte) : (m.writeTile t lo d).poison = m.poison := rfl

/-- Past its poison, a tile just written is good (R404, R405). -/
theorem Store.tileStatus_writeTile (m : Store) (t lo : Nat) (d : List Byte) :
    (m.writeTile t lo d).tileStatus t = if t ∈ m.poison then stPOISON else stDONE := by
  split
  case isTrue hp => exact if_pos hp
  case isFalse hp => exact Store.tileStatus_good hp (.inr (m.check_writeTile t lo d))

/-- A write of the whole tile ends its poison (R407). -/
theorem Store.tileStatus_memWrite_whole (m : Store) (t : Nat) {d : List Byte} (hd : d.length = 4096) :
    (m.memWrite t 0 d).tileStatus t = stDONE := by
  rw [Store.memWrite, if_pos ⟨rfl, hd⟩]
  refine Store.tileStatus_good ?_ (.inr (m.check_writeTile t 0 d))
  simp

/-! ### Tiles cleared (R413, R415) -/

section
variable (m : Store) {lo hi a t : Nat}

theorem Store.byte_clearTiles : (m.clearTiles lo hi).byte a = if lo ≤ a / 4096 ∧ a / 4096 < hi then 0 else m.byte a := by
  have hfilter := sget_filter (0 : Byte) m.bytes (fun k => !decide (lo ≤ k / 4096 ∧ k / 4096 < hi)) a
  refine hfilter.trans ?_
  by_cases h : lo ≤ a / 4096 ∧ a / 4096 < hi
  · rw [if_pos h]
    exact if_neg (by simp [h])
  · rw [if_neg h]
    exact if_pos (by simpa only [Bool.not_eq_true', decide_eq_false_iff_not] using h)

/-- A cleared tile lists no check word, and the clearing gives it the one of zeros. -/
theorem Store.check_clearTiles (h : lo ≤ t ∧ t < hi) : (m.clearTiles lo hi).check t = zeroTileCrc := by
  have hunlisted : (m.clearTiles lo hi).check t = (m.clearTiles lo hi).chkDefault t :=
    (sget_filter _ m.chk (fun k => !decide (lo ≤ k ∧ k < hi)) t).trans (if_neg (by simp [h]))
  rw [hunlisted]
  exact if_pos (by simp [Store.clearTiles, h])

/-- A cleared tile lists no byte, so its CRC is the one of zeros. -/
theorem Store.tileCrc_clearTiles (h : lo ≤ t ∧ t < hi) : (m.clearTiles lo hi).tileCrc t = zeroTileCrc := by
  refine if_neg ?_
  simp only [Store.clearTiles, List.any_eq_true, List.mem_filter, decide_eq_true_eq]
  rintro ⟨b, ⟨-, hkept⟩, rfl⟩
  simp [h] at hkept

theorem Store.tileStatus_clearTiles (h : lo ≤ t ∧ t < hi) : (m.clearTiles lo hi).tileStatus t = stDONE := by
  refine Store.tileStatus_good ?_ (.inr ((m.check_clearTiles h).trans (m.tileCrc_clearTiles h).symm))
  simp [Store.clearTiles, h]

end

/-! ### The rows of the system areas and of the mirror copy -/

section
variable {s : State}

/-- Where no command waits, an end of its wait does nothing. -/
theorem State.tabResume_of_idle (h : s.mg.tabWait = false) : s.tabResume = s := if_pos (by simp [h])

theorem State.sysReady_of_idle (h : s.mg.tabWait = false) :
    s.sysReady = State.setFld { s with st := s.st.clearTiles 0xC000 0x20000 } .dsStat dsStat_SYSRDY 1 :=
  State.tabResume_of_idle h

/-- With no update pending, MSYNC alone is set, to SYSRDY (R402). -/
theorem State.mirrorApply_of_no_pend (h : s.sec.mirror.pend = []) :
    s.mirrorApply = (s.setMirror (fun m => { m with pend := [] })).setFld .dsStat dsStat_MSYNC (s.fld .dsStat dsStat_SYSRDY) := by
  simp only [State.mirrorApply, h, List.foldl_nil]

/-- Where neither a window write nor a command waits, the end of a hold leaves no more than a step of a teardown (R515). -/
theorem State.mirrorRelease_of_idle (hw : s.sec.mirror.waiting = []) (ht : s.mg.tabWait = false) :
    s.mirrorRelease = ((s.setMirror (fun m => { m with held := none, scanned := false, waiting := [] })).setFld .secStat
      secStat_HOLD 0).tearStep := by
  simp only [State.mirrorRelease, hw, List.take_nil, List.drop_nil, List.foldl_nil]
  rw [State.tabResume_of_idle (by simp [ht])]

end

end Sys2Proof.Machine

open Sys2Proof.Machine Sys2Proof

/-- Settles O14: a write leaves the check word of what it wrote, and a clearing lists nothing of the tiles it covers, whose
default check word is that of zeros. -/
theorem tilesPass : Obligations.TilesPass := by
  unfold Obligations.TilesPass
  refine ⟨fun m t lo d _ => ⟨m.check_writeTile t lo d, m.tileStatus_writeTile t lo d, ?_⟩, fun m lo hi => ⟨?_, ?_, ?_⟩⟩
  · rintro rfl hd
    exact m.tileStatus_memWrite_whole t hd
  · exact fun a hlo hhi => m.byte_clearTiles.trans (if_pos ⟨hlo, hhi⟩)
  · exact fun t hlo hhi => m.tileStatus_clearTiles ⟨hlo, hhi⟩
  · exact fun a hout => m.byte_clearTiles.trans (if_neg hout)

/-- Settles O18: each row takes the branch that acts, and nothing waits that it would let go on. -/
theorem systemAreasAndMirrorComplete : Obligations.SystemAreasAndMirrorComplete := by
  unfold Obligations.SystemAreasAndMirrorComplete
  refine fun s hs => ⟨fun hrdy hwait => ?_, fun hrdy hsync hpend => ?_, fun hsync hheld hscan => ?_,
    fun t hheld hdue hwaiting hwait => ?_⟩
  · exact next_onLive hs ((if_pos hrdy).trans (State.sysReady_of_idle hwait))
  · refine next_onLive hs ((if_pos ⟨hrdy, hsync⟩).trans ?_)
    rw [State.mirrorApply_of_no_pend hpend, hrdy]
  · exact next_onLive hs (if_pos ⟨hheld, by simp [hscan], hsync⟩)
  · refine next_onLive hs ?_
    rw [hheld]
    exact (if_pos (decide_eq_true hdue)).trans (State.mirrorRelease_of_idle hwaiting hwait)

end

section
/-! PROOF. The queue: every well-formed command answers a next state, and a run serves the queue in order (log entries 1, 2). -/

namespace Sys2Proof.Machine

/-! ### One step -/

theorem step_of_nil {s : State} (h : s.pending = []) : step s = .next s.tick := by rw [step, h]

theorem step_of_cons {s : State} {c : Instr} {rest : List Instr} (h : s.pending = c :: rest) :
    step s = exec c { s with pending := rest } := by rw [step, h]

/-- A tick leaves the queue and the lines of power as they were, 16 units later. -/
theorem State.tick_line (s : State) : s.tick.pending = s.pending ∧ s.tick.now = s.now + 16 ∧ s.tick.powered = s.powered := by
  obtain ⟨hq, hn, hp, -⟩ := State.atOnce_eq_iff.mp s.atOnce_tick
  exact ⟨hq, hn, hp⟩

/-! ### Every well-formed command answers -/

/-- A well-formed command that moves a line answers a next state. -/
theorem exec_goes_of_isLine {c : Instr} (hline : isLine c = true) (hwf : c.wf = true) (s : State) : Goes (exec c s) := by
  rcases eq_of_isLine hline with rfl | rfl | ⟨on, rfl⟩ | rfl | rfl | ⟨n, rfl⟩ | ⟨n, rfl⟩ | rfl | rfl
  · exact ⟨_, rfl⟩
  · exact ⟨_, rfl⟩
  · exact ⟨_, rfl⟩
  · exact ⟨_, rfl⟩
  · exact ⟨_, rfl⟩
  · exact ⟨_, ifWf_eq_next.mpr ⟨hwf, rfl⟩⟩
  · exact ⟨_, ifWf_eq_next.mpr ⟨hwf, rfl⟩⟩
  · exact ⟨_, rfl⟩
  · exact ⟨_, rfl⟩

/-- Every well-formed command answers a next state (log entry 1). -/
theorem exec_goes {c : Instr} (hwf : c.wf = true) (s : State) : Goes (exec c s) := by
  by_cases hline : isLine c = true
  · exact exec_goes_of_isLine hline hwf s
  · obtain ⟨ok, t, hok, hexec, -⟩ := exec_eq_ifWf c s (Bool.eq_false_iff.mpr hline)
    exact ⟨t, hexec.trans (ifWf_eq_next.mpr ⟨hok hwf, rfl⟩)⟩

/-- The rows of power and window-enable leave the queue and the clock alone. -/
theorem exec_powerLine_queue {c : Instr} {s t : State} (hc : isPowerLine c = true) (h : exec c s = .next t) :
    t.pending = s.pending ∧ t.now = s.now := by
  rcases eq_of_isPowerLine hc with rfl | rfl | ⟨on, rfl⟩
  · obtain rfl : s.blockPowerOn = t := Host.Outcome.next.inj h
    unfold State.blockPowerOn
    split <;> exact ⟨rfl, rfl⟩
  · obtain rfl : (s.cold false).allPorts Out.off = t := Host.Outcome.next.inj h
    exact ⟨rfl, rfl⟩
  · obtain rfl : { s with winEn := on } = t := Host.Outcome.next.inj h
    exact ⟨rfl, rfl⟩

/-- No command changes the queue's rest or the clock (log entry 2). -/
theorem exec_queue {c : Instr} {s t : State} (h : exec c s = .next t) : t.pending = s.pending ∧ t.now = s.now := by
  by_cases hc : isPowerLine c = true
  · exact exec_powerLine_queue hc h
  · obtain ⟨hon, -⟩ := exec_lineRow (Bool.eq_false_iff.mpr hc) h
    obtain ⟨hq, hn, -, -⟩ := State.atOnce_eq_iff.mp hon
    exact ⟨hq, hn⟩

/-! ### The queue -/

theorem State.queueOk_of_nil {s : State} (h : s.pending = []) : s.queueOk = true := by rw [State.queueOk, h]; rfl

theorem State.queueOk_of_cons {s : State} {c : Instr} {rest : List Instr} (h : s.pending = c :: rest) :
    s.queueOk = true ↔ c.wf = true ∧ rest.all Instr.wf = true := by
  rw [State.queueOk, h, List.all_cons, Bool.and_eq_true]

/-- A command at the front of a well-formed queue is served: the step leaves the queue's rest, well formed, at the same moment. -/
theorem step_serves {s : State} {c : Instr} {rest : List Instr} (hq : s.pending = c :: rest) (hok : s.queueOk = true) :
    ∃ t, step s = .next t ∧ t.pending = rest ∧ t.now = s.now ∧ t.queueOk = true := by
  obtain ⟨hwf, hrest⟩ := (State.queueOk_of_cons hq).mp hok
  obtain ⟨t, ht⟩ := exec_goes hwf { s with pending := rest }
  obtain ⟨hpend, hnow⟩ := exec_queue ht
  exact ⟨t, (step_of_cons hq).trans ht, hpend, hnow, by rw [State.queueOk, hpend]; exact hrest⟩

/-- One step of a run. -/
theorem run_succ_of_step {M : Host.Core} {k : Nat} {s t : M.State} (h : M.step s = .next t) : M.run (k + 1) s = M.run k t := by
  rw [Host.Core.run, h]

/-- On an empty queue `m` steps pass `m` edges. -/
theorem run_edges (m : Nat) (s : State) (h : s.pending = []) :
    ∃ t, Host.Core.run core m s = .next t ∧ t.pending = [] ∧ t.now = s.now + 16 * m := by
  induction m generalizing s with
  | zero => exact ⟨s, rfl, h, rfl⟩
  | succ m ih =>
    obtain ⟨hq, hn, -⟩ := s.tick_line
    obtain ⟨t, hrun, hpend, hnow⟩ := ih s.tick (hq.trans h)
    exact ⟨t, (run_succ_of_step (M := core) (step_of_nil h)).trans hrun, hpend, by omega⟩

/-- A well-formed queue is served in as many steps as it has commands, and edges pass after them. -/
theorem run_serves (m : Nat) (l : List Instr) (s : State) (hq : s.pending = l) (hok : s.queueOk = true) :
    ∃ t, Host.Core.run core (l.length + m) s = .next t ∧ t.pending = [] ∧ t.now = s.now + 16 * m := by
  induction l generalizing s with
  | nil => rw [List.length_nil, Nat.zero_add]; exact run_edges m s hq
  | cons c rest ih =>
    obtain ⟨u, hstep, hpend, hnow, hok'⟩ := step_serves hq hok
    obtain ⟨t, hrun, hempty, htime⟩ := ih u hpend hok'
    refine ⟨t, ?_, hempty, htime.trans (by rw [hnow])⟩
    rw [List.length_cons, Nat.add_right_comm]
    exact (run_succ_of_step (M := core) hstep).trans hrun

/-! ### A command that names no unit -/

/-- The retransmission timer of frame 128 is ill formed, for a transfer has frames 0 to 127, and its row has no check of it. -/
theorem exec_retransmitTimer_128 (s : State) : exec (.retransmitTimer 0 128) s = .next (s.onLive (s.retransmit 0 128)) := rfl

end Sys2Proof.Machine

open Sys2Proof.Machine Sys2Proof

/-- Settles O4: the front command answers, whatever the state, and leaves the rest of the queue; an empty queue stays empty. -/
theorem queueInvariant : Obligations.QueueInvariant := by
  unfold Obligations.QueueInvariant
  intro s hok
  cases hq : s.pending with
  | nil =>
    obtain ⟨hpend, -, -⟩ := s.tick_line
    exact ⟨s.tick, step_of_nil hq, State.queueOk_of_nil (hpend.trans hq), hpend.trans hq⟩
  | cons c rest =>
    obtain ⟨t, hstep, hpend, -, hok'⟩ := step_serves hq hok
    exact ⟨t, hstep, hok', hpend⟩

/-- Refutes O3: its last clause has every ill-formed command fault. The timer of frame 128 is ill formed, and its row answers a next
state (log entry 1 is not met there). -/
theorem not_everyCommandCompletes : ¬ Obligations.EveryCommandCompletes := by
  unfold Obligations.EveryCommandCompletes
  rintro ⟨-, hfault⟩
  have hexec := (hfault (.retransmitTimer 0 128) State.reset).mp rfl
  rw [exec_retransmitTimer_128] at hexec
  cases hexec

/-- Settles O5, by induction on the queue and then on the edges. -/
theorem queueIsServedInOrder : Obligations.QueueIsServedInOrder := by
  unfold Obligations.QueueIsServedInOrder
  intro m s hok
  exact run_serves m s.pending s rfl hok

/-- Settles O1, by the definition of a step. -/
theorem stepRunsFront : Obligations.StepRunsFront := by
  unfold Obligations.StepRunsFront
  intro s c rest hq
  exact step_of_cons hq

/-- Settles O2: the step is a tick, and a tick keeps the queue and the power. -/
theorem emptyQueuePassesAnEdge : Obligations.EmptyQueuePassesAnEdge := by
  unfold Obligations.EmptyQueuePassesAnEdge
  intro s hq
  obtain ⟨hpend, hnow, hpow⟩ := s.tick_line
  exact ⟨step_of_nil hq, hnow, hpend.trans hq, hpow⟩

end

section
/-! PROOF. Register writes by access code (R562), bytes of the deep store, and S as the largest of the three demands (R429). -/

namespace Sys2Proof.Machine

/-! ### The bits of each access code -/

/-- Two fields share no bit. -/
def FieldDef.apart (f g : FieldDef) : Prop := f.lo + f.w ≤ g.lo ∨ g.lo + g.w ≤ f.lo

theorem Reg.fields_pairwise_apart (r : Reg) : r.fields.Pairwise (fun f g => f.lo + f.w ≤ g.lo ∨ g.lo + g.w ≤ f.lo) :=
  of_decide_eq_true (by cases r <;> rfl)

/-- No field map has two fields that overlap. -/
theorem Reg.fields_apart (r : Reg) {f g : FieldDef} (hf : f ∈ r.fields) (hg : g ∈ r.fields) (hne : f ≠ g) : f.apart g :=
  haveI : Std.Symm FieldDef.apart := ⟨fun _ _ => Or.symm⟩
  List.Pairwise.forall (R := FieldDef.apart) r.fields_pairwise_apart hf hg hne

/-- The bits of some fields of a list are those within one of them. -/
theorem getLsbD_maskFold {p : FieldDef → Bool} (l : List FieldDef) (a : Word) {i : Nat} (hi : i < 64) :
    (l.foldl (fun a f => if p f then a ||| fmask ⟨f.lo, f.w⟩ else a) a).getLsbD i = true
      ↔ a.getLsbD i = true ∨ ∃ f ∈ l, p f = true ∧ f.lo ≤ i ∧ i < f.lo + f.w := by
  induction l generalizing a with
  | nil => simp
  | cons f l ih =>
    have hbit : (fmask ⟨f.lo, f.w⟩).getLsbD i = true ↔ f.lo ≤ i ∧ i < f.lo + f.w := by
      rw [getLsbD_fmask _ hi, Bool.and_eq_true, decide_eq_true_eq, decide_eq_true_eq]
      dsimp only
      omega
    rw [List.foldl_cons, ih]
    by_cases hp : p f = true <;> simp [hp, hbit, or_assoc]

theorem Reg.getLsbD_accMask (r : Reg) (a : Acc) {i : Nat} (hi : i < 64) :
    (r.accMask a).getLsbD i = true ↔ ∃ f ∈ r.fields, f.acc = a ∧ f.lo ≤ i ∧ i < f.lo + f.w := by
  rw [Reg.accMask, Reg.maskOf, getLsbD_maskFold _ _ hi]
  simp

/-- Every bit has one access code. -/
theorem Reg.accMask_apart (r : Reg) {a b : Acc} (hab : a ≠ b) {i : Nat} (hi : i < 64) (ha : (r.accMask a).getLsbD i = true) :
    (r.accMask b).getLsbD i = false := by
  obtain ⟨f, hf, hfa, hflo, hfhi⟩ := (r.getLsbD_accMask a hi).mp ha
  refine Bool.eq_false_iff.mpr fun hb => ?_
  obtain ⟨g, hg, hgb, hglo, hghi⟩ := (r.getLsbD_accMask b hi).mp hb
  have hne : f ≠ g := fun h => hab (hfa.symm.trans ((congrArg FieldDef.acc h).trans hgb))
  have hapart := r.fields_apart hf hg hne
  rw [FieldDef.apart] at hapart
  omega

/-- What a write of `d` makes of the bits of one access code that read `old` (table of access codes). -/
def Acc.taken (a : Acc) (old d : Word) : Word :=
  match a with
  | .rw => d
  | .ro | .rc => old
  | .wo => 0
  | .w1c => old &&& ~~~d
  | .w1s => old ||| d

/-- A write acts on each bit by that bit's access code. -/
theorem Reg.written_and_accMask (r : Reg) (old d : Word) (a : Acc) :
    r.written old d &&& r.accMask a = a.taken old d &&& r.accMask a := by
  refine BitVec.eq_of_getLsbD_eq fun i hi => ?_
  by_cases ha : (r.accMask a).getLsbD i = true
  · have hother (b : Acc) (hb : a ≠ b) : (r.accMask b).getLsbD i = false := r.accMask_apart hb hi ha
    cases a <;> simp_all [Reg.written, Acc.taken]
  · simp [ha]

theorem State.regStore_and_accMask (s : State) (r : Reg) (v : Word) (a : Acc) :
    (s.regStore r v).reg r &&& r.accMask a = a.taken (s.reg r) v &&& r.accMask a := by
  rw [State.regStore, State.reg_setReg_same, Reg.written_and_accMask]

/-! ### The pace level -/

/-- S is raised to the largest demand, and the demands stay. -/
theorem State.fld_paceLevel_apart (s : State) (n : Nat) {p : Pos} (hp : p.lo + p.w ≤ paceStat_S.lo) :
    (s.paceLevel n).fld (.paceStat n) p = s.fld (.paceStat n) p :=
  s.fld_setFld_apart _ _ (hp.trans (by decide)) (.inr hp)

theorem State.fld_paceLevel_S (s : State) (n : Nat) :
    (s.paceLevel n).fld (.paceStat n) paceStat_S = max (s.fld (.paceStat n) paceStat_SDROOP)
      (max (s.fld (.paceStat n) paceStat_SPWR) (s.fld (.paceStat n) paceStat_STHERM)) := by
  have hdroop := fget_lt (s.reg (.paceStat n)) paceStat_SDROOP
  have hpwr := fget_lt (s.reg (.paceStat n)) paceStat_SPWR
  have htherm := fget_lt (s.reg (.paceStat n)) paceStat_STHERM
  exact s.fld_setFld_of_lt _ (by decide) (max_lt hdroop (max_lt hpwr htherm))

end Sys2Proof.Machine

open Sys2Proof.Machine Sys2Proof

/-- Settles O12: each access code has bits of its own, on which a write acts by that code alone. -/
theorem accessCodesHold : Obligations.AccessCodesHold := by
  unfold Obligations.AccessCodesHold
  intro s r v
  have hcode := s.regStore_and_accMask r v
  exact ⟨hcode .ro, hcode .rc, hcode .rw, hcode .w1c, hcode .w1s, fun q hq => s.reg_setReg_ne _ hq, rfl, rfl, rfl⟩

/-- Settles O13: by what a write leaves at each address. -/
theorem storeReadsBack : Obligations.StoreReadsBack := by
  unfold Obligations.StoreReadsBack
  exact fun m a d => ⟨m.read_write a d, fun k hk => m.byte_write_ne a k d hk⟩

/-- Settles O26: the demand is set, then S, and the fields of the register lie apart. -/
theorem paceIsTheLargestDemand : Obligations.PaceIsTheLargestDemand := by
  unfold Obligations.PaceIsTheLargestDemand
  intro s n v p hp hv
  have hlow : ∀ q ∈ [paceStat_SDROOP, paceStat_SPWR, paceStat_STHERM], q.lo + q.w ≤ paceStat_S.lo := by decide
  have hkeeps (q) (hq : q ∈ [paceStat_SDROOP, paceStat_SPWR, paceStat_STHERM]) :
      (s.setDemand n p v).fld (.paceStat n) q = (s.setFld (.paceStat n) p v).fld (.paceStat n) q :=
    State.fld_paceLevel_apart _ n (hlow q hq)
  have hwidth : ∀ q ∈ [paceStat_SDROOP, paceStat_SPWR, paceStat_STHERM], q.lo + q.w ≤ 64 ∧ 2 ^ q.w = 16 := by decide
  have hapart : ∀ p ∈ [paceStat_SDROOP, paceStat_SPWR, paceStat_STHERM], ∀ q ∈ [paceStat_SDROOP, paceStat_SPWR, paceStat_STHERM],
      q ≠ p → p.lo + p.w ≤ q.lo ∨ q.lo + q.w ≤ p.lo := by decide
  obtain ⟨hin, hsize⟩ := hwidth p hp
  refine ⟨?_, ?_, fun q hq hne => ?_, fun q hq => s.reg_setDemand_ne p v hq, rfl⟩
  · rw [hkeeps p hp, State.fld_setFld_of_lt _ _ hin (by omega)]
  · rw [hkeeps paceStat_SDROOP (by decide), hkeeps paceStat_SPWR (by decide), hkeeps paceStat_STHERM (by decide)]
    exact State.fld_paceLevel_S _ n
  · obtain ⟨hin', -⟩ := hwidth q hq
    rw [hkeeps q hq, State.fld_setFld_apart _ _ _ hin' (hapart p hp q hq hne)]

end

section
/-! PROOF. Fabric time: an edge of the reference, a used sample, and the writes of its registers (R445, R449, R453, R454); and the
grant that PAYLOAD needs (R511). -/

namespace Sys2Proof.Machine

/-! ### An edge of the reference -/

/-- Without a correction an edge is 16 units, and leaves nothing but the place in the spread of the next one. -/
theorem FTime.edge_of_steady {t : FTime} (now : Nat) (hslew : t.slew = 0) (htrim : t.trim = 0) :
    t.edge now = (16, { t with frac := (t.frac + 1) % slewEdges, slew := 0 }) := by
  simp [FTime.edge, hslew, htrim]

/-- The stall counters of a partition lie in its range of the map (R396, R571). -/
theorem State.reg_stall_ne (s : State) (n : Nat) {r q : Reg} (w : List Pkt) (h : q.addr ≠ r.addr) :
    (s.stall n r w).reg q = s.reg q := by
  unfold State.stall
  split
  · exact s.reg_setReg_ne _ h
  · rfl

theorem State.reg_stalls_block (s : State) {q : Reg} (h : q.addr < 0x100000) : s.stalls.reg q = s.reg q := by
  have hport (n k r : Nat) : q.addr ≠ (Reg.telPort n k r).addr := by simp only [Reg.addr] at h ⊢; omega
  have hinj (n : Nat) : q.addr ≠ (Reg.telInj n).addr := by simp only [Reg.addr] at h ⊢; omega
  refine List.foldlRecOn (motive := fun t : State => t.reg q = s.reg q) _ _ rfl fun t ht n _ => ?_
  rw [State.reg_stall_ne _ n _ (hinj n)]
  refine List.foldlRecOn (motive := fun t : State => t.reg q = s.reg q) _ _ ht fun u hu k _ => ?_
  rw [State.reg_stall_ne _ n _ (hport n k 5), State.reg_stall_ne _ n _ (hport n k 4), hu]

/-- Fabric time alone, before the stall counters. -/
def State.ftEdge (s : State) : State :=
  State.setReg { s with ft := (s.ft.edge s.now).2 } .ftNow (s.reg .ftNow + BitVec.ofNat 64 (s.ft.edge s.now).1)

theorem State.refEdge_eq (s : State) : s.refEdge = s.ftEdge.stalls := rfl

theorem State.trefDue_of_present {s : State} (h : s.ft.tref = true) : s.trefDue = s := by simp [State.trefDue, h]

theorem State.blockLineDue_off {s : State} (h : s.blkOn = false) : s.blockLineDue = s := by simp [State.blockLineDue, h]

/-- A tick of a live block with its reference is one edge, where no line is due. -/
theorem State.tick_of_present {s : State} (hp : s.powered = true) (hrun : s.blkRun = false) (hon : s.blkOn = false)
    (hlost : s.ft.lost = false) (htref : s.ft.tref = true) (hslew : s.ft.slew = 0) (htrim : s.ft.trim = 0) :
    s.tick = State.refEdge { s with now := s.now + 16 } := by
  obtain ⟨u, hu⟩ : ∃ u, State.refEdge { s with now := s.now + 16 } = u := ⟨_, rfl⟩
  have hregs : State.OnlyRegs (State.ftEdge { s with now := s.now + 16 }) u := hu ▸ State.onlyRegs_stalls _
  have hedge := FTime.edge_of_steady (s.now + 16) hslew htrim
  have hft : u.ft.tref = true := by rw [hregs]; simpa [State.ftEdge, State.setReg, hedge] using htref
  have hline : u.blkOn = false := by rw [hregs]; exact hon
  have htick : s.tick = u.trefDue.blockLineDue := by
    rw [← hu]
    simp [State.tick, hp, hlost, htref, hrun]
  rw [htick, State.trefDue_of_present hft, State.blockLineDue_off hline, hu]

/-! ### A used sample -/

/-- `t` has the stratum, the fabric time and the deep store of `s`. -/
def State.SameTime (s t : State) : Prop :=
  t.fld .ftStat ftStat_STRATUM = s.fld .ftStat ftStat_STRATUM ∧ t.fnow = s.fnow ∧ t.st = s.st

/-- A field of DX_FT_STAT apart from STRATUM. -/
theorem State.sameTime_setFld (s : State) {p : Pos} (v : Nat)
    (h : p.lo + p.w ≤ ftStat_STRATUM.lo ∨ ftStat_STRATUM.lo + ftStat_STRATUM.w ≤ p.lo) : s.SameTime (s.setFld .ftStat p v) :=
  ⟨s.fld_setFld_apart _ _ (by decide) h, s.fld_setFld_ne _ _ _ (by decide), rfl⟩

theorem State.SameTime.trans {s t u : State} (h : s.SameTime t) (h' : t.SameTime u) : s.SameTime u := by
  obtain ⟨hk, hn, hst⟩ := h
  obtain ⟨hk', hn', hst'⟩ := h'
  exact ⟨hk'.trans hk, hn'.trans hn, hst'.trans hst⟩

/-- A sample used ends the request, and the counter counts as set. -/
theorem State.ftSampled_spec (s : State) (o : Int) :
    s.SameTime (s.ftSampled o) ∧ (s.ftSampled o).ft.req = none ∧ (s.ftSampled o).ft.setNow = true := by
  unfold State.ftSampled
  extract_lets g s1
  have hkeep : s.SameTime s1 := ⟨rfl, rfl, rfl⟩
  split
  · exact ⟨hkeep.trans (s1.sameTime_setFld (p := ftStat_STATE) fsLOCKED (by decide)), rfl, rfl⟩
  · exact ⟨hkeep, rfl, rfl⟩

/-- The registers alone say what a field reads. -/
theorem State.fld_congr {s t : State} (h : s.regs = t.regs) (r : Reg) (p : Pos) : s.fld r p = t.fld r p :=
  congrArg (fget · p) (State.reg_congr h r)

@[simp] theorem State.fld_setFt (s : State) (f : FTime → FTime) (r : Reg) (p : Pos) : (s.setFt f).fld r p = s.fld r p := rfl

/-- A correction leaves the stratum, the request and the deep store, and moves the counter only where it is more than 64 ns behind. -/
theorem State.ftCorrect_spec (s : State) (o : Int) :
    (s.ftCorrect o).fld .ftStat ftStat_STRATUM = s.fld .ftStat ftStat_STRATUM ∧ (s.ftCorrect o).ft.req = s.ft.req
      ∧ (s.ftCorrect o).ft.setNow = s.ft.setNow ∧ (s.ftCorrect o).st = s.st
      ∧ (s.ftCorrect o).fnow = if 256 < o then (s.fnow + o.toNat) % 2 ^ 64 else s.fnow := by
  unfold State.ftCorrect
  split
  case isTrue h =>
    rw [if_neg (show ¬ 256 < o by omega)]
    exact ⟨State.fld_congr rfl _ _, rfl, rfl, rfl, State.fld_congr rfl _ _⟩
  case isFalse h =>
    split
    case isTrue hahead =>
      refine ⟨?_, rfl, rfl, rfl, ?_⟩
      · rw [State.fld_setFt, State.fld_count_apart _ _ _ (by decide) (by decide), State.fld_setFld_ne _ _ _ _ (by decide)]
      · rw [State.fnow, State.fld_setFt, State.fld_count_ne _ _ _ _ (by decide), State.fld_setFld_same _ _ _ (by decide)]
    case isFalse => exact ⟨State.fld_congr rfl _ _, rfl, rfl, rfl, State.fld_congr rfl _ _⟩

/-- What a used sample leaves (R449). -/
theorem State.syncSample_spec (s : State) {k t1 t2 t3 t4 : Nat} (hk : k < 0xFF) (ht : t4 ≤ t1 + us 2) :
    let o : Int := (((t2 : Int) - t1) - ((t4 : Int) - t3)) / 2
    let t := s.syncSample k t1 t2 t3 t4
    t.fld .ftStat ftStat_STRATUM = min 0xFE (k + 1) ∧ t.ft.req = none ∧ t.ft.setNow = true ∧ t.st = s.st
      ∧ (256 < o → t.fnow = (s.fnow + o.toNat) % 2 ^ 64) ∧ (o ≤ 256 → t.fnow = s.fnow) := by
  intro o t
  obtain ⟨d, hd⟩ : ∃ d : Nat, t = ((((s.setFld .ftStat ftStat_OFFS (offsField o)).setFld .ftStat ftStat_DELAY d).setFld .ftStat
      ftStat_STRATUM (min 0xFE (k + 1))).ftSampled o).ftCorrect o :=
    ⟨_, if_neg (by omega)⟩
  have hshown := (s.sameTime_setFld (offsField o) (p := ftStat_OFFS) (by decide)).trans
    (State.sameTime_setFld _ d (p := ftStat_DELAY) (by decide))
  generalize (s.setFld .ftStat ftStat_OFFS (offsField o)).setFld .ftStat ftStat_DELAY d = u at hd hshown
  obtain ⟨-, hnow, hst⟩ := hshown
  obtain ⟨⟨hk', hn', hst'⟩, hreq, hset⟩ := State.ftSampled_spec (u.setFld .ftStat ftStat_STRATUM (min 0xFE (k + 1))) o
  obtain ⟨hk2, hreq2, hset2, hst2, hn2⟩ := State.ftCorrect_spec ((u.setFld .ftStat ftStat_STRATUM (min 0xFE (k + 1))).ftSampled o) o
  have hstratum := u.fld_setFld_of_lt .ftStat (p := ftStat_STRATUM) (v := min 0xFE (k + 1)) (by decide)
    (lt_of_le_of_lt (Nat.min_le_left _ _) (by decide))
  have htime : State.fnow (u.setFld .ftStat ftStat_STRATUM (min 0xFE (k + 1))) = s.fnow :=
    (u.fld_setFld_ne _ _ _ (by decide)).trans hnow
  rw [hd]
  refine ⟨(hk2.trans hk').trans hstratum, hreq2.trans hreq, hset2.trans hset, (hst2.trans hst').trans hst, fun ho => ?_, fun ho => ?_⟩
  · rw [hn2, hn', htime, if_pos ho]
  · rw [hn2, hn', htime, if_neg (not_lt.mpr ho)]

/-! ### A register write in the row of its register -/

section
variable {s u : State} {c : Cmd} {r : Reg} {p : Reg → Word → Bool}

/-- The outcome of the row that carries a REG_WRITE, to a register that no mirror hold keeps back. -/
theorem next_regRow (hs : s.isLive = true) (hc : s.starts c) (ho : c.opc = 0x81) (hr : cmdReg c = some r)
    (hfree : mirrorOff r = none) (hp : p r c.w3 = true) (h : State.runRegWrite c s.mgmtTaken = u) :
    (.next (s.onLive (s.regRow p)) : Host.Outcome State Fault Refusal) = .next (s.after u) :=
  next_mgmtRowWait hs hc (by simp [cmdWrites, ho, hr, hp])
    ((State.writeWaits_reg hr).trans (by simp [heldByMirror, hfree])) h

/-- The outcome of a REG_WRITE that a rule of its register refuses: reason 0x03, and nothing written (log entry 32). -/
theorem next_regRow_refused (hs : s.isLive = true) (hc : s.starts c) (ho : c.opc = 0x81) (hr : cmdReg c = some r)
    (hfree : mirrorOff r = none) (hp : p r c.w3 = true) (hplain : s.mgmtTaken.refusedWrite r c.w3 = s.mgmtTaken)
    (h : s.mgmtTaken.regRefused r c.w3 = true) :
    (.next (s.onLive (s.regRow p)) : Host.Outcome State Fault Refusal)
      = .next (s.after (s.mgmtTaken.mgmtRec c stFORMAT (resFmt 3 24))) := by
  refine next_regRow hs hc ho hr hfree hp ?_
  have hreason : regReason r c.w3 = (3, 24) :=
    regReason_of_not_rtab _ fun e w hrtab => by simp [hrtab, mirrorOff] at hfree
  rw [State.runRegWrite_refused hr h, hplain, hreason]

end

theorem State.regRefused_ftCfg (s : State) (v : Word) : s.regRefused .ftCfg v = s.ftCfgRefused v := rfl

theorem State.regRefused_ftNow (s : State) (v : Word) : s.regRefused .ftNow v = (!s.master || decide (v.toNat < s.fnow)) := rfl

theorem State.regWrite_ftNow (s : State) (v : Word) : s.regWrite .ftNow v = s.ftNowWrite v := rfl

/-- A write that changes a parent while EN is 1 is refused (R454). -/
theorem State.ftCfgRefused_of_change {s : State} {v : Word} (hen : s.fld .ftCfg ftCfg_EN = 1)
    (h : fget v ftCfg_PARENT ≠ s.fld .ftCfg ftCfg_PARENT ∨ fget v ftCfg_ALT ≠ s.fld .ftCfg ftCfg_ALT) :
    s.ftCfgRefused v = true := by
  simp only [State.fld] at hen h
  simp [State.ftCfgRefused, hen, h]

/-- A write that names a parent other than 12 to 17 and 31 is refused (R454). -/
theorem State.ftCfgRefused_of_parent {s : State} {v : Word} {p : Pos} (hp : p ∈ [ftCfg_PARENT, ftCfg_ALT]) (hne : fget v p ≠ 31)
    (h : fget v p < 12 ∨ 17 < fget v p) : s.ftCfgRefused v = true := by
  have hcode : Machine.parentOk (fget v p) = false := by
    simp only [Machine.parentOk, Bool.or_eq_false_iff, decide_eq_false_iff_not]
    omega
  simp only [List.mem_cons, List.not_mem_nil, or_false] at hp
  rcases hp with rfl | rfl
  · simp [State.ftCfgRefused, hcode]
  · simp [State.ftCfgRefused, hcode]

theorem State.ftNowWrite_regs (s : State) (v : Word) : (s.ftNowWrite v).reg .ftNow = v ∧ (s.ftNowWrite v).st = s.st
    ∧ ∀ q : Reg, q.addr ≠ Reg.ftNow.addr → q.addr ≠ Reg.ftStat.addr → (s.ftNowWrite v).reg q = s.reg q :=
  ⟨(State.reg_setFld_ne _ _ _ (by decide)).trans (s.reg_setReg_same _ _), rfl,
    fun _ hnow hstat => (State.reg_setFld_ne _ _ _ hstat).trans (s.reg_setReg_ne _ hnow)⟩

/-! ### PAYLOAD and its grant -/

theorem State.regRefused_sample {s : State} {n : Nat} {v : Word} (hv : fget v sample_PAYLOAD = 1)
    (hg : nbit (s.fld .secStat secStat_GRANT) n = false) : s.regRefused (.sample n) v = true := by
  have hrule : (decide (fget v sample_PAYLOAD = 1) && !nbit (s.fld .secStat secStat_GRANT) n) = true := by simp [hv, hg]
  exact Bool.or_eq_true_iff.mpr (.inr hrule)

theorem State.keyRow_grant {s : State} {r : KeyRec} (hok : krOk r = true) (hop : fget r.w0 krOP = 6) :
    s.keyRow 6 r (s.keyGrant r) = s.keyGrant r := by
  simp [State.keyRow, State.keyCond, hop, hok]

theorem Reg.sample_addr_ne {n m : Nat} (h : n ≠ m) : (Reg.sample n).addr ≠ (Reg.sample m).addr := by
  simp only [Reg.addr]
  omega

theorem Reg.secStat_addr_ne_sample (n : Nat) : Reg.secStat.addr ≠ (Reg.sample n).addr := by
  simp only [Reg.addr]
  omega

/-- A GRANT that withdraws a partition's grant clears its PAYLOAD, whichever partitions' turns come after. -/
theorem State.keyGrant_payload (s : State) {r : KeyRec} {n : Nat} (hn : n < 6) (hbit : nbit (fget r.w1 ⟨0, 6⟩) n = false) :
    (s.keyGrant r).fld (.sample n) sample_PAYLOAD = 0 := by
  refine foldl_establishes (P := fun u => u.fld (.sample n) sample_PAYLOAD = 0) (n := n) (fun u => ?_) (fun m _ u hu => ?_)
    (List.mem_range.mpr hn) _
  · rw [hbit]
    exact u.fld_setFld_of_lt _ (by decide) (by decide)
  · by_cases hm : n = m
    · subst hm
      rw [hbit]
      exact u.fld_setFld_of_lt _ (by decide) (by decide)
    · split
      · exact hu
      · exact (u.fld_setFld_ne _ _ _ (Reg.sample_addr_ne hm)).trans hu

theorem State.keyGrant_grant (s : State) (r : KeyRec) : (s.keyGrant r).fld .secStat secStat_GRANT = fget r.w1 ⟨0, 6⟩ := by
  refine List.foldlRecOn (motive := fun u : State => u.fld .secStat secStat_GRANT = fget r.w1 ⟨0, 6⟩) _ _ ?_ fun u hu m _ => ?_
  · exact s.fld_setFld_of_lt _ (by decide) (fget_lt _ _)
  · split
    · exact hu
    · exact (u.fld_setFld_ne _ _ _ (Reg.secStat_addr_ne_sample m)).trans hu

end Sys2Proof.Machine

open Sys2Proof.Machine Sys2Proof

/-- Settles O10: the tick is one edge of 16 units, and the stall counters beside it lie in the partitions' ranges. -/
theorem fabricTimeAddsSixteen : Obligations.FabricTimeAddsSixteen := by
  unfold Obligations.FabricTimeAddsSixteen
  intro s hq hp hrun hon hlost htref hslew htrim
  have hedge := FTime.edge_of_steady (s.now + 16) hslew htrim
  have htick := State.tick_of_present hp hrun hon hlost htref hslew htrim
  obtain ⟨u, hu⟩ : ∃ u, State.refEdge { s with now := s.now + 16 } = u := ⟨_, rfl⟩
  have hregs : State.OnlyRegs (State.ftEdge { s with now := s.now + 16 }) u := hu ▸ State.onlyRegs_stalls _
  refine ⟨u, ?_, ?_, ?_⟩
  · rw [step_of_nil hq, htick, hu]
  · rw [← hu, State.refEdge_eq, State.reg_stalls_block _ (by decide), State.ftEdge, State.reg_setReg_same, hedge]
    rfl
  · rw [hregs]
    exact ⟨rfl, rfl, rfl, rfl, rfl, rfl, rfl, rfl⟩

/-- Settles O29: what the sample shows, what it ends and what it corrects. -/
theorem samplesCorrectTime : Obligations.SamplesCorrectTime := by
  unfold Obligations.SamplesCorrectTime
  intro s k t1 t2 t3 t4 hk ht
  exact s.syncSample_spec hk ht

/-- Settles O38: each write runs in its register's row, and the register's rule decides. -/
theorem timeRegistersRefuse : Obligations.TimeRegistersRefuse := by
  unfold Obligations.TimeRegistersRefuse
  intro s c hs hc ho v refused
  refine ⟨fun hr => ⟨fun hen hchange => ?_, fun p hp hne hcode => ?_⟩, fun hr => ⟨fun h => ?_, fun hmaster hforward => ?_⟩⟩
  · exact next_regRow_refused hs hc ho hr rfl rfl rfl ((State.regRefused_ftCfg _ _).trans <| State.ftCfgRefused_of_change hen hchange)
  · exact next_regRow_refused hs hc ho hr rfl rfl rfl ((State.regRefused_ftCfg _ _).trans <| State.ftCfgRefused_of_parent hp hne hcode)
  · refine next_regRow_refused hs hc ho hr rfl rfl rfl ((s.mgmtTaken.regRefused_ftNow v).trans ?_)
    rwa [Bool.or_eq_true, Bool.not_eq_true', decide_eq_true_eq, State.master, decide_eq_false_iff_not]
  · obtain ⟨hnow, hst, hframe⟩ := s.mgmtTaken.ftNowWrite_regs v
    have htaken : s.mgmtTaken.regRefused .ftNow v = false := by
      rw [State.regRefused_ftNow, Bool.or_eq_false_iff, Bool.not_eq_false', decide_eq_false_iff_not, State.master, decide_eq_true_eq]
      exact ⟨hmaster, Nat.not_lt.mpr hforward⟩
    refine ⟨s.mgmtTaken.ftNowWrite v, next_regRow hs hc ho hr rfl rfl ?_, hnow, hst, hframe⟩
    rw [State.runRegWrite_taken hr htaken, State.regWrite_ftNow]

/-- Settles O24: the register's rule refuses the write, and a GRANT gives each partition without a grant its turn. -/
theorem payloadNeedsGrant : Obligations.PayloadNeedsGrant := by
  unfold Obligations.PayloadNeedsGrant
  intro s hs
  refine ⟨fun c n hc ho hr hv hg => ?_, fun r n hok hop hn hbit => ⟨s.keyGrant r, ?_, ?_, s.keyGrant_grant r⟩⟩
  · exact next_regRow_refused hs hc ho hr rfl rfl rfl (State.regRefused_sample hv hg)
  · exact next_onLive hs (State.keyRow_grant hok hop)
  · exact s.keyGrant_payload hn hbit

end

section
/-! PROOF. Power estimates and the power demand, wear, and the replica (R435, R436, R440, R442, R443). -/

namespace Sys2Proof.Machine

/-! ### What the power unit changes -/

/-- `t` is `s` but for the registers and the power unit, and shows the same estimate. -/
def State.PowerOnly (s t : State) : Prop :=
  t = { s with regs := t.regs, pw := t.pw } ∧ t.fld .pwrStat pwrStat_EST = s.fld .pwrStat pwrStat_EST

theorem State.PowerOnly.refl (s : State) : s.PowerOnly s := ⟨rfl, rfl⟩

theorem State.PowerOnly.trans {s t u : State} (h : s.PowerOnly t) (h' : t.PowerOnly u) : s.PowerOnly u := by
  obtain ⟨ht, hest⟩ := h
  obtain ⟨hu, hest'⟩ := h'
  exact ⟨hu.trans (by rw [ht]), hest'.trans hest⟩

/-- A field of DX_PWR_STAT apart from EST. -/
theorem State.powerOnly_setFld (s : State) {p : Pos} (v : Nat) (h : p.lo + p.w ≤ pwrStat_EST.lo ∨ pwrStat_EST.lo + pwrStat_EST.w ≤ p.lo) :
    s.PowerOnly (s.setFld .pwrStat p v) := ⟨rfl, s.fld_setFld_apart _ _ (by decide) h⟩

theorem State.powerOnly_setDemand (s : State) (n : Nat) (p : Pos) (v : Nat) : s.PowerOnly (s.setDemand n p v) :=
  ⟨rfl, congrArg (fget · pwrStat_EST) (s.reg_setDemand_ne p v (by simp only [Reg.addr]; omega))⟩

/-- CAPPED follows the surge in its own register (R434). -/
theorem State.capStep_spec (s : State) (surge : Nat) : s.PowerOnly (s.capStep surge) ∧ (s.capStep surge).pw = s.pw := by
  have hset (s : State) (v : Nat) : s.PowerOnly (s.setFld .pwrStat pwrStat_CAPPED v) := s.powerOnly_setFld v (by decide)
  unfold State.capStep
  split
  · split
    · exact ⟨(hset s 1).trans ⟨rfl, State.fld_count_apart _ _ _ (by decide) (by decide)⟩, rfl⟩
    · exact ⟨.refl s, rfl⟩
  · split
    · exact ⟨hset s 0, rfl⟩
    · exact ⟨.refl s, rfl⟩

/-- The demand is as set, and reaches the partitions' pace registers (R435). -/
theorem State.powerDemand_spec (s : State) (d : Nat) : s.PowerOnly (s.powerDemand d) ∧ (s.powerDemand d).pw = { s.pw with demand := d } := by
  have hlimit := State.powerOnly_setFld { s with pw := { s.pw with demand := d } } (p := pwrStat_LIMIT) (decide (0 < d)).toNat (by decide)
  refine List.foldlRecOn (motive := fun t : State => s.PowerOnly t ∧ t.pw = { s.pw with demand := d }) _ _
    ⟨State.PowerOnly.trans ⟨rfl, rfl⟩ hlimit, rfl⟩ fun t ht n _ => ?_
  obtain ⟨hkept, hpw⟩ := ht
  split
  · exact ⟨hkept, hpw⟩
  · exact ⟨hkept.trans (t.powerOnly_setDemand n _ d), hpw⟩

/-- The newest microseconds of the surge window, and since when the estimate has been low enough for a lower demand. -/
def State.windowed (s : State) (w : Nat) : State :=
  { s with pw := { s.pw with
    win := keepRuns surgeWindow (pushRun (decide (s.fld .paceCfg paceCfg_PSUS < w)) s.pw.win)
    lowAt := if s.cap < w + 5 then s.now else s.pw.lowAt } }

/-- The estimate as DX_PWR_STAT shows it, before the demand follows. -/
def State.estimated (s : State) (w : Nat) : State :=
  ((((s.windowed w).setFld .pwrStat pwrStat_EST w).high .pwrStat pwrStat_PEAK w).setFld .pwrStat pwrStat_SURGE
    (surgeOf (s.windowed w).pw.win)).capStep (surgeOf (s.windowed w).pw.win)

theorem State.estimated_spec (s : State) {w : Nat} (hw : w < 512) : (s.estimated w).fld .pwrStat pwrStat_EST = w
    ∧ s.estimated w = { s with regs := (s.estimated w).regs, pw := (s.estimated w).pw } ∧ (s.estimated w).pw.demand = s.pw.demand := by
  obtain ⟨hcap, hpw⟩ := State.capStep_spec ((((s.windowed w).setFld .pwrStat pwrStat_EST w).high .pwrStat pwrStat_PEAK w).setFld
    .pwrStat pwrStat_SURGE (surgeOf (s.windowed w).pw.win)) (surgeOf (s.windowed w).pw.win)
  have hpeak (t : State) : t.PowerOnly (t.high .pwrStat pwrStat_PEAK w) := t.powerOnly_setFld _ (by decide)
  have hsurge (t : State) (v : Nat) : t.PowerOnly (t.setFld .pwrStat pwrStat_SURGE v) := t.powerOnly_setFld v (by decide)
  obtain ⟨hrest, hest⟩ := ((hpeak _).trans (hsurge _ _)).trans hcap
  exact ⟨hest.trans ((s.windowed w).fld_setFld_of_lt _ (by decide) hw), hrest, (congrArg Power.demand hpw).trans rfl⟩

/-- The demand that an estimate leads to. -/
def State.estDemand (s : State) (w : Nat) : Nat := if s.cap < w then min 8 (s.pw.demand + 1) else s.pw.demand

theorem State.powerEst_eq (s : State) (w : Nat) : s.powerEst w =
    if s.cap < w then
      if (s.estimated w).pw.demand = 7 then
        { (s.estimated w).powerDemand 8 with pw := { ((s.estimated w).powerDemand 8).pw with heldAt := s.now, rep := false } }
      else (s.estimated w).powerDemand (min 8 ((s.estimated w).pw.demand + 1))
    else s.estimated w := rfl

/-- What an estimate leaves (R435): it is shown, and the demand rises by one level where it is above the cap. -/
theorem State.powerEst_spec (s : State) {w : Nat} (hw : w < 512) : (s.powerEst w).fld .pwrStat pwrStat_EST = w
    ∧ (s.powerEst w).pw.demand = s.estDemand w ∧ s.powerEst w = { s with regs := (s.powerEst w).regs, pw := (s.powerEst w).pw } := by
  obtain ⟨hest, hrest, hdemand⟩ := s.estimated_spec hw
  rw [State.powerEst_eq, State.estDemand]
  generalize s.estimated w = u at hest hrest hdemand ⊢
  have hraised (d : Nat) : (u.powerDemand d).fld .pwrStat pwrStat_EST = w
      ∧ u.powerDemand d = { s with regs := (u.powerDemand d).regs, pw := (u.powerDemand d).pw } := by
    obtain ⟨⟨hkept, hsame⟩, -⟩ := u.powerDemand_spec d
    exact ⟨hsame.trans hest, hkept.trans (by rw [hrest])⟩
  split
  · split
    case isTrue h7 =>
      obtain ⟨hshown, hkept⟩ := hraised 8
      obtain ⟨-, hpw⟩ := u.powerDemand_spec 8
      refine ⟨hshown, ?_, ?_⟩
      · rw [hpw, ← hdemand, h7]
        rfl
      · rw [hkept]
    case isFalse =>
      obtain ⟨hshown, hkept⟩ := hraised (min 8 (u.pw.demand + 1))
      obtain ⟨-, hpw⟩ := u.powerDemand_spec (min 8 (u.pw.demand + 1))
      exact ⟨hshown, by rw [hpw, hdemand], hkept⟩
  · exact ⟨hest, hdemand, hrest⟩

/-! ### The rows, each under its condition -/

theorem State.due_of_le {s : State} {t k : Nat} (h : t + k ≤ s.now) : s.due t k = true := decide_eq_true h

theorem State.powerLower_due {s : State} (hpos : 0 < s.pw.demand) (hd : s.pw.lowAt + us 10 ≤ s.now) :
    s.powerLower = State.powerDemand { s with pw := { s.pw with lowAt := s.now } } (s.pw.demand - 1) :=
  if_pos ⟨hpos, State.due_of_le hd⟩

theorem State.powerHeld_due {s : State} (h8 : s.pw.demand = 8) (hrep : s.pw.rep = false) (hd : s.pw.heldAt + us 100 ≤ s.now)
    (hcap : s.cap < s.fld .pwrStat pwrStat_EST) :
    s.powerHeld = State.blockEvent { s with pw := { s.pw with rep := true } } 0x2A ⟨syPART, 6⟩ :=
  if_pos ⟨h8, by simp [hrep], State.due_of_le hd, hcap⟩

theorem State.wearPart_due {s : State} {n : Nat} (hr : s.runs n = true) (hd : (s.part n).wearAt + ms 1000 ≤ s.now) :
    s.wearPart n = ((s.setPart n (fun p => { p with wearAt := s.now })).count (.wear n) wear_EQS (wearFactor (s.hottest n))).wearFlags n :=
  if_pos (by rw [hr, State.due_of_le hd]; rfl)

theorem State.wearPart_stopped {s : State} {n : Nat} (hr : s.runs n = false) : s.wearPart n = s := if_neg (by simp [hr])

/-- The replica measured: MEAS shows the period. -/
def State.measured (s : State) (n ps : Nat) : State :=
  (s.setPart n (fun p => { p with measAt := s.now })).setFld (.paceStat n) paceStat_MEAS ps

theorem State.replica_due {s : State} {n : Nat} (ps : Nat) (ha : s.asleep n = false) (hd : (s.part n).measAt + ms 1 ≤ s.now) :
    s.replica n ps = if 850 < ps ∧ (s.measured n ps).hottest n ≤ 440 ∧ ((s.measured n ps).part n).trips = [] then
      ((s.measured n ps).setFld (.paceStat n) paceStat_PSLOW 1).event n 0x2C ⟨syPART, n⟩ else s.measured n ps :=
  if_pos (by rw [ha, State.due_of_le hd]; rfl)

end Sys2Proof.Machine

open Sys2Proof.Machine Sys2Proof

/-- Settles O27: an estimate sets the demand after it has been shown; the other rows act once they are due. -/
theorem powerWearAndReplica : Obligations.PowerWearAndReplica := by
  unfold Obligations.PowerWearAndReplica
  refine ⟨fun s w hs => ⟨?_, fun hpos hd => next_onLive hs (State.powerLower_due hpos hd),
      fun h8 hrep hd hcap => next_onLive hs (State.powerHeld_due h8 hrep hd hcap)⟩,
    fun s n ps hn hs => ⟨next_onLive hs rfl, State.wearPart_due, State.wearPart_stopped, fun ha hd => ?_⟩⟩
  · obtain ⟨hest, hdemand, hrest⟩ := State.powerEst_spec { s with volt := w.mv.toNat } w.watts.isLt
    refine ⟨State.powerEst { s with volt := w.mv.toNat } w.watts.toNat, next_onLive hs rfl, hest, ?_, fun _ => hdemand, ?_⟩
    · rw [hrest]
    · rw [hrest]
      exact ⟨rfl, rfl, rfl, rfl⟩
  · exact ifWf_onLive (decide_eq_true hn) hs (State.replica_due ps.toNat ha hd)

end

section
/-! PROOF. Packets delivered: each row takes the oldest packet it may take, once (R146, R167, R172, R498). -/

namespace Sys2Proof.Machine

/-! ### What has been delivered -/

/-- The first element that meets `p` is the one that `dropFirst` drops. -/
theorem dropFirst_of_find? {α : Type} {p : α → Bool} {l : List α} {x : α} (h : l.find? p = some x) :
    ∃ a b, l = a ++ x :: b ∧ dropFirst p l = a ++ b ∧ (∀ y ∈ a, p y = false) ∧ p x = true := by
  induction l with
  | nil => simp at h
  | cons y l ih =>
    by_cases hy : p y = true
    · rw [List.find?_cons_of_pos hy] at h
      obtain rfl := Option.some.inj h
      exact ⟨[], l, rfl, if_pos hy, nofun, hy⟩
    · rw [List.find?_cons_of_neg hy] at h
      obtain ⟨a, b, hl, hdrop, ha, hx⟩ := ih h
      refine ⟨y :: a, b, by rw [hl]; rfl, (if_neg hy).trans (by rw [hdrop]; rfl), fun z hz => ?_, hx⟩
      rcases List.mem_cons.mp hz with rfl | hz
      · exact Bool.eq_false_iff.mpr hy
      · exact ha z hz

/-- The rows of delivered packets, with the packets that each takes and what it does with one. -/
def rxRows : List (Instr × (Pkt → Bool) × (State → InEnt → State)) :=
  [(.putCellRx, fun p => decide (p.opc = opPUT ∨ p.opc = opPUTI) && !p.isFrame, State.rxPutCell),
    (.putFrameRx, fun p => decide (p.opc = opPUT ∨ p.opc = opPUTI) && p.isFrame, State.rxPutFrame),
    (.getRx, pktOpc opGET, fun s e => s.rxRead e false), (.copyRx, pktOpc opCOPY, fun s e => s.rxRead e true),
    (.atomicRx, pktOpc opATOMIC, State.rxAtomic), (.probeRx, pktOpc opPROBE, State.rxProbe),
    (.getDataRx, pktOpc opGETDATA, State.rxGetData), (.ackRx, pktOpc opACK, fun s e => s.rxAck e.pkt),
    (.failRx, pktOpc opFAIL, fun s e => s.rxFail e.pkt), (.copyRptRx, pktOpc opCOPYRPT, fun s e => s.rxCopyRpt e.pkt),
    (.rdAnsRx, pktOpc opRDANS, State.rdAns),
    (.wrAnsRx, pktOpc opWRANS, fun s e => s.answer e .wr e.pkt.ansCode (fun _ => [])),
    (.atAnsRx, pktOpc opATANS, fun s e => s.answer e .at' e.pkt.ansCode (fun r => Machine.slice e.pkt.pay 8 r.len)),
    (.galAbortRx, pktOpc opGALABORT, State.rxAbort), (.epochCtlPrepare, epochIs epPREPARE, State.swPrepare),
    (.epochCtlSwitch, epochIs epSWITCH, State.swSwitch), (.epochCtlPoll, epochIs epPOLL, State.swPoll),
    (.epochCtlRetire, epochIs epRETIRE, State.swRetire)]

theorem exec_rxRows : rxRows.map (fun x => exec x.1) = rxRows.map (fun x s => .next (s.onLive (s.rxRow x.2.1 x.2.2))) := rfl

/-- A row of a delivered packet acts on the oldest it may take, in the state without it. -/
theorem exec_rxRow {x : Instr × (Pkt → Bool) × (State → InEnt → State)} (hx : x ∈ rxRows) {s : State} {e : InEnt}
    (hs : s.isLive = true) (he : s.oldestRx x.2.1 = some e) : exec x.1 s = .next (s.after (x.2.2 (s.rxTaken x.2.1) e)) := by
  rw [congrFun (List.map_inj_left.mp exec_rxRows x hx) s]
  exact next_onLive hs (State.rxRow_oldest x.2.2 he)

/-! ### Sync operations -/

/-- The state with the sync operation taken whose turn has come. -/
def State.syncTaken (s : State) (opc : Nat) : State :=
  { s with sw := { s.sw with inbox := dropFirst (s.syncTurn opc) s.sw.inbox } }

theorem State.opc_of_syncTurn {s : State} {opc : Nat} {e : InEnt} (h : s.syncTurn opc e = true) : e.pkt.opc = opc := by
  simp only [State.syncTurn, Bool.and_eq_true] at h
  obtain ⟨⟨⟨-, hopc⟩, -⟩, -⟩ := h
  exact of_decide_eq_true hopc

/-- A sync operation goes to the file in its turn: a wait registers, any other updates (R167, R172). -/
theorem State.syncRow_turn {s : State} {opc : Nat} {e : InEnt} (he : s.sw.inbox.find? (s.syncTurn opc) = some e) :
    s.syncRow opc = if opc = opSYNCWAIT then (s.syncTaken opc).syncWaitTake e.part e.pkt else (s.syncTaken opc).syncOpTake e.part e.pkt := by
  have hopc := State.opc_of_syncTurn (List.find?_some he)
  have hfind : s.sw.inbox.find? (fun e => s.runs e.part && decide (e.pkt.opc = opc) && !s.ordHeld e.pkt && !s.syncBehind e) = some e := he
  simp only [State.syncRow, hfind, State.fileTake, hopc]
  rfl

end Sys2Proof.Machine

open Sys2Proof.Machine Sys2Proof

/-- Settles O48: each row by the oldest packet it may take, and the sync rows by the turn at the object. -/
theorem deliveredPacketsAreTaken : Obligations.DeliveredPacketsAreTaken := by
  unfold Obligations.DeliveredPacketsAreTaken
  refine ⟨fun x hx s e hs he => exec_rxRow hx hs he, fun s p e he => dropFirst_of_find? he, fun x hx s e hs he => ?_⟩
  have hrow := State.syncRow_turn he
  simp only [List.mem_cons, List.not_mem_nil, or_false] at hx
  rcases hx with rfl | rfl | rfl
  · exact next_onLive hs hrow
  · exact next_onLive hs hrow
  · exact next_onLive hs hrow

end

section
/-! PROOF. Fault units: acknowledgement, deadlines, quiet, and stalled engines (R466 to R469, R475, R476). -/

namespace Sys2Proof.Machine

/-! ### Fault units as updates leave them -/

theorem State.funit_setFunit_same (s : State) {u : Nat} (f : FUnit → FUnit) (hu : u < 7) :
    (s.setFunit u f).funit u = f (s.funit u) := by
  simp [State.funit, State.setFunit, hu]

@[simp] theorem State.fld_setFunit (s : State) (u : Nat) (f : FUnit → FUnit) (r : Reg) (p : Pos) :
    (s.setFunit u f).fld r p = s.fld r p := rfl

@[simp] theorem State.funit_setFld (s : State) (r : Reg) (p : Pos) (v u : Nat) : (s.setFld r p v).funit u = s.funit u := rfl

/-! ### FAULT_ACK -/

/-- Is a pending fault at or before sequence number `q` (R466)? -/
def ackCovers (q : Nat) (x : Nat × FPend) : Bool := decide (x.2.seq = q) || serialBefore x.2.seq q

/-- The pending bits of the classes that an acknowledgement covers are cleared. -/
def State.pendCleared (s : State) (u q : Nat) (l : List (Nat × FPend)) : State :=
  l.foldl (fun s x => if ackCovers q x then s.setFld (.fltStat u) (pendPos x.1) 0 else s) s

/-- A FAULT_ACK that is taken. -/
def State.faultAcked (s : State) (u q : Nat) : State :=
  ((s.pendCleared u q (s.funit u).pend).setFunit u (fun f => { f with
    pend := f.pend.filter (fun x => !ackCovers q x), lastAt := s.fnow })).setFld (.fltStat u) fltStat_ACKSEQ q

theorem State.runFaultAck_eq (c : Cmd) (s : State) : State.runFaultAck c s =
    s.mgmtRange c [(decide (6 < c.fld 2 0 3), 16),
      (!serialBefore (c.fld 2 16 16) (s.fld (.fltStat (c.fld 2 0 3)) fltStat_NEXTSEQ), 18)]
      ((s.faultAcked (c.fld 2 0 3) (c.fld 2 16 16)).mgmtRec c stDONE 0) := rfl

/-- A pending bit is one of three, beside ACKSEQ. -/
theorem pendPos_cases (c : Nat) : pendPos c = fltStat_PCORR ∨ pendPos c = fltStat_PCONT ∨ pendPos c = fltStat_PFATAL := by
  unfold pendPos
  split
  · exact .inl rfl
  · split
    · exact .inr (.inl rfl)
    · exact .inr (.inr rfl)

theorem pendPos_bounds (c : Nat) : (pendPos c).w = 1 ∧ 59 ≤ (pendPos c).lo ∧ (pendPos c).lo ≤ 61 := by
  rcases pendPos_cases c with h | h | h
  · rw [h]; decide
  · rw [h]; decide
  · rw [h]; decide

/-- A pending bit that is clear stays clear while others are cleared. -/
theorem State.fld_clear_of_clear {s : State} {u c : Nat} (d : Nat) (h : s.fld (.fltStat u) (pendPos c) = 0) :
    (s.setFld (.fltStat u) (pendPos d) 0).fld (.fltStat u) (pendPos c) = 0 := by
  obtain ⟨hw, hlo, hhi⟩ := pendPos_bounds c
  obtain ⟨hw', hlo', hhi'⟩ := pendPos_bounds d
  by_cases hcd : (pendPos c).lo = (pendPos d).lo
  · have hsame : pendPos c = pendPos d := by
      rcases hc : pendPos c with ⟨lo, w⟩
      rcases hd : pendPos d with ⟨lo', w'⟩
      simp only [hc, hd] at hcd hw hw'
      rw [hcd, hw, hw']
    rw [hsame, State.fld_setFld_same _ _ _ (by omega), Nat.zero_mod]
  · rw [State.fld_setFld_apart _ _ _ (by omega) (by omega), h]

/-- What is cleared stays so through the rest of the list. -/
theorem State.pendCleared_keeps {u q c : Nat} (l : List (Nat × FPend)) {s : State} (h : s.fld (.fltStat u) (pendPos c) = 0) :
    (s.pendCleared u q l).fld (.fltStat u) (pendPos c) = 0 := by
  refine List.foldlRecOn (motive := fun t : State => t.fld (.fltStat u) (pendPos c) = 0) _ _ h fun t ht x _ => ?_
  split
  · exact State.fld_clear_of_clear x.1 ht
  · exact ht

theorem State.pendCleared_clears {u q : Nat} {l : List (Nat × FPend)} {x : Nat × FPend} (hx : x ∈ l) (hq : ackCovers q x = true) (s : State) :
    (s.pendCleared u q l).fld (.fltStat u) (pendPos x.1) = 0 := by
  obtain ⟨hw, hlo, hhi⟩ := pendPos_bounds x.1
  induction l generalizing s with
  | nil => cases hx
  | cons y l ih =>
    rcases List.mem_cons.mp hx with rfl | hmem
    · refine State.pendCleared_keeps l ?_
      dsimp only
      rw [if_pos hq, State.fld_setFld_same _ _ _ (by omega), Nat.zero_mod]
    · exact ih hmem _

/-- Nothing but the unit's status register changes. -/
theorem State.pendCleared_frame (s : State) (u q : Nat) (l : List (Nat × FPend)) :
    s.OnlyRegs (s.pendCleared u q l) ∧ ∀ r : Reg, r.addr ≠ (Reg.fltStat u).addr → (s.pendCleared u q l).reg r = s.reg r := by
  refine List.foldlRecOn (motive := fun t : State => s.OnlyRegs t ∧ ∀ r : Reg, r.addr ≠ (Reg.fltStat u).addr → t.reg r = s.reg r) _ _
    ⟨rfl, fun _ _ => rfl⟩ fun t ht x _ => ?_
  obtain ⟨honly, hreg⟩ := ht
  split
  · exact ⟨honly.trans rfl, fun r hr => (t.reg_setFld_ne _ _ hr).trans (hreg r hr)⟩
  · exact ⟨honly, hreg⟩

/-- What a FAULT_ACK that is taken leaves (R466). -/
theorem State.faultAcked_spec (s : State) {u q : Nat} (hu : u ≤ 6) (hq : q < 65536) :
    (s.faultAcked u q).fld (.fltStat u) fltStat_ACKSEQ = q
      ∧ ((s.faultAcked u q).funit u).pend = (s.funit u).pend.filter (fun x => !ackCovers q x)
      ∧ (∀ x ∈ (s.funit u).pend, ackCovers q x = true → (s.faultAcked u q).fld (.fltStat u) (pendPos x.1) = 0)
      ∧ (∀ r : Reg, r.addr ≠ (Reg.fltStat u).addr → (s.faultAcked u q).reg r = s.reg r) ∧ (s.faultAcked u q).parts = s.parts := by
  obtain ⟨honly, hreg⟩ := s.pendCleared_frame u q (s.funit u).pend
  refine ⟨State.fld_setFld_of_lt _ _ (by decide) hq, ?_, fun x hx hcov => ?_, fun r hr => ?_, ?_⟩
  · have hunit : (s.pendCleared u q (s.funit u).pend).funit u = s.funit u := by rw [honly]; rfl
    rw [State.faultAcked, State.funit_setFld, State.funit_setFunit_same _ _ (by omega), hunit]
  · obtain ⟨hw, hlo, hhi⟩ := pendPos_bounds x.1
    have hin : (pendPos x.1).lo + (pendPos x.1).w ≤ 64 := by omega
    rw [State.faultAcked, State.fld_setFld_apart _ _ _ hin (.inl (le_trans (by decide) hlo)), State.fld_setFunit]
    exact State.pendCleared_clears hx hcov s
  · exact (State.reg_setFld_ne _ _ _ hr).trans (hreg r hr)
  · show (s.pendCleared u q (s.funit u).pend).parts = s.parts
    rw [honly]

/-- A unit above 6 or a number at or after NEXTSEQ is refused with reason 0x03. -/
theorem State.runFaultAck_refused {c : Cmd} {s : State} (h : 6 < c.fld 2 0 3
      ∨ serialBefore (c.fld 2 16 16) (s.fld (.fltStat (c.fld 2 0 3)) fltStat_NEXTSEQ) = false) :
    ∃ off, State.runFaultAck c s = s.mgmtRec c stFORMAT (resFmt 3 off) := by
  rw [State.runFaultAck_eq]
  by_cases hu : 6 < c.fld 2 0 3
  · exact ⟨16, State.mgmtRange_refused (x := (3, 16)) (by rw [decide_eq_true hu, firstBad_cons_true])⟩
  · have hbefore := h.resolve_left hu
    exact ⟨18, State.mgmtRange_refused (x := (3, 18)) (by
      rw [decide_eq_false hu, firstBad_cons_false, hbefore, Bool.not_false, firstBad_cons_true])⟩

theorem State.runFaultAck_taken {c : Cmd} {s : State} (hu : c.fld 2 0 3 ≤ 6)
    (hq : serialBefore (c.fld 2 16 16) (s.fld (.fltStat (c.fld 2 0 3)) fltStat_NEXTSEQ) = true) :
    State.runFaultAck c s = (s.faultAcked (c.fld 2 0 3) (c.fld 2 16 16)).mgmtRec c stDONE 0 := by
  rw [State.runFaultAck_eq]
  exact State.mgmtRange_taken (by simp [hq, Nat.not_lt.mpr hu])

/-! ### Deadlines, quiet and stalls -/

section
variable {s : State} {u k : Nat} {p : FPend}

/-- A deadline that has passed, and with which no FAULT_ACK falls due, acts (R467, R468). -/
theorem State.deadlinePast_due (hp : (s.funit u).pend.find? (fun x => x.1 = k) = some (k, p)) (hpend : s.isPending u k = true)
    (hd : p.deadline ≤ s.fnow) (hack : p.deadline = s.fnow → s.ackWaits u p.seq = false) :
    s.deadlinePast u k =
      if k = clsFATAL then (s.count (.fltStat u) fltStat_FWMISS 1).setFunit u (fun f => { f with
        pend := updFirst (fun y => y.1 = k) (fun y => (y.1, { y.2 with deadline := p.deadline + us (s.fld .fltCtl fltCtl_ATO) })) f.pend })
      else ((((s.count (.fltStat u) fltStat_FWMISS 1).setFld (.fltStat u) (pendPos k) 0).setFunit u (fun f => { f with
          pend := f.pend.filter (fun y => y.1 ≠ k) })).raise u (k + 1) p.src p.code csTIMER p.count p.slice
            (decide (u < 6) && decide (s.pstate u = ptOOS))) := by
  have hacts : ¬ (!s.isPending u k ∨ s.fnow < p.deadline ∨ (s.fnow = p.deadline ∧ s.ackWaits u p.seq)) := by
    rw [hpend]
    rintro (h | h | ⟨heq, h⟩)
    · cases h
    · omega
    · simp [hack heq.symm] at h
  rw [State.deadlinePast, hp]
  exact if_neg hacts

theorem State.quietEnd_due (hst : s.fld (.fltStat u) fltStat_STATE ≠ 0)
    (hnone : ∀ c ∈ [clsCORR, clsCONT, clsFATAL], s.isPending u c = false)
    (hd : (s.funit u).lastAt + ms (s.fld .fltCtl fltCtl_QUIET) ≤ s.fnow) :
    s.quietEnd u = (s.setFld (.fltStat u) fltStat_STATE 0).count (.fltStat u) fltStat_RECOV 1 := by
  refine if_neg ?_
  rintro (h | h | h)
  · exact hst h
  · obtain ⟨c, hc, hpend⟩ := List.any_eq_true.mp h
    simp [hnone c hc] at hpend
  · omega

theorem State.engineStalled_due {n : Nat} {x : Src} (hr : s.runs n = true) (hfree : s.srcFenced n x = false)
    (hd : (s.progOf n x.st x.idx).at' + us (s.fld .hangCfg hangCfg_PTO) ≤ s.now) :
    s.engineStalled n x = State.event (s.setPart n (fun p => { p with stalled := some (x.st, x.idx) })) n 0x38 x := by
  refine if_neg ?_
  rw [hr, hfree, State.due_of_le hd]
  decide

end

end Sys2Proof.Machine

open Sys2Proof.Machine Sys2Proof

/-- Settles O41: the checks of the operands leave the acknowledgement to clear what it covers. -/
theorem faultAcknowledged : Obligations.FaultAcknowledged := by
  unfold Obligations.FaultAcknowledged
  intro s c hs hc ho u q m
  refine ⟨fun h => ?_, fun hu hq => ?_⟩
  · obtain ⟨off, hrun⟩ := State.runFaultAck_refused (s := m) h
    exact ⟨off, next_mgmtRow hs hc (decide_eq_true ho) hrun⟩
  · obtain ⟨hack, hpend, hclear, hreg, hparts⟩ := m.faultAcked_spec (q := q) hu (Nat.mod_lt _ (by decide))
    refine ⟨m.faultAcked u q, next_mgmtRow hs hc (decide_eq_true ho) (State.runFaultAck_taken hu hq), hack, fun x hx => ?_,
      fun x hx hcov => hclear x hx ?_, hreg, hparts⟩
    · rw [hpend, List.mem_filter] at hx
      simpa [ackCovers, not_or] using hx
    · simpa [ackCovers] using hcov

/-- Settles O56: each row takes the branch that acts, once the deadline, the quiet time or the watch is over. -/
theorem faultDeadlines : Obligations.FaultDeadlines := by
  unfold Obligations.FaultDeadlines
  intro s u k n p e hu hlo hhi hn hs
  refine ⟨fun hp hpend hd hack => ?_, fun hst hnone hd => ?_, fun he hr hfree hd => ?_⟩
  · have hpast := State.deadlinePast_due hp hpend hd hack
    have hwf : Instr.wf (.faultAckDeadline u k) = true := decide_eq_true ⟨hu, hlo, hhi⟩
    refine ⟨fun hk => ifWf_onLive hwf hs (hpast.trans (if_neg hk)), fun hk => ifWf_onLive hwf hs (hpast.trans ?_)⟩
    rw [if_pos hk, hk]
  · exact ifWf_onLive (decide_eq_true hu) hs (State.quietEnd_due hst hnone hd)
  · exact ifWf_onLive (decide_eq_true ⟨hn, he⟩) hs (State.engineStalled_due hr hfree hd)

end

section
/-! PROOF. Crash dumps: the slot a dump takes, and the rows of its engine (R483 to R487, R577). -/

namespace Sys2Proof.Machine

/-! ### The writes of a slot -/

/-- A direct write of a tile changes no register and nothing of the management unit. -/
theorem State.dsWriteTile_direct_frame (s : State) (part t lo : Nat) (d : List Byte) (job off : Nat) :
    (s.dsWriteTile .direct part t lo d job off).mg = s.mg ∧ (s.dsWriteTile .direct part t lo d job off).regs = s.regs := by
  unfold State.dsWriteTile
  split
  · exact ⟨rfl, rfl⟩
  · exact ⟨rfl, rfl⟩

theorem State.slotWrite_frame (s : State) (slot off : Nat) (d : List Byte) (cont : Cont) :
    (s.slotWrite slot off d cont).mg = s.mg ∧ (s.slotWrite slot off d cont).regs = s.regs := by
  refine List.foldlRecOn (motive := fun t : State => t.mg = s.mg ∧ t.regs = s.regs) _ _ ⟨rfl, rfl⟩ fun t ht x _ => ?_
  obtain ⟨hmg, hregs⟩ := ht
  obtain ⟨hmg', hregs'⟩ := t.dsWriteTile_direct_frame 0 (x.2.1 / 4096) (x.2.1 % 4096) (slice d x.1 x.2.2)
    (s.newJob 0 (pieces (slotAddr slot + off) d.length).length cont).1 x.1
  exact ⟨hmg'.trans hmg, hregs'.trans hregs⟩

/-! ### The slot a dump takes -/

/-- The lowest slot whose VALID bit is clear (R483). -/
def freeSlot (v : Nat) : Option Nat := (List.range 8).find? (fun i => !nbit v i)

theorem freeSlot_eq_some {v i : Nat} (h : freeSlot v = some i) :
    i < 8 ∧ nbit v i = false ∧ ∀ j, j < i → nbit v j = true := by
  obtain ⟨hi, hmem, hlow⟩ := List.find?_range_eq_some.mp h
  refine ⟨List.mem_range.mp hmem, by simpa using hi, fun j hj => by simpa using hlow j hj⟩

/-- No slot is free where all eight bits are set. -/
theorem freeSlot_eq_none {v : Nat} (hv : v < 256) (h : freeSlot v = none) : v = 255 := by
  refine Nat.eq_of_testBit_eq fun i => ?_
  rw [show 255 = 2 ^ 8 - 1 from rfl, Nat.testBit_two_pow_sub_one]
  by_cases hi : i < 8
  · have hset := List.find?_eq_none.mp h i (List.mem_range.mpr hi)
    simpa [hi, nbit] using hset
  · rw [decide_eq_false hi]
    exact Nat.testBit_lt_two_pow (lt_of_lt_of_le hv (Nat.pow_le_pow_right (n := 2) (by decide) (Nat.not_lt.mp hi)))

/-- The slot that a dump takes (R483): the slot after LAST where none is free. -/
def State.dumpSlot (s : State) : Nat :=
  (freeSlot (s.fld .dumpStat dumpStat_VALID)).getD ((s.fld .dumpStat dumpStat_LAST + 1) % 8)

theorem State.dumpSlot_lt (s : State) : s.dumpSlot < 8 := by
  unfold State.dumpSlot
  rcases h : freeSlot (s.fld .dumpStat dumpStat_VALID) with _ | i
  · exact Nat.mod_lt _ (by decide)
  · exact (freeSlot_eq_some h).1

/-- A counter that saturates. -/
theorem State.fld_count_same (s : State) (r : Reg) {p : Pos} (k : Nat) (hp : p.lo + p.w ≤ 64) :
    (s.count r p k).fld r p = min (s.fld r p + k) (2 ^ p.w - 1) := by
  have hlt : min (s.fld r p + k) (2 ^ p.w - 1) < 2 ^ p.w := lt_of_le_of_lt (Nat.min_le_right _ _) (by have := Nat.two_pow_pos p.w; omega)
  exact State.fld_setFld_of_lt s r hp hlt

/-- The registers at the start of a dump: an overwrite counted, the slot's VALID bit set, LAST and BUSY. -/
def State.dumpMarked (s : State) : State :=
  (((if (freeSlot (s.fld .dumpStat dumpStat_VALID)).isNone then s.count .dumpStat dumpStat_OVW 1 else s).setFld .dumpStat
    dumpStat_VALID (s.fld .dumpStat dumpStat_VALID ||| 2 ^ s.dumpSlot)).setFld .dumpStat dumpStat_LAST s.dumpSlot).setFld .dumpStat
    dumpStat_BUSY 1

theorem State.dumpStart_dump (s : State) (n : Nat) (c : Option Cmd) :
    ∃ d, (s.dumpStart n c).mg.dump = some d ∧ d.part = n ∧ d.slot = s.dumpSlot := by
  rcases c with _ | c
  · exact ⟨_, (congrArg Mgmt.dump (State.slotWrite_frame _ _ _ _ _).1).trans rfl, rfl, rfl⟩
  · exact ⟨_, (congrArg Mgmt.dump (State.slotWrite_frame _ _ _ _ _).1).trans rfl, rfl, rfl⟩

theorem State.fld_dumpStart (s : State) (n : Nat) (c : Option Cmd) (p : Pos) :
    (s.dumpStart n c).fld .dumpStat p = s.dumpMarked.fld .dumpStat p := by
  have hne : Reg.dumpStat.addr ≠ (Reg.rcvStat n).addr := by simp only [Reg.addr]; omega
  refine (State.fld_congr (State.slotWrite_frame _ _ _ _ _).2 _ _).trans ?_
  rcases c with _ | c
  · exact State.fld_setFld_ne _ _ _ _ hne
  · rfl

theorem State.dumpMarked_valid (s : State) :
    s.dumpMarked.fld .dumpStat dumpStat_VALID = s.fld .dumpStat dumpStat_VALID ||| 2 ^ s.dumpSlot := by
  have hlt : s.fld .dumpStat dumpStat_VALID ||| 2 ^ s.dumpSlot < 2 ^ 8 :=
    Nat.or_lt_two_pow (fget_lt _ _) (Nat.pow_lt_pow_right (by decide) s.dumpSlot_lt)
  rw [State.dumpMarked, State.fld_setFld_apart _ _ _ (by decide) (by decide), State.fld_setFld_apart _ _ _ (by decide) (by decide),
    State.fld_setFld_of_lt _ _ (by decide) hlt]

theorem State.dumpMarked_ovw (s : State) : s.dumpMarked.fld .dumpStat dumpStat_OVW =
    if (freeSlot (s.fld .dumpStat dumpStat_VALID)).isNone then min (s.fld .dumpStat dumpStat_OVW + 1) 255 else s.fld .dumpStat dumpStat_OVW := by
  rw [State.dumpMarked, State.fld_setFld_apart _ _ _ (by decide) (by decide), State.fld_setFld_apart _ _ _ (by decide) (by decide),
    State.fld_setFld_apart _ _ _ (by decide) (by decide)]
  split
  · exact State.fld_count_same _ _ _ (by decide)
  · rfl

theorem nbit_or_two_pow (v k i : Nat) : nbit (v ||| 2 ^ k) i = (nbit v i || decide (k = i)) := by
  simp [nbit, Nat.testBit_or, Nat.testBit_two_pow]

/-- The VALID bits that a dump leaves: its slot's set, each other as it was. -/
theorem State.nbit_valid_dumpMarked (s : State) (i : Nat) : nbit (s.dumpMarked.fld .dumpStat dumpStat_VALID) i =
    (nbit (s.fld .dumpStat dumpStat_VALID) i || decide (s.dumpSlot = i)) := by
  rw [State.dumpMarked_valid, nbit_or_two_pow]

/-- A slot that was not valid is the lowest such, and nothing is overwritten. -/
theorem State.dumpSlot_free {s : State} (h : nbit (s.fld .dumpStat dumpStat_VALID) s.dumpSlot = false) :
    (∀ i, i < s.dumpSlot → nbit (s.fld .dumpStat dumpStat_VALID) i = true)
      ∧ s.dumpMarked.fld .dumpStat dumpStat_OVW = s.fld .dumpStat dumpStat_OVW := by
  rcases hfree : freeSlot (s.fld .dumpStat dumpStat_VALID) with _ | i
  · have hfull := freeSlot_eq_none (fget_lt _ _) hfree
    have hset : ∀ i, i < 8 → nbit 255 i = true := by decide
    rw [hfull, hset _ s.dumpSlot_lt] at h
    cases h
  · obtain ⟨-, -, hlow⟩ := freeSlot_eq_some hfree
    refine ⟨?_, by rw [State.dumpMarked_ovw, hfree]; rfl⟩
    rw [State.dumpSlot, hfree]
    exact hlow

/-- A slot that was valid is the one after LAST, all being valid, and counts as overwritten. -/
theorem State.dumpSlot_full {s : State} (h : nbit (s.fld .dumpStat dumpStat_VALID) s.dumpSlot = true) :
    s.fld .dumpStat dumpStat_VALID = 255 ∧ s.dumpSlot = (s.fld .dumpStat dumpStat_LAST + 1) % 8
      ∧ s.dumpMarked.fld .dumpStat dumpStat_OVW = min 255 (s.fld .dumpStat dumpStat_OVW + 1) := by
  rcases hfree : freeSlot (s.fld .dumpStat dumpStat_VALID) with _ | i
  · exact ⟨freeSlot_eq_none (fget_lt _ _) hfree, by rw [State.dumpSlot, hfree]; rfl,
      by rw [State.dumpMarked_ovw, hfree, Nat.min_comm]; rfl⟩
  · obtain ⟨-, hclear, -⟩ := freeSlot_eq_some hfree
    rw [show s.dumpSlot = i by rw [State.dumpSlot, hfree]; rfl, hclear] at h
    cases h

/-! ### The rows of the dump engine -/

section
variable {s : State} {d : Dump} {a b w : Nat} {l : List (Nat × Nat)}

theorem State.dumpNext_waits {n : Nat} {c : Option Cmd} {l : List (Nat × Option Cmd)} (hnone : s.mg.dump = none)
    (hw : s.mg.engDump = (n, c) :: l) : s.dumpNext = State.dumpStart { s with mg := { s.mg with engDump := l } } n c := by
  rw [State.dumpNext, hnone, hw]
  rfl

theorem State.dumpLimit_due (hd : s.mg.dump = some d) (hend : d.ending = none) (ht : d.start + ms 5 ≤ s.now) :
    s.dumpLimit = s.dumpClose 3 := by
  rw [State.dumpLimit, hd]
  refine if_neg ?_
  rw [hend, State.due_of_le ht]
  decide

theorem State.dumpUnit_off (hd : s.mg.dump = some d) (hend : d.ending = none) (hu : d.units = (a, b) :: l)
    (hoff : s.unitOff d.part a b = true) : s.dumpUnit = (s.dumpAdd d a b 2 0 []).dumpAfter := by
  simp [State.dumpUnit, hd, hend, hu, hoff]

theorem State.dumpUnit_read (hd : s.mg.dump = some d) (hend : d.ending = none) (hu : d.units = (a, b) :: l)
    (hoff : s.unitOff d.part a b = false) : s.dumpUnit =
      ((s.noteSuspects d a b (s.unitData d.part a b).length).dumpAdd d a b 0 0 (s.unitData d.part a b)).dumpAfter := by
  simp [State.dumpUnit, hd, hend, hu, hoff]

theorem State.dumpLate_due (hd : s.mg.dump = some d) (hend : d.ending = none) (hu : d.units = (a, b) :: l)
    (hoff : s.unitOff d.part a b = false) (ht : d.askAt + us 2 ≤ s.now) (hw : 8 * w < (s.unitData d.part a b).length) :
    s.dumpLate w =
      ((s.noteSuspects d a b (w / 2 - 2)).dumpAdd d a b 1 w ((s.unitData d.part a b).take (8 * w))).dumpAfter := by
  simp only [State.dumpLate, hd, hu]
  refine if_neg ?_
  rw [hend, hoff, State.due_of_le ht]
  simpa using hw

end

end Sys2Proof.Machine

open Sys2Proof.Machine Sys2Proof

/-- Settles O58: the start by the slot's former VALID bit, and each row of the engine by the unit it reaches. -/
theorem dumps : Obligations.Dumps := by
  unfold Obligations.Dumps
  refine ⟨fun s n c => ?_, fun s d a b w l hs hd hend => ?_⟩
  · obtain ⟨d, hdump, hpart, hslot⟩ := s.dumpStart_dump n c
    refine ⟨fun hs hnone l hw => next_onLive hs (State.dumpNext_waits hnone hw), fun i => rfl, d, hdump, hpart, ?_⟩
    simp only [hslot, State.fld_dumpStart, State.nbit_valid_dumpMarked]
    exact ⟨s.dumpSlot_lt, by simp, fun i _ hne => by simp [Ne.symm hne], State.dumpSlot_free, State.dumpSlot_full⟩
  · refine ⟨fun ht => next_onLive hs (State.dumpLimit_due hd hend ht), fun hu => ⟨fun hoff => ?_, fun hoff => ⟨?_, fun ht hlen _ => ?_⟩⟩⟩
    · exact next_onLive hs (State.dumpUnit_off hd hend hu hoff)
    · exact next_onLive hs (State.dumpUnit_read hd hend hu hoff)
    · exact next_onLive hs (State.dumpLate_due hd hend hu hoff ht hlen)

end

section
/-! PROOF. Frame of the sensor and pace rows: the registers it leaves out are named by index, and an index is not bounded. -/

namespace Sys2Proof.Machine

/-- A fault threshold of a number far beyond the classes has the address of DX_PACE_STAT of P0. -/
theorem addr_fltThr_eq_paceStat : (Reg.fltThr 0x2020).addr = (Reg.paceStat 0).addr := rfl

/-- A droop trip of P0 counts in DX_PACE_STAT, whatever register that address is read as. -/
theorem reg_fltThr_droopTrip :
    (State.reset.after (State.reset.droopTrip 0)).reg (.fltThr 0x2020) ≠ State.reset.reg (.fltThr 0x2020) := by decide +kernel

theorem quiet_reset : State.reset.quiet = true := by decide +kernel

end Sys2Proof.Machine

open Sys2Proof.Machine Sys2Proof

/-- Refutes O59: DROOP_TRIP at P0 after reset changes the word at the address of DX_PACE_STAT[0], and that is the address of
`fltThr 0x2020` too, a register outside the map that the statement does not leave out. -/
theorem not_paceRowsFrame : ¬ Obligations.PaceRowsFrame := by
  unfold Obligations.PaceRowsFrame
  intro h
  have hexec : exec (.droopTrip 0) State.reset = .next (State.reset.after (State.reset.droopTrip 0)) :=
    ifWf_onPower (s := State.reset) (show Instr.wf (.droopTrip 0) = true by decide) (by decide +kernel) rfl
  obtain ⟨-, -, -, -, -, -, -, -, -, -, -, -, -, hreg⟩ := h (.droopTrip 0) rfl _ _ quiet_reset hexec
  exact reg_fltThr_droopTrip (hreg (.fltThr 0x2020) rfl)

end

section
/-! PROOF. Frame of control blocks and link timers (R273, R284, R290 to R292, R297, R298). -/

namespace Sys2Proof.Machine

/-! ### Changes of one link and its port's status -/

/-- `t` is `s` but for the link of port `k`, its status register, the outputs and the replay buffer. -/
structure State.OnlyLink (k : Nat) (s t : State) : Prop where
  rest : t = { s with regs := t.regs, links := t.links, out := t.out, sw := { s.sw with replay := t.sw.replay } }
  link : ∀ x, x ≠ k → t.link x = s.link x
  reg  : ∀ r : Reg, r.addr ≠ (statReg k).addr → t.reg r = s.reg r

theorem State.OnlyLink.refl (k : Nat) (s : State) : s.OnlyLink k s := ⟨rfl, fun _ _ => rfl, fun _ _ => rfl⟩

theorem State.OnlyLink.trans {k : Nat} {s t u : State} (h : s.OnlyLink k t) (h' : t.OnlyLink k u) : s.OnlyLink k u :=
  ⟨Eq.trans h'.rest (by rw [h.rest]), fun x hx => (h'.link x hx).trans (h.link x hx), fun r hr => (h'.reg r hr).trans (h.reg r hr)⟩

theorem State.OnlyLink.ite {k : Nat} {s t u : State} {p : Prop} [Decidable p] (ht : s.OnlyLink k t) (hu : s.OnlyLink k u) :
    s.OnlyLink k (if p then t else u) := by
  split
  · exact ht
  · exact hu

theorem State.onlyLink_foldl {α : Type} {k : Nat} {f : State → α → State} (hf : ∀ s a, State.OnlyLink k s (f s a)) (l : List α) (s : State) :
    s.OnlyLink k (l.foldl f s) :=
  List.foldlRecOn (motive := fun t : State => s.OnlyLink k t) _ _ (.refl k s) fun t ht a _ => ht.trans (hf t a)

theorem State.onlyLink_setLink (s : State) (k : Nat) (f : Link → Link) : s.OnlyLink k (s.setLink k f) :=
  ⟨rfl, fun x hx => by simp [State.link, State.setLink, Ne.symm hx], fun _ _ => rfl⟩

theorem State.onlyLink_emit (s : State) (k : Nat) (o : Out) : s.OnlyLink k (s.emit o) := ⟨rfl, fun _ _ => rfl, fun _ _ => rfl⟩

theorem State.onlyLink_setStat (s : State) (k : Nat) (p : Pos) (v : Nat) : s.OnlyLink k (s.setFld (statReg k) p v) :=
  ⟨rfl, fun _ _ => rfl, fun _ hr => s.reg_setFld_ne p v hr⟩

theorem State.onlyLink_replay (s : State) (k : Nat) (l : List Rep) : s.OnlyLink k { s with sw := { s.sw with replay := l } } :=
  ⟨rfl, fun _ _ => rfl, fun _ _ => rfl⟩

/-- A block that becomes pending waits in its port's link. -/
theorem State.onlyLink_pendCtl (s : State) (k : Nat) (b : BitVec 64) : s.OnlyLink k (s.pendCtl k b) := by
  unfold State.pendCtl
  exact s.onlyLink_setLink k _

theorem State.onlyLink_linkEmit (s : State) (k : Nat) (o : Out) : s.OnlyLink k (s.linkEmit k o) := by
  unfold State.linkEmit
  extract_lets w l d gone at' stop r r' s1 s2
  have h1 : s.OnlyLink k s1 := .ite (s.onlyLink_emit k _) (.refl k s)
  have h2 : s1.OnlyLink k s2 := .ite (s1.onlyLink_emit k _) (.refl k s1)
  exact ((h1.trans h2).trans (s2.onlyLink_emit k o)).trans (State.onlyLink_setLink _ k _)

/-! ### The rows -/

theorem State.onlyLink_startRx {s : State} {k : Nat} (n : Nat) (hidle : s.fld (statReg k) portStat_RXIDLE = 0) :
    s.OnlyLink k (s.startRx k n) := by
  rw [State.startRx_eq, if_neg (by simp [hidle])]
  exact .ite (.ite ((s.onlyLink_setLink k _).trans (State.onlyLink_pendCtl _ k _)) (s.onlyLink_setLink k _)) (.refl k s)

theorem State.onlyLink_creditRx (s : State) (k ch g : Nat) : s.OnlyLink k (s.creditRx k ch g) :=
  .ite (s.onlyLink_setLink k _) (.refl k s)

theorem State.onlyLink_ackRx (s : State) (k n : Nat) : s.OnlyLink k (s.ackRx k n) :=
  .ite (.refl k s) (.ite ((s.onlyLink_replay k _).trans (State.onlyLink_setLink _ k _)) (.refl k s))

theorem State.onlyLink_creditsAgain (s : State) (k : Nat) : s.OnlyLink k (s.creditsAgain k) :=
  .ite ((s.onlyLink_setLink k _).trans (State.onlyLink_foldl (fun t _ => t.onlyLink_pendCtl k _) _ _)) (.refl k s)

theorem State.onlyLink_ctlForced (s : State) (k : Nat) : s.OnlyLink k (s.ctlForced k) :=
  .ite ((s.onlyLink_setLink k _).trans (State.onlyLink_foldl (fun t _ => t.onlyLink_linkEmit k _) _ _)) (.refl k s)

theorem State.onlyLink_idleTx (s : State) (k : Nat) : s.OnlyLink k (s.idleTx k) :=
  .ite (((s.onlyLink_linkEmit k _).trans (State.onlyLink_setStat _ k _ _)).trans (State.onlyLink_emit _ k _)) (.refl k s)

theorem State.onlyLink_exitIdle (s : State) (k : Nat) : s.OnlyLink k (s.exitIdle k) :=
  .ite (((s.onlyLink_setStat k _ _).trans (State.onlyLink_emit _ k _)).trans (State.onlyLink_setLink _ k _)) (.refl k s)

/-! ### What a row leaves once it has settled -/

/-- No status register of a port is one of the command ring's. -/
theorem addr_statReg_ne_ring : ∀ k < 18,
    Reg.mqCfg.addr ≠ (statReg k).addr ∧ Reg.mqHead.addr ≠ (statReg k).addr ∧ Reg.mqTail.addr ≠ (statReg k).addr := by decide

/-- Such a change leaves nothing to be settled where nothing waited. -/
theorem State.OnlyLink.quiet_eq {k : Nat} {s t : State} (h : s.OnlyLink k t) (hk : k < 18) : t.quiet = s.quiet := by
  obtain ⟨hcfg, hhead, htail⟩ := addr_statReg_ne_ring k hk
  have hmg : t.mg = s.mg := by rw [h.rest]
  have hfetch : t.mayFetch = s.mayFetch := by
    unfold State.mayFetch State.fld
    rw [h.reg _ hcfg, h.reg _ hhead, h.reg _ htail, hmg]
  unfold State.quiet
  rw [hfetch, h.rest]
  rfl

/-- What such a row leaves: its own link, its port's status, and PEND aside, all is as it was. -/
def State.LinkFrame (k : Nat) (s t : State) : Prop :=
  t.st = s.st ∧ t.tp = s.tp ∧ t.mv = s.mv ∧ t.gals = s.gals ∧ t.sec = s.sec ∧ t.mg = s.mg ∧ t.lanes = s.lanes ∧ t.evq = []
    ∧ t.sw.copies = s.sw.copies ∧ t.sw.rx = s.sw.rx ∧ t.sw.inbox = s.sw.inbox
    ∧ (∀ x, x ≠ k → t.link x = s.link x)
    ∧ (∀ r : Reg, r.addr ≠ (statReg k).addr → r.addr ≠ Reg.mqHead.addr → t.reg r = s.reg r)

theorem State.OnlyLink.frame {k : Nat} {s t : State} (h : s.OnlyLink k t) (hevq : s.evq = []) : s.LinkFrame k t := by
  refine ⟨?_, ?_, ?_, ?_, ?_, ?_, ?_, ?_, ?_, ?_, ?_, h.link, fun r hr _ => h.reg r hr⟩
  case refine_8 => rw [h.rest, ← hevq]
  all_goals rw [h.rest]

/-- Settling where nothing waits refreshes PEND, and the clock and the lines are those of the row. -/
theorem State.LinkFrame.settled {k : Nat} {s t : State} (h : s.LinkFrame k t) : s.LinkFrame k (s.atOnce t.pendRefresh) := by
  obtain ⟨hst, htp, hmv, hgals, hsec, hmg, hlanes, hevq, hcopies, hrx, hinbox, hlink, hreg⟩ := h
  exact ⟨hst, htp, hmv, hgals, hsec, hmg, hlanes, hevq, hcopies, hrx, hinbox, hlink,
    fun r hr hne => (t.reg_setFld_ne _ _ hne).trans (hreg r hr hne)⟩

theorem State.linkFrame_of_row {ok : Bool} {k : Nat} {s t u : State} (hok : ok = true → k < 18) (hq : s.quiet = true)
    (hu : s.OnlyLink k u) (he : ifWf ok (s.onLive u) = .next t) : s.LinkFrame k t := by
  obtain ⟨hevq, -⟩ := State.quiet_iff.mp hq
  obtain ⟨hwf, rfl⟩ := ifWf_eq_next.mp he
  by_cases hs : s.isLive = true
  · rw [State.onLive_of_isLive hs, s.after_of_quiet ((hu.quiet_eq (hok hwf)).trans hq)]
    exact (hu.frame hevq).settled
  · rw [show s.onLive u = s from if_neg hs]
    exact (State.OnlyLink.refl k s).frame hevq

end Sys2Proof.Machine

open Sys2Proof.Machine Sys2Proof

/-- Settles O60: each row changes its own link, and settling adds nothing but PEND where nothing waits. -/
theorem linkRowsFrame : Obligations.LinkRowsFrame := by
  unfold Obligations.LinkRowsFrame
  intro c k hc s t hq hidle he
  show s.LinkFrame k t
  split at hc
  case h_1 n =>
    obtain rfl := Option.some.inj hc
    exact State.linkFrame_of_row of_decide_eq_true hq (State.onlyLink_startRx _ (hidle n rfl)) he
  case h_2 ch g =>
    obtain rfl := Option.some.inj hc
    exact State.linkFrame_of_row (fun h => (of_decide_eq_true h).1) hq (s.onlyLink_creditRx _ ch g.toNat) he
  case h_3 n =>
    obtain rfl := Option.some.inj hc
    exact State.linkFrame_of_row of_decide_eq_true hq (s.onlyLink_ackRx _ n.toNat) he
  case h_4 =>
    obtain rfl := Option.some.inj hc
    exact State.linkFrame_of_row of_decide_eq_true hq (s.onlyLink_creditsAgain _) he
  case h_5 =>
    obtain rfl := Option.some.inj hc
    exact State.linkFrame_of_row of_decide_eq_true hq (s.onlyLink_ctlForced _) he
  case h_6 =>
    obtain rfl := Option.some.inj hc
    exact State.linkFrame_of_row of_decide_eq_true hq (s.onlyLink_idleTx _) he
  case h_7 =>
    obtain rfl := Option.some.inj hc
    exact State.linkFrame_of_row of_decide_eq_true hq (s.onlyLink_exitIdle _) he
  case h_8 => cases hc

end
